-- ==== Sys2Proof/Word.lean ====
section
/-! DEFINITION. Bytes, texts, roundings and fixed tables of values: the plain arithmetic the whole model rests on. -/

namespace Sys2Proof

/-- One byte of a serial line. -/
abbrev Byte := BitVec 8

/-- The characters of a text field, each one byte (spec 00_scope, section 6.3). -/
abbrev Text := List Byte

/-- `lo ≤ x ≤ hi`, as the ranges of the spec are written: both ends included (section 6.4). -/
def inNat (lo hi x : Nat) : Bool := decide (lo ≤ x) && decide (x ≤ hi)

/-- `lo ≤ x ≤ hi` for a signed field. -/
def inInt (lo hi x : Int) : Bool := decide (lo ≤ x) && decide (x ≤ hi)

/-- A computed value clamped to its range (section 6.3). -/
def clampInt (lo hi x : Int) : Int := if x < lo then lo else if hi < x then hi else x

/-- Division of a non-negative quantity, rounded half up (section 6.2). -/
def divHalfUp (a b : Nat) : Nat := (2 * a + b) / (2 * b)

/-- A sequence counter of 32 bits after one addition: from 4,294,967,295 it returns to 0 (R4, R87). -/
def nextSeq (x : Nat) : Nat := (x + 1) % 4294967296

/-- Apply a function at every place of a fixed-length table. -/
def mapVec {α β : Type} {n : Nat} (f : α → β) (v : Vector α n) : Vector β n :=
  ⟨⟨v.toArray.toList.map f⟩, by simp⟩

/-- Insert into a list that is kept sorted by `le`; the new entry goes before the first entry it may precede. -/
def insertBy {α : Type} (le : α → α → Bool) (x : α) : List α → List α
  | [] => [x]
  | y :: ys => if le x y then x :: y :: ys else y :: insertBy le x ys

/-- The list in the order of `le`, by insertion. -/
def sortBy {α : Type} (le : α → α → Bool) : List α → List α
  | [] => []
  | x :: xs => insertBy le x (sortBy le xs)

end Sys2Proof
end

