-- ==== Sys2Proof/Config.lean ====
section
/-! DEFINITION. What the part fixes once and for all (sizes, fixed times, fixed tables), and the one free value the spec leaves open. -/

namespace Sys2Proof

/-- The value the spec leaves open each time one is needed: READ HEAD gives the milliseconds left of a warm-up and the
minutes left of the idle timer (R82), and this model keeps no clock. Nothing is known of it: no body, no bound of its own.
The n-th use of an open value reads `freeValue n`. Assumption log entry 4. -/
opaque Config.freeValue : Nat → Nat

namespace Config

/-- Live orders the work list can hold (R1). -/
def maxOrders : Nat := 24
/-- Depth of the in-service stack (R9). -/
def maxStack : Nat := 4
/-- Attempts of a slide (R2, R135). -/
def maxAttempts : Nat := 3
/-- Notices the notice queue can hold (R198). -/
def maxNotices : Nat := 16
/-- Labels the label queue can hold (R150). -/
def maxLabels : Nat := 32
/-- Lamp warm-up in milliseconds (R77). -/
def warmUpMs : Nat := 1500
/-- The value of SET PLACEMENT that turns the pointer off (R55). -/
def pointerOff : Nat := 63
/-- Greatest total of a tally counter (R173). -/
def maxTotal : Nat := 4294967295
/-- Greatest density a reading is taken as (R80, section 6.3). -/
def maxDensity : Nat := 400

/-- The magnification table of R37, by the code c. -/
def magnification : List Nat := [0, 3, 6, 9, 12, 14, 16, 18, 20, 22, 24, 26, 27, 29, 30, 32]

/-- The mantissa table of R45, by the twelfths r. -/
def mantissa : List Nat := [1000, 1059, 1122, 1189, 1260, 1335, 1414, 1498, 1587, 1682, 1782, 1888]

end Config

end Sys2Proof
end

