-- ==== Sys2Proof/Syntax.lean ====
section
/-! DEFINITION. The commands of the part: one constructor of `Instr` for each row of spec/opcode_table.json, with the row's operands.

A request row is the arrival on the desk link of that request whole and correct. Its fields are the raw values the body
carries (R193), not yet tested against their ranges: the owning block tests them, as its rule says. A sense, token or timer
row is the event the part takes on its other lines. -/

namespace Sys2Proof

/-- The two film backs on the turret. -/
inductive BackId where
  | backA | backB
deriving DecidableEq, Repr

/-- One slide entry of a PLACE ORDER (R3, R196). -/
structure SlideReq where
  cat     : Nat
  caption : Option Text
  adjust  : Option Int
deriving DecidableEq, Repr

/-- The fields of PLACE ORDER (R3, R196). -/
structure PlaceReq where
  number   : Nat
  account  : Nat
  lecturer : Nat
  cls      : Nat
  stock    : Nat
  n        : Nat
  spacing  : Nat
  offset   : Int
  magn     : Nat
  title    : Text
  slides   : List SlideReq
deriving DecidableEq, Repr

/-- The fields of AMEND ORDER (R19, R194); the value of a field the mask does not select plays no part. -/
structure AmendReq where
  number   : Nat
  mask     : BitVec 16
  cls      : Nat := 0
  n        : Nat := 0
  spacing  : Nat := 0
  offset   : Int := 0
  magn     : Nat := 0
  account  : Nat := 0
  lecturer : Nat := 0
  title    : Text := []
deriving DecidableEq, Repr

/-- The fields of SET STOCK (R29). -/
structure StockReq where
  stock   : Nat
  enabled : Nat
  name    : Text
  eRef    : Nat
  k       : Nat
  filter  : Nat
  rate    : Nat
deriving DecidableEq, Repr

/-- One entry of MAP TRAY: a position and a catalogue number, 0 for EMPTY (R68). -/
structure TrayReq where
  pos : Nat
  cat : Nat
deriving DecidableEq, Repr

/-- One entry of REPORT SELECTIONS; the step is carried with KEEP only (R131). -/
structure SelectReq where
  first   : Nat
  outcome : Nat
  step    : Int := 0
deriving DecidableEq, Repr

/-- The fields of SET STAND (R116). -/
structure StandReq where
  mask         : BitVec 16
  feedLimit    : Nat := 0
  advanceLimit : Nat := 0
  leaderCount  : Nat := 0
  fill         : Nat := 0
  idleMinutes  : Nat := 0
  tokenLimit   : Nat := 0
deriving DecidableEq, Repr

/-- The fields of SET COUNTER (R179). -/
structure CounterReq where
  counter   : Nat
  mask      : BitVec 16
  enabled   : Nat := 0
  kinds     : Nat := 0
  acctMatch : Nat := 0
  acctMask  : Nat := 0
  stocks    : Nat := 0
  ceiling   : Option Nat := none
  level     : Option Nat := none
  note      : Nat := 0
  total     : Nat := 0
deriving DecidableEq, Repr

/-- A desk request, read whole from a body (R192); READ PROFILE and READ LABELS have two forms each. -/
inductive Request where
  | placeOrder (q : PlaceReq)
  | amendOrder (q : AmendReq)
  | cancelOrder (number : Nat)
  | holdOrder (number : Nat)
  | releaseOrder (number : Nat)
  | setFloor (floor : Nat)
  | readOrder (number first : Nat)
  | setStock (q : StockReq)
  | readStock
  | setProfile (cat mode : Nat) (p : Int) (fixed : Option Nat)
  | setRange (slot base exponent : Nat) (p : Int)
  | dropProfile (table slot : Nat)
  | setPlacement (slot : Nat)
  | readProfileTable (table first : Nat)
  | readProfileLookup (cat : Nat)
  | mapTray (entries : List TrayReq)
  | readTray (first : Nat)
  | readHead
  | loadRoll (back roll stock declared : Nat)
  | rewindBack (back : Nat)
  | unloadBack (back : Nat)
  | clearBack (back : Nat)
  | readBack
  | startStand
  | stopStand
  | abortSlide
  | resetStand
  | setStand (q : StandReq)
  | readStand
  | reportSelections (roll : Nat) (entries : List SelectReq)
  | closeRoll (roll disposition : Nat)
  | readRoll (roll first : Nat)
  | readFrames (roll first : Nat)
  | printLabels (count : Nat)
  | pausePrinter
  | resumePrinter
  | relabel (roll frame : Nat)
  | setDate (date : Nat)
  | readLabelsLine (first : Nat)
  | readLabelsRecord (roll frame : Nat)
  | setRates (mount threshold surcharge : Nat)
  | setCounter (q : CounterReq)
  | lockCounter (counter : Nat)
  | adjustAccount (account : Nat) (amount : Int)
  | closePeriod
  | readCounters (first : Nat)
deriving DecidableEq, Repr

/-- The commands: one constructor per row of spec/opcode_table.json, in the table's order. -/
inductive Instr where
  | placeOrder (q : PlaceReq)
  | amendOrder (q : AmendReq)
  | cancelOrder (number : Nat)
  | holdOrder (number : Nat)
  | releaseOrder (number : Nat)
  | setFloor (floor : Nat)
  | readOrder (number first : Nat)
  | setStock (q : StockReq)
  | readStock
  | setProfile (cat mode : Nat) (p : Int) (fixed : Option Nat)
  | setRange (slot base exponent : Nat) (p : Int)
  | dropProfile (table slot : Nat)
  | setPlacement (slot : Nat)
  | readProfileTable (table first : Nat)
  | readProfileLookup (cat : Nat)
  | mapTray (entries : List TrayReq)
  | readTray (first : Nat)
  | readHead
  | loadRoll (back roll stock declared : Nat)
  | rewindBack (back : Nat)
  | unloadBack (back : Nat)
  | clearBack (back : Nat)
  | readBack
  | startStand
  | stopStand
  | abortSlide
  | resetStand
  | setStand (q : StandReq)
  | readStand
  | reportSelections (roll : Nat) (entries : List SelectReq)
  | closeRoll (roll disposition : Nat)
  | readRoll (roll first : Nat)
  | readFrames (roll first : Nat)
  | printLabels (count : Nat)
  | pausePrinter
  | resumePrinter
  | relabel (roll frame : Nat)
  | setDate (date : Nat)
  | readLabelsLine (first : Nat)
  | readLabelsRecord (roll frame : Nat)
  | setRates (mount threshold surcharge : Nat)
  | setCounter (q : CounterReq)
  | lockCounter (counter : Nat)
  | adjustAccount (account : Nat) (amount : Int)
  | closePeriod
  | readCounters (first : Nat)
  /-- Power-on: the straps (tied or open), the tray-present sense and the gate-loaded sense as they are found (R83, R186, R200). -/
  | powerOn (strap1Tied strap0Tied traySense gateSense : Bool)
  /-- The CHECK byte of a frame ends it; LENGTH is the count of KIND and BODY (R187, R190). -/
  | frameEnd (kind : Byte) (body : List Byte) (check : Byte)
  | badLengthByte
  /-- 50 ms with no byte; the kind is given when it had been received (R189). -/
  | gapTimeout (kind : Option Byte)
  | heldRequestTaken
  | overrunFrameEnd
  | linkBreak
  | lineFreeSend
  | feederOpStart
  | feedHomeDone
  | homeComplete
  | feedComplete
  | returnComplete
  | feederTimeout
  | trayOut
  | trayIn
  | gateLoaded
  | gateCleared
  /-- The end of the warm-up, with the lamp-current sense as it is read then (R77). -/
  | warmUpEnd (lampSense : Bool)
  | lampFailure
  | idleTimerExpiry
  /-- The five readings, in hundredths of density, 0..1023: centre, upper left, upper right, lower left, lower right (R80). -/
  | meterComplete (centre upperLeft upperRight lowerLeft lowerRight : Nat)
  | meterTimeout
  | ndSetStart
  | ndSetComplete
  | ndTimeout
  | advanceStart (back : BackId)
  | advanceComplete (back : BackId)
  | advanceTimeout (back : BackId)
  | filmEnd (back : BackId)
  | swapStart
  | swapComplete
  | swapTimeout
  | rewindComplete (back : BackId)
  | rewindTimeout (back : BackId)
  | exposeStart
  | shutterTicksEnd
  | exposeComplete
  | exposeTimeout
  | shutterEarlyClose
  | printedToken
  | jammedToken
  | outOfLabelsToken
  | formatErrorToken
  | tokenTimeout
  | unknownPrinterByte (byte : Byte)
  | labelFrameSent
  | syncReceived
deriving DecidableEq, Repr

end Sys2Proof
end

