-- ==== Sys2Proof/Machine/State.lean ====
section
/-! DEFINITION. The state of the part, block by block as section 3 of the introduction lists them, the state after
power-on, and the reasons a step can stop (there is none but a command not modelled). -/

namespace Sys2Proof.Machine

/-! ## Work list (01_orders_and_the_work_list) -/

/-- Outcome of a slide (R2). -/
inductive SlideOutcome where
  | notShot | shot | kept | reshootDue | rejected
deriving DecidableEq, Repr

/-- A slide entry of an order (R2). -/
structure Slide where
  cat      : Nat
  caption  : Option Text
  adjust   : Option Int
  shift    : Int
  attempts : Nat
  outcome  : SlideOutcome
deriving DecidableEq, Repr

/-- Hold reason (R1), with the failing counter while it is CEILING. -/
inductive HoldReason where
  | host | original | film
  | ceiling (failing : Nat)
deriving DecidableEq, Repr

/-- State of an order with its hold reason while HELD (R1, R5). -/
inductive OrderState where
  | pending | active | preempted | filling
  | held (reason : HoldReason)
  | exposed
deriving DecidableEq, Repr

/-- Former state of a FILLING order (R1). -/
inductive FormerState where
  | pending | preempted | active
deriving DecidableEq, Repr

/-- An order record (R1). -/
structure Order where
  number        : Nat
  seq           : Nat
  account       : Nat
  lecturer      : Nat
  cls           : Nat
  stock         : Nat
  n             : Nat
  spacing       : Nat
  offset        : Int
  magn          : Nat
  title         : Text
  slides        : List Slide
  state         : OrderState
  former        : Option FormerState
  cancelPending : Bool
  holdPending   : Bool
deriving DecidableEq, Repr

/-- The work list: live orders (by placement sequence, the oldest first), the in-service stack by order number (the top
first), the librarian's floor and the placement sequence counter (R1, R4, R8, R9). -/
structure WorkList where
  orders   : List Order
  stack    : List Nat
  floor    : Nat
  placeSeq : Nat
deriving DecidableEq, Repr

/-! ## Exposure computer (02_exposure_arithmetic) -/

/-- A stock entry (R28). -/
structure StockEntry where
  enabled : Bool
  name    : Text
  eRef    : Nat
  k       : Nat
  filter  : Nat
  rate    : Nat
deriving DecidableEq, Repr

/-- One step of a bracket plan (R40 to R46). -/
structure PlanStep where
  j          : Int
  e          : Int
  code       : Nat
  nd         : Nat
  ticks      : Nat
  dense      : Bool
  shortClamp : Bool
  longClamp  : Bool
deriving DecidableEq, Repr

/-- A bracket plan (R33, R46). -/
structure Plan where
  d     : Nat
  dt    : Nat
  m     : Nat
  a     : Int
  s     : Int
  steps : List PlanStep
deriving DecidableEq, Repr

/-! ## Profile table (03_the_profile_table) -/

/-- Mode of an original entry (R48). -/
inductive ProfileMode where
  | learned | manual | noLearn
deriving DecidableEq, Repr

/-- Last outcome step of an original entry (R48). -/
inductive LastStep where
  | kept (j : Int)
  | under | over
deriving DecidableEq, Repr

/-- A valid original entry (R48). -/
structure OriginalEntry where
  cat   : Nat
  mode  : ProfileMode
  p     : Int
  fixed : Option Nat
  used  : Bool
  uses  : Nat
  last  : Option LastStep
deriving DecidableEq, Repr

/-- A valid range entry (R49). -/
structure RangeEntry where
  base     : Nat
  exponent : Nat
  p        : Int
deriving DecidableEq, Repr

/-- The profile table: a slot that is `none` is invalid; a pointer that is `none` is off (R48, R49, R55). -/
structure ProfileTable where
  originals : Vector (Option OriginalEntry) 48
  ranges    : Vector (Option RangeEntry) 8
  pointer   : Option Nat
deriving DecidableEq, Repr

/-- Profile source of a lookup, `miss` for NONE (R50). -/
inductive ProfileSource where
  | original (slot : Nat)
  | range (slot : Nat)
  | miss
deriving DecidableEq, Repr

/-- What a lookup hands over (R51). -/
structure ProfileResult where
  source : ProfileSource
  p      : Int
  fixed  : Option Nat
deriving DecidableEq, Repr

/-! ## Feeder controller (04_tray_feeder_and_light_head) -/

/-- The gate record (R67). -/
inductive Gate where
  | empty
  | holds (pos cat : Nat)
  | foreign
deriving DecidableEq, Repr

/-- A feeder operation (R72 to R75). -/
inductive FeederJob where
  | home
  | feed (pos cat : Nat)
  | ret (pos : Nat)
deriving DecidableEq, Repr

/-- The feeder operation in flight: whether a FEED is in its HOME movement (R74), the feed timeout it started with (R72),
whether it was started before the latest RESET STAND (R76), and whether it belongs to the cycle in flight. -/
structure FeederOp where
  job     : FeederJob
  homing  : Bool
  limit   : Nat
  stale   : Bool
  ofCycle : Bool
deriving DecidableEq, Repr

/-- A feeder operation asked for and waiting (R72). -/
structure FeederWait where
  job     : FeederJob
  ofCycle : Bool
deriving DecidableEq, Repr

/-- The feeder controller (R66, R67, R72). `gateSense` is the gate-loaded sense line; `feedBusy` are the positions busy for
a FEED not yet ended; a position that is `none` is UNKNOWN. -/
structure Feeder where
  map       : Vector (Option Nat) 80
  present   : Bool
  pos       : Option Nat
  gate      : Gate
  gateSense : Bool
  op        : Option FeederOp
  waiting   : List FeederWait
  feedBusy  : List Nat
deriving DecidableEq, Repr

/-! ## Light head controller -/

/-- Lamp state (section 4.5). -/
inductive Lamp where
  | off | warming | ready | failed
deriving DecidableEq, Repr

/-- The last meter readings (R80), with the effective density `d` of R34 that stays with them. -/
structure Readings where
  centre     : Nat
  upperLeft  : Nat
  upperRight : Nat
  lowerLeft  : Nat
  lowerRight : Nat
  d          : Nat
  dense      : Bool
  cat        : Nat
deriving DecidableEq, Repr

/-- A METER in flight with the catalogue number of the HOLDS record it reads (R80). -/
structure MeterOp where
  cat     : Nat
  stale   : Bool
  ofCycle : Bool
deriving DecidableEq, Repr

/-- An ND SET in flight (R81). -/
structure NdOp where
  target  : Nat
  stale   : Bool
  ofCycle : Bool
deriving DecidableEq, Repr

/-- An ND SET asked for and waiting (R81). -/
structure NdWait where
  target  : Nat
  ofCycle : Bool
deriving DecidableEq, Repr

/-- The light head controller. `idle` holds the minutes the running idle timer was started with (R79); an ND position that
is `none` is UNKNOWN (R81). -/
structure Head where
  lamp      : Lamp
  idle      : Option Nat
  nd        : Option Nat
  ndOp      : Option NdOp
  ndWaiting : List NdWait
  meter     : Option MeterOp
  readings  : Option Readings
deriving DecidableEq, Repr

/-! ## Film transport (05_film_backs_and_rolls) -/

/-- Kind of a frame record (R89). -/
inductive FrameKind where
  | exposure | spoilt
deriving DecidableEq, Repr

/-- Selection of a frame record (R89). -/
inductive Selection where
  | unselected | kept | discarded
deriving DecidableEq, Repr

/-- Label state of a kept frame (R149). -/
inductive LabelState where
  | waiting | queued | printed | failed
deriving DecidableEq, Repr

/-- A frame record (R89). -/
structure Frame where
  number     : Nat
  kind       : FrameKind
  group      : Nat
  step       : Int
  code       : Nat
  nd         : Nat
  ticks      : Nat
  dense      : Bool
  shortClamp : Bool
  longClamp  : Bool
  amount     : Option Nat
  account    : Option Nat
  credited   : Bool
  selection  : Selection
  label      : Option LabelState
deriving DecidableEq, Repr

/-- Completeness of a group (R88). -/
inductive Completeness where
  | opened | complete | incomplete
deriving DecidableEq, Repr

/-- Outcome of a group (R88). -/
inductive GroupOutcome where
  | unselected
  | kept (j : Int)
  | rejectUnder | rejectOver | reject | discarded
deriving DecidableEq, Repr

/-- A group record (R88). -/
structure Group where
  order        : Nat
  slide        : Nat
  cat          : Nat
  attempt      : Nat
  first        : Nat
  n            : Nat
  spacing      : Nat
  s            : Int
  source       : ProfileSource
  pUsed        : Int
  exposed      : Nat
  completeness : Completeness
  outcome      : GroupOutcome
deriving DecidableEq, Repr

/-- How a roll record left its back (R86). -/
inductive UnloadKind where
  | rewound | cleared
deriving DecidableEq, Repr

/-- A roll record (R86). Its place is where it is held: a back or a register slot. -/
structure Roll where
  id         : Nat
  stock      : Nat
  declared   : Nat
  next       : Nat
  loadSeq    : Nat
  unloadSeq  : Option Nat
  unloadKind : Option UnloadKind
  endMark    : Option Nat
  groups     : List Group
  frames     : List Frame
deriving DecidableEq, Repr

/-- Fault reason of a back (R84). -/
inductive BackFault where
  | advanceTimeout | rewindTimeout
deriving DecidableEq, Repr

/-- State of a back with its fault reason while FAULT (R84). -/
inductive BackState where
  | empty | leader | ready | full | ended | rewinding | rewound
  | fault (reason : BackFault)
deriving DecidableEq, Repr

/-- Gate frame of a back (R84). -/
inductive GateFrame where
  | fresh | spent
deriving DecidableEq, Repr

/-- Cause of an ADVANCE (R84). -/
inductive AdvanceCause where
  | leader | step | spent
deriving DecidableEq, Repr

/-- An ADVANCE in flight, with the advance timeout it started with (R94) and whether it is the step advance of the cycle
in flight. -/
structure AdvanceOp where
  cause   : AdvanceCause
  limit   : Nat
  ofCycle : Bool
deriving DecidableEq, Repr

/-- An ADVANCE asked for and waiting (R94). -/
structure AdvanceWait where
  cause   : AdvanceCause
  ofCycle : Bool
deriving DecidableEq, Repr

/-- A back record (R84). -/
structure Back where
  state      : BackState
  roll       : Option Roll
  gateFrame  : GateFrame
  advance    : Option AdvanceOp
  waiting    : List AdvanceWait
  leaderLeft : Nat
  owed       : Bool
deriving DecidableEq, Repr

/-- Turret position (R102). -/
inductive Turret where
  | stands (back : BackId)
  | turning (target : BackId)
  | unknown
deriving DecidableEq, Repr

/-- A SWAP in flight; its target is the one the turret is TURNING to (R102). -/
structure SwapOp where
  target  : BackId
  stale   : Bool
  ofCycle : Bool
deriving DecidableEq, Repr

/-- A SWAP asked for and waiting (R102). -/
structure SwapWait where
  target  : BackId
  ofCycle : Bool
deriving DecidableEq, Repr

/-- The film transport: both backs, the turret and the two sequence counters (R84, R87, R102). -/
structure Film where
  backA       : Back
  backB       : Back
  turret      : Turret
  swap        : Option SwapOp
  swapWaiting : List SwapWait
  loadSeq     : Nat
  unloadSeq   : Nat
deriving DecidableEq, Repr

/-! ## Stand sequencer (06_the_slide_cycle) -/

/-- Halt reasons (section 6.1). -/
inductive HaltReason where
  | feedTimeout | trayOut | lampFail | meterTimeout | ndTimeout | swapTimeout | shutterFault
deriving DecidableEq, Repr

/-- Stand state with the halt reason while HALTED (R110). -/
inductive StandMode where
  | stopped | running | stopping
  | halted (reason : HaltReason)
deriving DecidableEq, Repr

/-- Abort cause of a cycle (R117, R123). -/
inductive AbortCause where
  | abortSlide | reset
  | halt (reason : HaltReason)
  | advanceTimeout | filmEnd
deriving DecidableEq, Repr

/-- Phase of a cycle (R117); the step named by EXPOSING and ADVANCING is found from the next step. -/
inductive Phase where
  | loading | metering | exposing | advancing | finishing | ending
deriving DecidableEq, Repr

/-- The stand settings (R116). -/
structure Settings where
  feedLimit    : Nat
  advanceLimit : Nat
  leaderCount  : Nat
  fill         : Bool
  idleMinutes  : Nat
  tokenLimit   : Nat
deriving DecidableEq, Repr

/-- The cycle record (R117). The operations awaited are read off the operations themselves. -/
structure Cycle where
  order      : Nat
  slide      : Nat
  cat        : Nat
  attempt    : Nat
  back       : BackId
  stock      : Nat
  n          : Nat
  spacing    : Nat
  offset     : Int
  magn       : Nat
  account    : Nat
  cls        : Nat
  adjust     : Int
  shift      : Int
  pos        : Nat
  profile    : ProfileResult
  plan       : Option Plan
  groupFirst : Option Nat
  nextStep   : Nat
  phase      : Phase
  cause      : Option AbortCause
deriving DecidableEq, Repr

/-- An EXPOSE in flight: the ticks of its step and whether the close command has been given (R120). -/
structure Expose where
  ticks   : Nat
  closing : Bool
deriving DecidableEq, Repr

/-- The stand sequencer (R110, R116, R117). -/
structure Stand where
  mode     : StandMode
  settings : Settings
  cycle    : Option Cycle
  expose   : Option Expose
deriving DecidableEq, Repr

/-! ## Label unit (08_mount_labels) -/

/-- A label named by roll id and frame number (R148). -/
structure LabelKey where
  roll  : Nat
  frame : Nat
deriving DecidableEq, Repr

/-- A label record (R148). -/
structure LabelRecord where
  key      : LabelKey
  cat      : Nat
  caption  : Text
  course   : Text
  lecturer : Nat
  account  : Nat
  date     : Nat
  stock    : Nat
deriving DecidableEq, Repr

/-- Stop reason of the printer line (R152). -/
inductive StopReason where
  | jammed | outOfLabels | noToken
deriving DecidableEq, Repr

/-- Line state with the stop reason while STOPPED (R152). -/
inductive LineState where
  | idle | awaiting | paused
  | stopped (reason : StopReason)
deriving DecidableEq, Repr

/-- The run (R152). -/
inductive Run where
  | off
  | opened
  | counted (left : Nat)
deriving DecidableEq, Repr

/-- A printer token (R153). -/
inductive Token where
  | printed | jammed | outOfLabels | formatError
deriving DecidableEq, Repr

/-- The label unit (R148 to R155). `out` is the label frame now being sent, `waitOn` says that the token wait runs, with
the token timeout `tokenLimit` it was given at the send. -/
structure LabelUnit where
  records      : List LabelRecord
  queue        : List LabelKey
  line         : LineState
  head         : Option LabelKey
  timedOut     : Bool
  pausePending : Bool
  run          : Run
  lastToken    : Option Token
  date         : Nat
  out          : Option (List Byte)
  waitOn       : Bool
  tokenLimit   : Nat
deriving DecidableEq, Repr

/-! ## Tally unit (09_charges_and_tally_counters) -/

/-- Kind of a posting (R171). -/
inductive PostKind where
  | frame | mount | credit | adjust
deriving DecidableEq, Repr

/-- A tally counter (R173). Bit i of `kinds` stands for FRAME, MOUNT, CREDIT, ADJUST in that order; bit i of `stocks` for
stock i. -/
structure Counter where
  enabled   : Bool
  kinds     : BitVec 4
  acctMatch : BitVec 16
  acctMask  : BitVec 16
  stocks    : BitVec 4
  total     : Nat
  ceiling   : Option Nat
  level     : Option Nat
  note      : Nat
  crossed   : Bool
  locked    : Bool
deriving DecidableEq, Repr

/-- The tally unit: rates, counters and period number (R169, R173, R183). -/
structure Tally where
  mountRate : Nat
  rushClass : Nat
  surcharge : Nat
  counters  : Vector Counter 16
  period    : Nat
deriving DecidableEq, Repr

/-! ## Desk link (10_the_desk_link) -/

/-- Reason of a FRAME REJECTED (R190). -/
inductive RejectReason where
  | gap | check | kind | length | overrun
deriving DecidableEq, Repr

/-- The rejection slot's content (R190). -/
structure Rejection where
  reason : RejectReason
  kind   : Byte
  count  : Nat
deriving DecidableEq, Repr

/-- Refusal codes of the part's REFUSED replies (R192). -/
inductive Code where
  | busy | full | unknown | duplicate | range | state | locked | labelsPending | format
deriving DecidableEq, Repr

/-- One field of a message body (R193): an unsigned value, a signed value, each with its count of bytes, or a text. -/
inductive Field where
  | u (bytes value : Nat)
  | i (bytes : Nat) (value : Int)
  | text (t : Text)
deriving DecidableEq, Repr

/-- A reply: its kind and the fields of its body (R192). -/
structure Msg where
  kind : Nat
  body : List Field
deriving DecidableEq, Repr

/-- Cause carried by ROLL CLOSED (R140). -/
inductive CloseCause where
  | automatic | lost | abandon
deriving DecidableEq, Repr

/-- The notices and what each carries (R198; R6, R20, R24, R85, R110, R128, R140, R154, R176, R200). -/
inductive Notice where
  | standReady (rate : Nat)
  | orderChanged (number : Nat) (state : OrderState)
  | orderCancelled (number : Nat)
  | orderCompleted (number kept rejected : Nat)
  | slideFinished (order slide cat attempt : Nat) (back : BackId) (roll : Nat) (first : Option Nat)
      (cause : Option AbortCause) (complete : Bool) (exposed spoilt credits : Nat)
  | backChanged (back : BackId) (state : BackState) (roll : Option (Nat × Nat × Nat × Nat))
  | standChanged (mode : StandMode) (lamp : Lamp) (present : Bool)
  | printerChanged (line : LineState) (head : Option LabelKey) (run : Run) (last : Option Token) (queued waiting : Nat)
  | counterLevel (counter note total level : Nat) (kind : PostKind) (account : Nat)
  | rollClosed (roll slot : Nat) (cause : CloseCause) (kept rejected discarded printed failed : Nat)
deriving DecidableEq, Repr

/-- What the receiver is collecting: nothing, a frame, or an overrun frame it counts through (R189, R191). -/
inductive Receiver where
  | hunting | receiving | counting
deriving DecidableEq, Repr

/-- A checked request in the receive buffer: one that reads whole, or one that will be refused before any block sees it. -/
inductive Incoming where
  | read (r : Request)
  | refuse (kind : Nat) (code : Code)
deriving DecidableEq, Repr

/-- What the message on the outgoing line is (R197). -/
inductive Source where
  | reply | rejection | notice
deriving DecidableEq, Repr

/-- The message being sent, with its frame (R197). -/
structure Sending where
  source : Source
  bytes  : List Byte
deriving DecidableEq, Repr

/-- The desk link (R186 to R200). The receiver is HELD when `held` holds a request; `rate` is the strap code of R200. -/
structure Link where
  rate    : Nat
  rx      : Receiver
  held    : Option Incoming
  reply   : Option Msg
  slot    : Option Rejection
  notices : List Notice
  overrun : Bool
  sending : Option Sending
deriving DecidableEq, Repr

/-! ## The whole part -/

/-- The state of the part, one field per block; `register` are the 8 slots of the roll register (R129). `pending` are the
commands waiting, first in first out, and `freeIx` counts the open values used so far: both are the model's own. -/
structure State where
  work     : WorkList
  stocks   : Vector StockEntry 4
  profiles : ProfileTable
  feeder   : Feeder
  head     : Head
  film     : Film
  stand    : Stand
  register : Vector (Option Roll) 8
  labels   : LabelUnit
  tally    : Tally
  link     : Link
  pending  : List Instr
  freeIx   : Nat
deriving DecidableEq, Repr

/-- The work list at power-on (R26). -/
def WorkList.initial : WorkList := { orders := [], stack := [], floor := 0, placeSeq := 0 }

/-- A stock entry at power-on (R32). -/
def StockEntry.initial : StockEntry := { enabled := false, name := [], eRef := 84, k := 0, filter := 0, rate := 0 }

/-- The profile table at power-on (R65). -/
def ProfileTable.initial : ProfileTable :=
  { originals := Vector.replicate 48 none, ranges := Vector.replicate 8 none, pointer := none }

/-- The feeder controller at power-on, with the two senses as they are found (R83). -/
def Feeder.initial (traySense gateSense : Bool) : Feeder :=
  { map := Vector.replicate 80 none, present := traySense, pos := none,
    gate := if gateSense then .foreign else .empty, gateSense := gateSense,
    op := none, waiting := [], feedBusy := [] }

/-- The light head controller at power-on (R83). -/
def Head.initial : Head :=
  { lamp := .off, idle := none, nd := none, ndOp := none, ndWaiting := [], meter := none, readings := none }

/-- A back at power-on (R109). -/
def Back.initial : Back :=
  { state := .empty, roll := none, gateFrame := .fresh, advance := none, waiting := [], leaderLeft := 0, owed := false }

/-- The film transport at power-on (R109). -/
def Film.initial : Film :=
  { backA := Back.initial, backB := Back.initial, turret := .unknown, swap := none, swapWaiting := [],
    loadSeq := 0, unloadSeq := 0 }

/-- The stand settings at power-on (R116). -/
def Settings.initial : Settings :=
  { feedLimit := 6000, advanceLimit := 1500, leaderCount := 2, fill := true, idleMinutes := 10, tokenLimit := 8000 }

/-- The stand sequencer at power-on (R110). -/
def Stand.initial : Stand :=
  { mode := .stopped, settings := Settings.initial, cycle := none, expose := none }

/-- The label unit at power-on (R168). -/
def LabelUnit.initial : LabelUnit :=
  { records := [], queue := [], line := .paused, head := none, timedOut := false, pausePending := false, run := .off,
    lastToken := none, date := 0, out := none, waitOn := false, tokenLimit := 0 }

/-- A tally counter at power-on (R185). -/
def Counter.initial : Counter :=
  { enabled := false, kinds := 0#4, acctMatch := 0#16, acctMask := 0#16, stocks := 15#4, total := 0, ceiling := none,
    level := none, note := 0, crossed := false, locked := false }

/-- The tally unit at power-on (R185). -/
def Tally.initial : Tally :=
  { mountRate := 0, rushClass := 12, surcharge := 0, counters := Vector.replicate 16 Counter.initial, period := 0 }

/-- The desk link at power-on, with the rate read from the straps (R200). -/
def Link.initial (rate : Nat) : Link :=
  { rate := rate, rx := .hunting, held := none, reply := none, slot := none, notices := [.standReady rate],
    overrun := false, sending := none }

/-- The part right after power-on with the given strap code and senses (R26, R32, R65, R83, R109, R110, R147, R168, R185,
R200); no command waits and no open value has been used. -/
def State.initial (rate : Nat) (traySense gateSense : Bool) : State :=
  { work := WorkList.initial, stocks := Vector.replicate 4 StockEntry.initial, profiles := ProfileTable.initial,
    feeder := Feeder.initial traySense gateSense, head := Head.initial, film := Film.initial, stand := Stand.initial,
    register := Vector.replicate 8 none, labels := LabelUnit.initial, tally := Tally.initial,
    link := Link.initial rate, pending := [], freeIx := 0 }

/-- The part right after power-on with both straps open, no tray and an empty gate (DESIGN CHOICE, assumption log entry 1:
the spec leaves the straps and the two senses to what the part finds). -/
def State.reset : State := State.initial 0 false false

/-- Why a step can stop with a fault: there is no reason. The spec gives every command its effect in every state, and an
event that finds nothing to act on changes nothing, so nothing raises a fault (safe: nothing is stopped). -/
inductive Fault where
deriving DecidableEq, Repr

/-- Why a step can be refused. -/
inductive Refusal where
  /-- Raised by `exec` for a command that has no meaning yet, under the table's mnemonic (safe: the run stops). No arm
  raises it now. -/
  | notModelled (mnemonic : String)
deriving DecidableEq, Repr

end Sys2Proof.Machine
end

