-- ==== Sys2Proof/Decode.lean ====
section
/-! DEFINITION. The messages of the desk link as bytes: the check byte (R188), the fields of a body (R193), the bodies of the
requests read (R192, R194, R196) and written, and the sizes R190 tests. No row of spec/opcode_table.json gives bits, so
`decodeTableWord` reads no command from a word. -/

namespace Sys2Proof

/-- No row of the table gives a command bits to be read from. -/
def decodeTableWord (_nbits _w : Nat) : Option Instr := none

/-- The reading of fields from the front of a body; `none` is a field that runs past its end. -/
abbrev Reader (α : Type) := StateT (List Byte) Option α

/-- An unsigned field of `n` bytes, most significant first, behind what has been read of it (R193). -/
def readNat : Nat → Nat → Reader Nat
  | 0, acc => pure acc
  | n + 1, acc => fun bytes =>
    match bytes with
    | [] => none
    | b :: rest => readNat n (acc * 256 + b.toNat) rest

/-- An unsigned field of `n` bytes. -/
def readU (n : Nat) : Reader Nat := readNat n 0

/-- The value of a two's complement field of `n` bytes (R193). -/
def signedOf (n v : Nat) : Int := if 2 * v < 256 ^ n then (v : Int) else (v : Int) - 256 ^ n

/-- A signed field of `n` bytes. -/
def readI (n : Nat) : Reader Int := do return signedOf n (← readU n)

/-- `n` bytes as they stand. -/
def readBytes (n : Nat) : Reader (List Byte) := fun bytes =>
  if n ≤ bytes.length then some (bytes.take n, bytes.drop n) else none

/-- A text: a length byte and that many characters (R193). -/
def readText : Reader Text := do readBytes (← readU 1)

/-- `n` entries, one after another. -/
def readMany {α : Type} (entry : Reader α) : Nat → Reader (List α)
  | 0 => pure []
  | n + 1 => do
    let x ← entry
    let xs ← readMany entry n
    return x :: xs

/-- A list: a count byte and that many entries (R193). -/
def readList {α : Type} (entry : Reader α) : Reader (List α) := do readMany entry (← readU 1)

/-- An optional field: a presence byte, which must be 0 or 1, and the field when present (R192, R193). -/
def readOpt {α : Type} (field : Reader α) : Reader (Option α) := do
  match ← readU 1 with
  | 0 => return none
  | 1 => return some (← field)
  | _ => failure

/-- A field a mask selects, or its default where it carries no bytes (R194). -/
def readSel {α : Type} (mask : BitVec 16) (bit : Nat) (default : α) (field : Reader α) : Reader α :=
  if mask.getLsbD bit then field else pure default

/-- A slide entry of PLACE ORDER (R196): presence flags above bit 1 do not read. -/
def readSlide : Reader SlideReq := do
  let cat ← readU 3
  let flags ← readU 1
  if 4 ≤ flags then failure
  let adjust ← if flags / 2 = 1 then some <$> readI 1 else pure none
  let caption ← if flags % 2 = 1 then some <$> readText else pure none
  return { cat := cat, caption := caption, adjust := adjust }

/-- The body of PLACE ORDER (R196). -/
def readPlace : Reader PlaceReq := do
  let number ← readU 2
  let account ← readU 2
  let lecturer ← readU 2
  let cls ← readU 1
  let stock ← readU 1
  let n ← readU 1
  let spacing ← readU 1
  let offset ← readI 1
  let magn ← readU 1
  let title ← readText
  let slides ← readList readSlide
  return { number, account, lecturer, cls, stock, n, spacing, offset, magn, title, slides }

/-- The body of AMEND ORDER (R19, R194). -/
def readAmend : Reader AmendReq := do
  let number ← readU 2
  let mask := BitVec.ofNat 16 (← readU 2)
  let cls ← readSel mask 0 0 (readU 1)
  let n ← readSel mask 1 0 (readU 1)
  let spacing ← readSel mask 2 0 (readU 1)
  let offset ← readSel mask 3 0 (readI 1)
  let magn ← readSel mask 4 0 (readU 1)
  let account ← readSel mask 5 0 (readU 2)
  let lecturer ← readSel mask 6 0 (readU 2)
  let title ← readSel mask 7 [] readText
  return { number, mask, cls, n, spacing, offset, magn, account, lecturer, title }

/-- The body of SET STOCK (R28, R29). -/
def readStock : Reader StockReq := do
  let stock ← readU 1
  let enabled ← readU 1
  let name ← readText
  let eRef ← readU 1
  let k ← readU 1
  let filter ← readU 1
  let rate ← readU 2
  return { stock, enabled, name, eRef, k, filter, rate }

/-- A MAP TRAY entry (R68). -/
def readTrayEntry : Reader TrayReq := do
  let pos ← readU 1
  let cat ← readU 3
  return { pos, cat }

/-- A selection entry; only KEEP carries a step (R131, R193). -/
def readSelectEntry : Reader SelectReq := do
  let first ← readU 1
  let outcome ← readU 1
  let step ← if outcome = 0 then readI 1 else pure 0
  return { first, outcome, step }

/-- The body of SET STAND (R116, R194). -/
def readStand : Reader StandReq := do
  let mask := BitVec.ofNat 16 (← readU 2)
  let feedLimit ← readSel mask 0 0 (readU 2)
  let advanceLimit ← readSel mask 1 0 (readU 2)
  let leaderCount ← readSel mask 2 0 (readU 1)
  let fill ← readSel mask 3 0 (readU 1)
  let idleMinutes ← readSel mask 4 0 (readU 1)
  let tokenLimit ← readSel mask 5 0 (readU 2)
  return { mask, feedLimit, advanceLimit, leaderCount, fill, idleMinutes, tokenLimit }

/-- The body of SET COUNTER (R179, R194). -/
def readCounter : Reader CounterReq := do
  let counter ← readU 1
  let mask := BitVec.ofNat 16 (← readU 2)
  let enabled ← readSel mask 0 0 (readU 1)
  let kinds ← readSel mask 1 0 (readU 1)
  let acctMatch ← readSel mask 2 0 (readU 2)
  let acctMask ← readSel mask 3 0 (readU 2)
  let stocks ← readSel mask 4 0 (readU 1)
  let ceiling ← readSel mask 5 none (readOpt (readU 4))
  let level ← readSel mask 6 none (readOpt (readU 4))
  let note ← readSel mask 7 0 (readU 4)
  let total ← readSel mask 8 0 (readU 4)
  return { counter, mask, enabled, kinds, acctMatch, acctMask, stocks, ceiling, level, note, total }

/-- A field and the fields after it. -/
def readThen {α β : Type} (f : α → β) (r : Reader α) : Reader β := do return f (← r)

/-- Two fields. -/
def readTwo {α β γ : Type} (f : α → β → γ) (r : Reader α) (t : Reader β) : Reader γ := do
  let x ← r
  let y ← t
  return f x y

/-- The fields of the body of a kind, for the kinds of section 10.8 but READ PROFILE, whose form byte comes first. -/
def readRequest (kind : Nat) : Reader Request :=
  match kind with
  | 0x10 => readThen .placeOrder readPlace
  | 0x11 => readThen .amendOrder readAmend
  | 0x12 => readThen .cancelOrder (readU 2)
  | 0x13 => readThen .holdOrder (readU 2)
  | 0x14 => readThen .releaseOrder (readU 2)
  | 0x15 => readThen .setFloor (readU 1)
  | 0x16 => readTwo .readOrder (readU 2) (readU 1)
  | 0x17 => readThen .setStock readStock
  | 0x18 => pure .readStock
  | 0x19 => do
    let cat ← readU 3
    let mode ← readU 1
    let p ← readI 1
    let fixed ← readOpt (readU 2)
    return .setProfile cat mode p fixed
  | 0x1A => do
    let slot ← readU 1
    let base ← readU 3
    let e ← readU 1
    let p ← readI 1
    return .setRange slot base e p
  | 0x1B => readTwo .dropProfile (readU 1) (readU 1)
  | 0x1C => readThen .setPlacement (readU 1)
  | 0x1E => readThen .mapTray (readList readTrayEntry)
  | 0x1F => readThen .readTray (readU 1)
  | 0x20 => pure .readHead
  | 0x21 => do
    let back ← readU 1
    let roll ← readU 3
    let stock ← readU 1
    let declared ← readU 1
    return .loadRoll back roll stock declared
  | 0x22 => readThen .rewindBack (readU 1)
  | 0x23 => readThen .unloadBack (readU 1)
  | 0x24 => readThen .clearBack (readU 1)
  | 0x25 => pure .readBack
  | 0x26 => pure .startStand
  | 0x27 => pure .stopStand
  | 0x28 => pure .abortSlide
  | 0x29 => pure .resetStand
  | 0x2A => readThen .setStand readStand
  | 0x2B => pure .readStand
  | 0x2C => readTwo .reportSelections (readU 3) (readList readSelectEntry)
  | 0x2D => readTwo .closeRoll (readU 3) (readU 1)
  | 0x2E => readTwo .readRoll (readU 3) (readU 1)
  | 0x2F => readTwo .readFrames (readU 3) (readU 1)
  | 0x30 => readThen .printLabels (readU 1)
  | 0x31 => pure .pausePrinter
  | 0x32 => pure .resumePrinter
  | 0x33 => readTwo .relabel (readU 3) (readU 1)
  | 0x34 => readThen .setDate (readU 2)
  | 0x35 => do
    let roll ← readU 3
    let index ← readU 1
    return if roll = 0 then .readLabelsLine index else .readLabelsRecord roll index
  | 0x36 => do
    let mount ← readU 2
    let threshold ← readU 1
    let surcharge ← readU 2
    return .setRates mount threshold surcharge
  | 0x37 => readThen .setCounter readCounter
  | 0x38 => readThen .lockCounter (readU 1)
  | 0x39 => readTwo .adjustAccount (readU 2) (readI 3)
  | 0x3A => pure .closePeriod
  | 0x3B => readThen .readCounters (readU 1)
  | _ => failure

/-- A body read whole: nothing may be left over after its last field (R192). -/
def readWhole {α : Type} (r : Reader α) (body : List Byte) : Option α :=
  match r body with
  | some (x, []) => some x
  | _ => none

/-- What comes of reading whole: the request, or FORMAT (R192). -/
def incomingOf (kind : Nat) : Option Request → Machine.Incoming
  | some r => .read r
  | none => .refuse kind .format

/-- The body of a frame of an assigned kind read as its request (R192). READ PROFILE begins with its form byte: TABLE 0,
LOOKUP 1, any other RANGE (R62). -/
def readIncoming (kind : Nat) (body : List Byte) : Machine.Incoming :=
  if kind = 0x1D then
    match body with
    | [] => .refuse kind .format
    | form :: rest =>
      if form = 0#8 then incomingOf kind (readWhole (readTwo .readProfileTable (readU 1) (readU 1)) rest)
      else if form = 1#8 then incomingOf kind (readWhole (readThen .readProfileLookup (readU 3)) rest)
      else .refuse kind .range
  else incomingOf kind (readWhole (readRequest kind) body)

/-- The least body of an assigned kind, and whether the kind is of one fixed size (R190). -/
def bodySize (kind : Nat) : Option (Nat × Bool) :=
  match kind with
  | 0x10 => some (18, false)
  | 0x11 => some (4, false)
  | 0x12 => some (2, true)
  | 0x13 => some (2, true)
  | 0x14 => some (2, true)
  | 0x15 => some (1, true)
  | 0x16 => some (3, true)
  | 0x17 => some (8, false)
  | 0x18 => some (0, true)
  | 0x19 => some (6, false)
  | 0x1A => some (6, true)
  | 0x1B => some (2, true)
  | 0x1C => some (1, true)
  | 0x1D => some (3, false)
  | 0x1E => some (5, false)
  | 0x1F => some (1, true)
  | 0x20 => some (0, true)
  | 0x21 => some (6, true)
  | 0x22 => some (1, true)
  | 0x23 => some (1, true)
  | 0x24 => some (1, true)
  | 0x25 => some (0, true)
  | 0x26 => some (0, true)
  | 0x27 => some (0, true)
  | 0x28 => some (0, true)
  | 0x29 => some (0, true)
  | 0x2A => some (2, false)
  | 0x2B => some (0, true)
  | 0x2C => some (6, false)
  | 0x2D => some (4, true)
  | 0x2E => some (4, true)
  | 0x2F => some (4, true)
  | 0x30 => some (1, true)
  | 0x31 => some (0, true)
  | 0x32 => some (0, true)
  | 0x33 => some (4, true)
  | 0x34 => some (2, true)
  | 0x35 => some (4, true)
  | 0x36 => some (5, true)
  | 0x37 => some (3, false)
  | 0x38 => some (1, true)
  | 0x39 => some (5, true)
  | 0x3A => some (0, true)
  | 0x3B => some (1, true)
  | _ => none

/-! ## Writing -/

/-- `v` in `n` bytes, most significant first (section 6.4). -/
def natBytes : Nat → Nat → List Byte
  | 0, _ => []
  | n + 1, v => BitVec.ofNat 8 (v / 256 ^ n) :: natBytes n v

/-- `v` in `n` bytes of two's complement (R193). -/
def intBytes (n : Nat) (v : Int) : List Byte := natBytes n (v % 256 ^ n).toNat

/-- A text with its length byte (R193). -/
def textBytes (t : Text) : List Byte := natBytes 1 t.length ++ t

/-- An optional field with its presence byte (R193). -/
def optBytes {α : Type} (field : α → List Byte) : Option α → List Byte
  | none => natBytes 1 0
  | some x => natBytes 1 1 ++ field x

/-- A list with its count byte (R193). -/
def listBytes {α : Type} (entry : α → List Byte) (l : List α) : List Byte := natBytes 1 l.length ++ l.flatMap entry

/-- A field the mask selects (R194). -/
def selBytes (mask : BitVec 16) (bit : Nat) (bytes : List Byte) : List Byte := if mask.getLsbD bit then bytes else []

/-- A slide entry of PLACE ORDER (R196). -/
def SlideReq.bytes (q : SlideReq) : List Byte :=
  natBytes 3 q.cat
    ++ natBytes 1 ((if q.caption.isSome then 1 else 0) + (if q.adjust.isSome then 2 else 0))
    ++ (match q.adjust with | some v => intBytes 1 v | none => [])
    ++ (match q.caption with | some t => textBytes t | none => [])

/-- The body of PLACE ORDER (R196). -/
def PlaceReq.bytes (q : PlaceReq) : List Byte :=
  natBytes 2 q.number ++ natBytes 2 q.account ++ natBytes 2 q.lecturer ++ natBytes 1 q.cls ++ natBytes 1 q.stock
    ++ natBytes 1 q.n ++ natBytes 1 q.spacing ++ intBytes 1 q.offset ++ natBytes 1 q.magn ++ textBytes q.title
    ++ listBytes SlideReq.bytes q.slides

/-- The body of AMEND ORDER (R194). -/
def AmendReq.bytes (q : AmendReq) : List Byte :=
  natBytes 2 q.number ++ natBytes 2 q.mask.toNat ++ selBytes q.mask 0 (natBytes 1 q.cls)
    ++ selBytes q.mask 1 (natBytes 1 q.n) ++ selBytes q.mask 2 (natBytes 1 q.spacing)
    ++ selBytes q.mask 3 (intBytes 1 q.offset) ++ selBytes q.mask 4 (natBytes 1 q.magn)
    ++ selBytes q.mask 5 (natBytes 2 q.account) ++ selBytes q.mask 6 (natBytes 2 q.lecturer)
    ++ selBytes q.mask 7 (textBytes q.title)

/-- The body of SET STOCK (R29). -/
def StockReq.bytes (q : StockReq) : List Byte :=
  natBytes 1 q.stock ++ natBytes 1 q.enabled ++ textBytes q.name ++ natBytes 1 q.eRef ++ natBytes 1 q.k
    ++ natBytes 1 q.filter ++ natBytes 2 q.rate

/-- A selection entry (R131). -/
def SelectReq.bytes (q : SelectReq) : List Byte :=
  natBytes 1 q.first ++ natBytes 1 q.outcome ++ (if q.outcome = 0 then intBytes 1 q.step else [])

/-- The body of SET STAND (R116). -/
def StandReq.bytes (q : StandReq) : List Byte :=
  natBytes 2 q.mask.toNat ++ selBytes q.mask 0 (natBytes 2 q.feedLimit) ++ selBytes q.mask 1 (natBytes 2 q.advanceLimit)
    ++ selBytes q.mask 2 (natBytes 1 q.leaderCount) ++ selBytes q.mask 3 (natBytes 1 q.fill)
    ++ selBytes q.mask 4 (natBytes 1 q.idleMinutes) ++ selBytes q.mask 5 (natBytes 2 q.tokenLimit)

/-- The body of SET COUNTER (R179). -/
def CounterReq.bytes (q : CounterReq) : List Byte :=
  natBytes 1 q.counter ++ natBytes 2 q.mask.toNat ++ selBytes q.mask 0 (natBytes 1 q.enabled)
    ++ selBytes q.mask 1 (natBytes 1 q.kinds) ++ selBytes q.mask 2 (natBytes 2 q.acctMatch)
    ++ selBytes q.mask 3 (natBytes 2 q.acctMask) ++ selBytes q.mask 4 (natBytes 1 q.stocks)
    ++ selBytes q.mask 5 (optBytes (natBytes 4) q.ceiling) ++ selBytes q.mask 6 (optBytes (natBytes 4) q.level)
    ++ selBytes q.mask 7 (natBytes 4 q.note) ++ selBytes q.mask 8 (natBytes 4 q.total)

/-- The kind code of a request (section 10.8). -/
def Request.kind : Request → Nat
  | .placeOrder _ => 0x10
  | .amendOrder _ => 0x11
  | .cancelOrder _ => 0x12
  | .holdOrder _ => 0x13
  | .releaseOrder _ => 0x14
  | .setFloor _ => 0x15
  | .readOrder _ _ => 0x16
  | .setStock _ => 0x17
  | .readStock => 0x18
  | .setProfile _ _ _ _ => 0x19
  | .setRange _ _ _ _ => 0x1A
  | .dropProfile _ _ => 0x1B
  | .setPlacement _ => 0x1C
  | .readProfileTable _ _ => 0x1D
  | .readProfileLookup _ => 0x1D
  | .mapTray _ => 0x1E
  | .readTray _ => 0x1F
  | .readHead => 0x20
  | .loadRoll _ _ _ _ => 0x21
  | .rewindBack _ => 0x22
  | .unloadBack _ => 0x23
  | .clearBack _ => 0x24
  | .readBack => 0x25
  | .startStand => 0x26
  | .stopStand => 0x27
  | .abortSlide => 0x28
  | .resetStand => 0x29
  | .setStand _ => 0x2A
  | .readStand => 0x2B
  | .reportSelections _ _ => 0x2C
  | .closeRoll _ _ => 0x2D
  | .readRoll _ _ => 0x2E
  | .readFrames _ _ => 0x2F
  | .printLabels _ => 0x30
  | .pausePrinter => 0x31
  | .resumePrinter => 0x32
  | .relabel _ _ => 0x33
  | .setDate _ => 0x34
  | .readLabelsLine _ => 0x35
  | .readLabelsRecord _ _ => 0x35
  | .setRates _ _ _ => 0x36
  | .setCounter _ => 0x37
  | .lockCounter _ => 0x38
  | .adjustAccount _ _ => 0x39
  | .closePeriod => 0x3A
  | .readCounters _ => 0x3B

/-- The body of a request as the desk computer writes it (R193, R194, R196). -/
def Request.body : Request → List Byte
  | .placeOrder q => q.bytes
  | .amendOrder q => q.bytes
  | .cancelOrder n => natBytes 2 n
  | .holdOrder n => natBytes 2 n
  | .releaseOrder n => natBytes 2 n
  | .setFloor v => natBytes 1 v
  | .readOrder n i => natBytes 2 n ++ natBytes 1 i
  | .setStock q => q.bytes
  | .readStock => []
  | .setProfile c m p f => natBytes 3 c ++ natBytes 1 m ++ intBytes 1 p ++ optBytes (natBytes 2) f
  | .setRange k b e p => natBytes 1 k ++ natBytes 3 b ++ natBytes 1 e ++ intBytes 1 p
  | .dropProfile t k => natBytes 1 t ++ natBytes 1 k
  | .setPlacement k => natBytes 1 k
  | .readProfileTable t k => natBytes 1 0 ++ natBytes 1 t ++ natBytes 1 k
  | .readProfileLookup c => natBytes 1 1 ++ natBytes 3 c
  | .mapTray es => listBytes (fun e => natBytes 1 e.pos ++ natBytes 3 e.cat) es
  | .readTray f => natBytes 1 f
  | .readHead => []
  | .loadRoll b r k f => natBytes 1 b ++ natBytes 3 r ++ natBytes 1 k ++ natBytes 1 f
  | .rewindBack b => natBytes 1 b
  | .unloadBack b => natBytes 1 b
  | .clearBack b => natBytes 1 b
  | .readBack => []
  | .startStand => []
  | .stopStand => []
  | .abortSlide => []
  | .resetStand => []
  | .setStand q => q.bytes
  | .readStand => []
  | .reportSelections r es => natBytes 3 r ++ listBytes SelectReq.bytes es
  | .closeRoll r d => natBytes 3 r ++ natBytes 1 d
  | .readRoll r i => natBytes 3 r ++ natBytes 1 i
  | .readFrames r i => natBytes 3 r ++ natBytes 1 i
  | .printLabels c => natBytes 1 c
  | .pausePrinter => []
  | .resumePrinter => []
  | .relabel r f => natBytes 3 r ++ natBytes 1 f
  | .setDate d => natBytes 2 d
  | .readLabelsLine i => natBytes 3 0 ++ natBytes 1 i
  | .readLabelsRecord r f => natBytes 3 r ++ natBytes 1 f
  | .setRates m t c => natBytes 2 m ++ natBytes 1 t ++ natBytes 2 c
  | .setCounter q => q.bytes
  | .lockCounter c => natBytes 1 c
  | .adjustAccount a v => natBytes 2 a ++ intBytes 3 v
  | .closePeriod => []
  | .readCounters c => natBytes 1 c

/-! ## Frames -/

/-- One bit of the CRC-8 register: shifted toward its most significant bit, and 07h in when the bit shifted out was 1. -/
def crcShift (r : Byte) : Byte := if r.msb then (r <<< 1) ^^^ 0x07#8 else r <<< 1

/-- One byte into the CRC-8 register (R188). -/
def crcByte (r b : Byte) : Byte :=
  crcShift (crcShift (crcShift (crcShift (crcShift (crcShift (crcShift (crcShift (r ^^^ b))))))))

/-- The CRC-8 of R188: polynomial x^8 + x^2 + x + 1, initial value 00h, most significant bit first, no final inversion. -/
def crc8 (bytes : List Byte) : Byte := bytes.foldl crcByte 0#8

/-- LENGTH, KIND and BODY of a frame, the bytes its CHECK is taken over (R187). -/
def frameCore (kind : Byte) (body : List Byte) : List Byte := BitVec.ofNat 8 (body.length + 1) :: kind :: body

/-- A desk link frame (R187). -/
def frameBytes (kind : Byte) (body : List Byte) : List Byte :=
  0xA5#8 :: (frameCore kind body ++ [crc8 (frameCore kind body)])

/-- A field of a body as bytes (R193). -/
def fieldBytes : Machine.Field → List Byte
  | .u n v => natBytes n v
  | .i n v => intBytes n v
  | .text t => textBytes t

/-- The body of a message as bytes. -/
def bodyBytes (fields : List Machine.Field) : List Byte := fields.flatMap fieldBytes

end Sys2Proof
end

