-- ==== Sys2Proof/Machine/Ops.lean ====
section
/-! DEFINITION. The named operations the meanings are written over: the update of each block, the notice queue, orders and
the in-service stack, backs, rolls, replies. -/

namespace Sys2Proof.Machine

/-! ## One update per block -/

/-- Update the work list. -/
def State.onWork (f : WorkList → WorkList) (s : State) : State := { s with work := f s.work }
/-- Update the stock table. -/
def State.onStocks (f : Vector StockEntry 4 → Vector StockEntry 4) (s : State) : State := { s with stocks := f s.stocks }
/-- Update the profile table. -/
def State.onProfiles (f : ProfileTable → ProfileTable) (s : State) : State := { s with profiles := f s.profiles }
/-- Update the feeder controller. -/
def State.onFeeder (f : Feeder → Feeder) (s : State) : State := { s with feeder := f s.feeder }
/-- Update the light head controller. -/
def State.onHead (f : Head → Head) (s : State) : State := { s with head := f s.head }
/-- Update the film transport. -/
def State.onFilm (f : Film → Film) (s : State) : State := { s with film := f s.film }
/-- Update the stand sequencer. -/
def State.onStand (f : Stand → Stand) (s : State) : State := { s with stand := f s.stand }
/-- Update the roll register. -/
def State.onRegister (f : Vector (Option Roll) 8 → Vector (Option Roll) 8) (s : State) : State :=
  { s with register := f s.register }
/-- Update the label unit. -/
def State.onLabels (f : LabelUnit → LabelUnit) (s : State) : State := { s with labels := f s.labels }
/-- Update the tally unit. -/
def State.onTally (f : Tally → Tally) (s : State) : State := { s with tally := f s.tally }
/-- Update the desk link. -/
def State.onLink (f : Link → Link) (s : State) : State := { s with link := f s.link }
/-- Count one use of an open value. -/
def State.useFree (s : State) : State := { s with freeIx := s.freeIx + 1 }

/-! ## Notices -/

/-- A notice arises: it joins the queue of at most 16, or is dropped and the overrun mark is set (R198). -/
def queueNotice (n : Notice) (s : State) : State :=
  s.onLink fun l =>
    if l.notices.length < Config.maxNotices then { l with notices := l.notices ++ [n] } else { l with overrun := true }

/-- Notices that arise one after another. -/
def queueNotices (ns : List Notice) (s : State) : State := ns.foldl (fun s n => queueNotice n s) s

/-! ## Replies -/

/-- The number of a refusal code (R192). -/
def Code.number : Code → Nat
  | .busy => 1
  | .full => 2
  | .unknown => 3
  | .duplicate => 4
  | .range => 5
  | .state => 6
  | .locked => 7
  | .labelsPending => 8
  | .format => 9

/-- The acceptance of a request kind: kind + 80h, a flags byte with TRUNCATED in bit 0, then its fields (R192). -/
def acceptedMsg (kind : Nat) (truncated : Bool) (fields : List Field) : Msg :=
  { kind := kind + 0x80, body := .u 1 (if truncated then 1 else 0) :: fields }

/-- The refusal of a request kind (R192). -/
def refusedMsg (kind : Nat) (code : Code) : Msg := { kind := 0xE0, body := [.u 1 kind, .u 1 code.number] }

/-! ## Orders and the stack -/

/-- The live order of a number. -/
def State.order? (s : State) (number : Nat) : Option Order := s.work.orders.find? fun o => o.number == number

/-- Change the live order of a number. -/
def State.onOrder (number : Nat) (f : Order → Order) (s : State) : State :=
  s.onWork fun w => { w with orders := w.orders.map fun o => if o.number == number then f o else o }

/-- Give an order a state and former state; ORDER CHANGED is queued when the state or hold reason changes (R6). -/
def setOrderState (number : Nat) (state : OrderState) (former : Option FormerState) (s : State) : State :=
  match s.order? number with
  | none => s
  | some o =>
    let s' := s.onOrder number fun o => { o with state := state, former := former }
    if o.state = state then s' else queueNotice (.orderChanged number state) s'

/-- The next slide of an order: the lowest NOT_SHOT, else the lowest RESHOOT_DUE (R7). -/
def nextSlide (o : Order) : Option Nat :=
  match o.slides.findIdx? fun x => x.outcome = .notShot with
  | some i => some i
  | none => o.slides.findIdx? fun x => x.outcome = .reshootDue

/-- The state an order returned to PENDING takes: PENDING with a slide due, EXPOSED with none (R7). -/
def returnState (o : Order) : OrderState := if (nextSlide o).isSome then .pending else .exposed

/-- The order at the top of the stack becomes ACTIVE; a FILLING one stays FILLING with ACTIVE as its former state (R9). -/
def promoteTop (s : State) : State :=
  match s.work.stack with
  | [] => s
  | top :: _ =>
    match s.order? top with
    | none => s
    | some o =>
      if o.state = .filling then s.onOrder top fun o => { o with former := some .active }
      else setOrderState top .active none s

/-- Take an order out of the stack, from whatever place, when it is in it, with the ORDER CHANGED of the new top (R9); where that
notice stands among those of the event is said in assumption log entry 27. -/
def removeFromStack (number : Nat) (s : State) : State :=
  if s.work.stack.contains number then
    promoteTop (s.onWork fun w => { w with stack := w.stack.filter fun k => k != number })
  else s

/-- Hold an order with a reason and take it out of the stack; its progress stays (R12, R21). -/
def holdWith (number : Nat) (reason : HoldReason) (s : State) : State :=
  removeFromStack number (setOrderState number (.held reason) none s)

/-- Release an order by the return rule (R7). -/
def releaseOne (number : Nat) (s : State) : State :=
  match s.order? number with
  | none => s
  | some o => setOrderState number (returnState o) none s

/-- Release the orders that meet a test, the oldest placement first (R23). -/
def releaseWhere (test : Order → Bool) (s : State) : State :=
  ((s.work.orders.filter test).map fun o => o.number).foldl (fun s k => releaseOne k s) s

/-- HELD with reason CEILING, whatever counter failed. -/
def OrderState.isCeiling : OrderState → Bool
  | .held (.ceiling _) => true
  | _ => false

/-- HELD for any reason. -/
def OrderState.isHeld : OrderState → Bool
  | .held _ => true
  | _ => false

/-- Release every order HELD with reason CEILING (R23). -/
def releaseCeiling (s : State) : State := releaseWhere (fun o => o.state.isCeiling) s

/-- Release every order HELD with reason FILM on a stock (R23, R93). -/
def releaseFilm (stock : Nat) (s : State) : State :=
  releaseWhere (fun o => decide (o.state = .held .film) && o.stock == stock) s

/-- The catalogue number of an order's next slide. -/
def nextCat (o : Order) : Option Nat := (nextSlide o).bind fun i => (o.slides[i]?).map fun x => x.cat

/-- Release every order HELD with reason ORIGINAL whose next slide's number the tray map holds (R23, R68). -/
def releaseOriginal (s : State) : State :=
  releaseWhere (fun o => decide (o.state = .held .original)
    && match nextCat o with
       | some x => s.feeder.map.toList.contains (some x)
       | none => false) s

/-- Change one slide of an order. -/
def onSlide (number index : Nat) (f : Slide → Slide) (s : State) : State :=
  s.onOrder number fun o => { o with slides := o.slides.modify index f }

/-- Free an order record. -/
def freeOrder (number : Nat) (s : State) : State :=
  s.onWork fun w => { w with orders := w.orders.filter fun o => o.number != number }

/-- An outcome that is final (R2). -/
def SlideOutcome.isFinal : SlideOutcome → Bool
  | .kept => true
  | .rejected => true
  | _ => false

/-- The work list takes an outcome change of a slide of the order (R24): with every slide final the order finishes, taken out of
the stack first, then freed, then ORDER FINISHED (assumption log entry 27); an EXPOSED order with a slide due becomes PENDING. -/
def takeOutcomeChange (number : Nat) (s : State) : State :=
  match s.order? number with
  | none => s
  | some o =>
    if o.slides.all fun x => x.outcome.isFinal then
      queueNotice
        (.orderCompleted number (o.slides.countP fun x => x.outcome = .kept) (o.slides.countP fun x => x.outcome = .rejected))
        (freeOrder number (removeFromStack number s))
    else if o.state = .exposed ∧ (nextSlide o).isSome then setOrderState number .pending none s
    else s

/-! ## Backs and rolls -/

/-- The other back of the turret. -/
def otherBack : BackId → BackId
  | .backA => .backB
  | .backB => .backA

/-- A back record. -/
def State.back (s : State) : BackId → Back
  | .backA => s.film.backA
  | .backB => s.film.backB

/-- Change a back record. -/
def State.onBack (b : BackId) (f : Back → Back) (s : State) : State :=
  s.onFilm fun m =>
    match b with
    | .backA => { m with backA := f m.backA }
    | .backB => { m with backB := f m.backB }

/-- Change the roll record in a back. -/
def State.onBackRoll (b : BackId) (f : Roll → Roll) (s : State) : State :=
  s.onBack b fun k => { k with roll := k.roll.map f }

/-- Remaining frames of a roll: F − next + 1, and 0 with the film end mark (R100). -/
def Roll.remaining (r : Roll) : Nat := if r.endMark.isSome then 0 else r.declared + 1 - r.next

/-- Give a back a state; BACK CHANGED is queued when the state or fault reason changes (R85). -/
def setBackState (b : BackId) (state : BackState) (s : State) : State :=
  let s' := s.onBack b fun k => { k with state := state }
  if (s.back b).state = state then s'
  else queueNotice (.backChanged b state ((s.back b).roll.map fun r => (r.id, r.stock, r.next, r.remaining))) s'

/-- The stock of the roll a back holds; none while it is EMPTY (R84). -/
def Back.stock? (k : Back) : Option Nat := if k.state = .empty then none else k.roll.map fun r => r.stock

/-- READY with a roll of the stock, the only backs the film test takes (R12, R84). -/
def Back.readyFor (k : Back) (stock : Nat) : Bool := decide (k.state = .ready) && decide (k.stock? = some stock)

/-- Remaining frames of a back. -/
def Back.remaining (k : Back) : Nat := match k.roll with | some r => r.remaining | none => 0

/-- The fit test of R100. -/
def Back.fits (k : Back) (n : Nat) : Bool := decide (k.state = .ready) && decide (n ≤ k.remaining)

/-- Every roll record in a back or in the register. -/
def State.allRolls (s : State) : List Roll :=
  s.film.backA.roll.toList ++ s.film.backB.roll.toList ++ s.register.toList.filterMap id

/-- The register slot that holds a roll id. -/
def State.slotOf? (s : State) (roll : Nat) : Option Nat :=
  s.register.toList.findIdx? fun x => match x with | some r => r.id == roll | none => false

/-- The roll record in a register slot. -/
def State.slotRoll? (s : State) (slot : Nat) : Option Roll := (s.register[slot]?).join

/-- Change the roll record of a register slot. -/
def State.onSlot (slot : Nat) (f : Roll → Roll) (s : State) : State :=
  s.onRegister fun v => v.setIfInBounds slot ((s.slotRoll? slot).map f)

/-- The live roll record of an id, in either back or in the register. -/
def State.roll? (s : State) (roll : Nat) : Option Roll := s.allRolls.find? fun r => r.id == roll

/-- The rolls of the register with their slots in the register order: by unload sequence, the smallest first (R130). -/
def State.registerOrder (s : State) : List (Nat × Roll) :=
  sortBy (fun x y => decide (x.2.unloadSeq.getD 0 ≤ y.2.unloadSeq.getD 0))
    ((List.range 8).filterMap fun k => (s.slotRoll? k).map fun r => (k, r))

/-- The frames of a group on a roll, by the group's first frame (R89). -/
def Roll.framesOf (r : Roll) (first : Nat) : List Frame := r.frames.filter fun f => f.group == first

/-- Change the group of a first frame. -/
def Roll.onGroup (r : Roll) (first : Nat) (f : Group → Group) : Roll :=
  { r with groups := r.groups.map fun g => if g.first == first then f g else g }

/-- Change the frames of a group. -/
def Roll.onFramesOf (r : Roll) (first : Nat) (f : Frame → Frame) : Roll :=
  { r with frames := r.frames.map fun x => if x.group == first then f x else x }

/-- Give a group an outcome and all its frames DISCARDED. -/
def Roll.discardGroup (r : Roll) (first : Nat) (outcome : GroupOutcome) : Roll :=
  (r.onGroup first fun g => { g with outcome := outcome }).onFramesOf first fun f => { f with selection := .discarded }

/-! ## Stand state, lamp and idle timer -/

/-- The stand takes a state; the idle timer stops when it is not RUNNING (R79, R112 to R115). -/
def setStandMode (m : StandMode) (s : State) : State :=
  let s' := s.onStand fun t => { t with mode := m }
  if m = .running then s' else s'.onHead fun h => { h with idle := none }

/-- The lamp is switched off from WARMING or READY (R77). -/
def lampOff (s : State) : State :=
  s.onHead fun h => if h.lamp = .warming ∨ h.lamp = .ready then { h with lamp := .off } else h

/-- The lamp is asked to light: only from OFF does anything change (R77). -/
def lampLight (s : State) : State :=
  s.onHead fun h => if h.lamp = .off then { h with lamp := .warming } else h

/-- The idle timer starts with the idle time as it stands; 0 starts none (R79). -/
def startIdle (s : State) : State :=
  s.onHead fun h =>
    { h with idle := if s.stand.settings.idleMinutes = 0 then none else some s.stand.settings.idleMinutes }

/-- The idle timer stops without expiring (R79). -/
def stopIdle (s : State) : State := s.onHead fun h => { h with idle := none }

end Sys2Proof.Machine
end

