-- ==== Sys2Proof/Machine/Profiles.lean ====
section
/-! DEFINITION. The profile table: lookup, the choice of a slot for a write, learning (03_the_profile_table). -/

namespace Sys2Proof.Machine

/-- The original entry of a slot. -/
def ProfileTable.original? (t : ProfileTable) (k : Nat) : Option OriginalEntry := (t.originals[k]?).join

/-- The range entry of a slot. -/
def ProfileTable.range? (t : ProfileTable) (k : Nat) : Option RangeEntry := (t.ranges[k]?).join

/-- Write an original slot. -/
def ProfileTable.setOriginal (t : ProfileTable) (k : Nat) (e : Option OriginalEntry) : ProfileTable :=
  { t with originals := t.originals.setIfInBounds k e }

/-- Write a range slot. -/
def ProfileTable.setRange (t : ProfileTable) (k : Nat) (e : Option RangeEntry) : ProfileTable :=
  { t with ranges := t.ranges.setIfInBounds k e }

/-- The slot whose valid original entry holds a catalogue number, whatever its mode (R52). -/
def ProfileTable.heldBy? (t : ProfileTable) (x : Nat) : Option Nat :=
  t.originals.toList.findIdx? fun e => match e with | some o => o.cat == x | none => false

/-- The span of a range entry holds a number (R49). -/
def RangeEntry.holds (r : RangeEntry) (x : Nat) : Bool := decide (r.base ≤ x) && decide (x < r.base + 2 ^ r.exponent)

/-- The lookup among the range entries, from slot 0 on (R50, steps 2 and 3). -/
def ProfileTable.lookupRange (t : ProfileTable) (x : Nat) : ProfileResult :=
  match t.ranges.toList.findIdx? fun e => match e with | some r => r.holds x | none => false with
  | some k => { source := .range k, p := (t.range? k).elim 0 fun r => r.p, fixed := none }
  | none => { source := .miss, p := 0, fixed := none }

/-- The lookup of a catalogue number (R50, R51): a fixed density is handed over by a MANUAL hit only. -/
def ProfileTable.lookup (t : ProfileTable) (x : Nat) : ProfileResult :=
  match t.heldBy? x with
  | some k =>
    match t.original? k with
    | some e =>
      match e.mode with
      | .learned => { source := .original k, p := e.p, fixed := none }
      | .manual => { source := .original k, p := e.p, fixed := e.fixed }
      | .noLearn => t.lookupRange x
    | none => t.lookupRange x
  | none => t.lookupRange x

/-- The entry that served a lookup is marked: used mark set, uses raised by 1 up to 255 (R51). -/
def ProfileTable.mark (t : ProfileTable) (source : ProfileSource) : ProfileTable :=
  match source with
  | .original k => t.setOriginal k ((t.original? k).map fun e => { e with used := true, uses := min 255 (e.uses + 1) })
  | .range _ => t
  | .miss => t

/-- The slot a write goes to: its number, whether x is written in place, the table with any slot made invalid or marks
cleared on the way, and the numbers displaced (R52, R53). -/
structure SlotChoice where
  slot      : Nat
  inPlace   : Bool
  table     : ProfileTable
  displaced : List Nat
deriving DecidableEq, Repr

/-- The catalogue number of a slot's entry, as a list of none or one. -/
def ProfileTable.catsAt (t : ProfileTable) (k : Nat) : List Nat := ((t.original? k).map fun e => e.cat).toList

/-- The used mark of every LEARNED entry cleared (R53, step 4). -/
def ProfileTable.clearMarks (t : ProfileTable) : ProfileTable :=
  { t with originals := mapVec (fun e => e.map fun o => if o.mode = .learned then { o with used := false } else o) t.originals }

/-- The victim with the pointer off (R53, steps 2 to 5). -/
def ProfileTable.victim (t : ProfileTable) : Option SlotChoice :=
  match t.originals.toList.findIdx? fun e => e.isNone with
  | some k => some { slot := k, inPlace := false, table := t, displaced := [] }
  | none =>
    match t.originals.toList.findIdx? fun e =>
        match e with | some o => decide (o.mode = .learned) && !o.used | none => false with
    | some k => some { slot := k, inPlace := false, table := t, displaced := t.catsAt k }
    | none =>
      match t.originals.toList.findIdx? fun e =>
          match e with | some o => decide (o.mode = .learned) | none => false with
      | some k => some { slot := k, inPlace := false, table := t.clearMarks, displaced := t.catsAt k }
      | none => none

/-- The slot for a write of a number (R52, R53). -/
def ProfileTable.choose (t : ProfileTable) (x : Nat) : Option SlotChoice :=
  match t.pointer, t.heldBy? x with
  | none, some k => some { slot := k, inPlace := true, table := t, displaced := [] }
  | some p, some k =>
    if p = k then some { slot := k, inPlace := true, table := t, displaced := [] }
    else some { slot := p, inPlace := false, table := t.setOriginal k none, displaced := t.catsAt p ++ [x] }
  | some p, none => some { slot := p, inPlace := false, table := t, displaced := t.catsAt p }
  | none, none => t.victim

/-- Learning results handed to the roll register (R58). -/
inductive LearnResult where
  | updated (slot : Nat)
  | inserted (slot : Nat) (displaced : Option Nat)
  | unchanged
  | dropped
deriving DecidableEq, Repr

/-- The delta of a selection, by the last outcome step it writes: half the distance, rounded toward zero (R56). -/
def learnDelta (n spacing : Nat) : LastStep → Int
  | .kept j => (j * spacing).tdiv 2
  | .under => (((n + 1) / 2 * spacing / 2 : Nat) : Int)
  | .over => -(((n + 1) / 2 * spacing / 2 : Nat) : Int)

/-- Learning for a group (R57, R58): a LEARNED entry takes its new correction, a MANUAL or NOLEARN entry stays, and a number
not held is written as a LEARNED entry seeded from the group's P used. -/
def ProfileTable.learn (t : ProfileTable) (x n spacing : Nat) (pUsed : Int) (step : LastStep) : ProfileTable × LearnResult :=
  match t.heldBy? x with
  | some k =>
    match t.original? k with
    | some e =>
      if e.mode = .learned then
        (t.setOriginal k (some { e with p := clampInt (-24) 24 (e.p + learnDelta n spacing step), used := true, last := some step }),
          .updated k)
      else (t, .unchanged)
    | none => (t, .unchanged)
  | none =>
    match t.choose x with
    | some c =>
      (c.table.setOriginal c.slot
          (some { cat := x, mode := .learned, p := clampInt (-24) 24 (pUsed + learnDelta n spacing step), fixed := none,
                  used := true, uses := 0, last := some step }),
        .inserted c.slot c.displaced.head?)
    | none => (t, .dropped)

end Sys2Proof.Machine
end

