-- ==== Sys2Proof/Machine/Exposure.lean ====
section
/-! DEFINITION. The exposure computer: the seven stages from readings to shutter ticks (02_exposure_arithmetic). -/

namespace Sys2Proof.Machine

/-- Stage 1: the effective density of five readings, the centre at half the weight of the whole (R34). -/
def effectiveDensity (centre upperLeft upperRight lowerLeft lowerRight : Nat) : Nat :=
  divHalfUp (4 * centre + (upperLeft + upperRight + lowerLeft + lowerRight)) 8

/-- Stage 2: the density in twelfths of a stop (R36). -/
def densityTwelfths (d : Nat) : Nat := divHalfUp (2 * d) 5

/-- Stage 3: the magnification correction (R37). -/
def magnCorrection (c : Nat) : Nat := Config.magnification.getD c 0

/-- The adjustment term (R38). -/
def adjustTerm (adjust shift : Int) : Int := clampInt (-48) 48 (adjust + shift)

/-- Stage 5: the step numbers of a bracket, −h..+h in rising order (R40). -/
def bracketSteps (n : Nat) : List Int := (List.range (2 * ((n - 1) / 2) + 1)).map fun (i : Nat) => (i : Int) - ((n - 1) / 2 : Nat)

/-- What stage 6 makes of a wanted exposure. -/
structure Realised where
  code       : Nat
  nd         : Nat
  shortClamp : Bool
  longClamp  : Bool
deriving DecidableEq, Repr

/-- The needed ND of a wanted exposure below 24: 12 × ceil((24 − E)/12) (R41). -/
def neededNd (e : Int) : Nat := 12 * (((24 - e).toNat + 11) / 12)

/-- The lengthened exposure E' of a wanted exposure above 120 (R43). -/
def lengthened (k : Nat) (e : Int) : Nat := e.toNat + divHalfUp ((e - 120).toNat * k) 12

/-- Stage 6: the realisation of a wanted exposure (R41, R42, R43). -/
def realise (k : Nat) (e : Int) : Realised :=
  if e < 24 then
    if neededNd e ≤ 36 then { code := (e + neededNd e).toNat, nd := neededNd e, shortClamp := false, longClamp := false }
    else { code := 24, nd := 36, shortClamp := true, longClamp := false }
  else if e ≤ 120 then { code := e.toNat, nd := 0, shortClamp := false, longClamp := false }
  else if lengthened k e ≤ 180 then { code := lengthened k e, nd := 0, shortClamp := false, longClamp := false }
  else { code := 180, nd := 0, shortClamp := false, longClamp := true }

/-- Stage 7: the shutter time of a code in ticks of 0.1 ms (R45). -/
def codeTicks (code : Nat) : Nat := divHalfUp (Config.mantissa.getD (code % 12) 0 * 2 ^ (code / 12)) 100

/-- One step of the plan (R44, R46). -/
def planStep (k spacing : Nat) (s : Int) (dense : Bool) (j : Int) : PlanStep :=
  let e := s + j * spacing
  let r := realise k e
  { j := j, e := e, code := r.code, nd := r.nd, ticks := codeTicks r.code, dense := dense, shortClamp := r.shortClamp,
    longClamp := r.longClamp }

/-- The centre exposure (R39). -/
def centreOf (stock : StockEntry) (c : Cycle) (d : Nat) : Int :=
  (stock.eRef : Int) + densityTwelfths d + magnCorrection c.magn + stock.filter + c.profile.p + c.offset
    + adjustTerm c.adjust c.shift

/-- The bracket plan of a cycle from its effective density (R33, R46). -/
def computePlan (stock : StockEntry) (c : Cycle) (d : Nat) (dense : Bool) : Plan :=
  { d := d, dt := densityTwelfths d, m := magnCorrection c.magn, a := adjustTerm c.adjust c.shift,
    s := centreOf stock c d,
    steps := (bracketSteps c.n).map (planStep stock.k c.spacing (centreOf stock c d) dense) }

end Sys2Proof.Machine
end

