-- ==== Sys2Proof/Machine/Film.lean ====
section
/-! DEFINITION. The film transport: ADVANCE, SWAP, the fit of a bracket, group and frame records (05_film_backs_and_rolls). -/

namespace Sys2Proof.Machine

/-! ## ADVANCE -/

/-- Start an ADVANCE of a back with the advance timeout as it stands (R94). -/
def startAdvance (back : BackId) (cause : AdvanceCause) (ofCycle : Bool) (s : State) : State :=
  s.onBack back fun k =>
    { k with advance := some { cause := cause, limit := s.stand.settings.advanceLimit, ofCycle := ofCycle } }

/-- Ask for an ADVANCE of a back: one at a time, the others wait (R94). -/
def askAdvance (back : BackId) (cause : AdvanceCause) (ofCycle : Bool) (s : State) : State :=
  if (s.back back).advance.isNone ∧ (s.back back).waiting = [] then startAdvance back cause ofCycle s
  else s.onBack back fun k => { k with waiting := k.waiting ++ [{ cause := cause, ofCycle := ofCycle }] }

/-- The spent-frame advance after a SPOILT frame: started, or owed while an ADVANCE of the back is in flight (R98). -/
def spentAdvance (back : BackId) (s : State) : State :=
  if (s.back back).advance.isNone then startAdvance back .spent false s
  else s.onBack back fun k => { k with owed := true }

/-- The owed spent-frame advance starts once no ADVANCE of the back is in flight (R95). -/
def startOwed (back : BackId) (s : State) : State :=
  if (s.back back).owed ∧ (s.back back).advance.isNone then
    (startAdvance back .spent false s).onBack back fun k => { k with owed := false }
  else s

/-! ## SWAP -/

/-- An exposure is in flight on a back. -/
def exposingOn (s : State) (back : BackId) : Bool :=
  s.stand.expose.isSome && (match s.stand.cycle with | some c => decide (c.back = back) | none => false)

/-- What a SWAP waits on: an exposure on the back at the camera position or an ADVANCE of it; nothing while the turret
position is UNKNOWN (R102). -/
def swapBlocked (s : State) : Bool :=
  match s.film.turret with
  | .stands k => exposingOn s k || (s.back k).advance.isSome
  | .turning _ => false
  | .unknown => false

/-- A SWAP comes to start: it completes at once where the turret stands at its target, and turns the turret else (R102). -/
def beginSwap (target : BackId) (ofCycle : Bool) (s : State) : State :=
  if s.film.turret = .stands target then s
  else s.onFilm fun m =>
    { m with turret := .turning target, swap := some { target := target, stale := false, ofCycle := ofCycle } }

/-- A SWAP may start: none is in flight, and either it turns nothing or nothing it waits on is in flight (R102). -/
def swapMayStart (target : BackId) (s : State) : Bool :=
  s.film.swap.isNone && (decide (s.film.turret = .stands target) || !swapBlocked s)

/-- Ask for a SWAP: it starts, or waits behind those asked for before it (R102). -/
def askSwap (target : BackId) (ofCycle : Bool) (s : State) : State :=
  if s.film.swapWaiting = [] ∧ swapMayStart target s then beginSwap target ofCycle s
  else s.onFilm fun m => { m with swapWaiting := m.swapWaiting ++ [{ target := target, ofCycle := ofCycle }] }

/-! ## The fit of a bracket -/

/-- The back taken as the one at the camera position: the one a SWAP is turning to, and A while UNKNOWN (R100). -/
def cameraBack (s : State) : BackId :=
  match s.film.turret with
  | .stands k => k
  | .turning k => k
  | .unknown => .backA

/-- The film test: at least one back is READY with a roll of the stock (R12, step 2). -/
def filmTest (s : State) (stock : Nat) : Bool := s.film.backA.readyFor stock || s.film.backB.readyFor stock

/-- A back takes a bracket of n frames on a stock. -/
def Back.takesBracket (k : Back) (stock n : Nat) : Bool := k.readyFor stock && k.fits n

/-- The back for a bracket of n frames on a stock (R13). -/
def findBack (s : State) (stock n : Nat) : Option BackId :=
  if (s.back (cameraBack s)).takesBracket stock n then some (cameraBack s)
  else if (s.back (otherBack (cameraBack s))).takesBracket stock n then some (otherBack (cameraBack s))
  else none

/-- The back asked to become FULL: of the READY backs of the stock the one with fewer remaining frames, A with equal (R15). -/
def backToClose (s : State) (stock : Nat) : Option BackId :=
  if s.film.backA.readyFor stock then
    if s.film.backB.readyFor stock ∧ s.film.backB.remaining < s.film.backA.remaining then some .backB else some .backA
  else if s.film.backB.readyFor stock then some .backB
  else none

/-- A READY back is made FULL; a back that is not READY is not changed (R101). -/
def makeFull (back : BackId) (s : State) : State :=
  if (s.back back).state = .ready then setBackState back .full s else s

/-! ## Group and frame records -/

/-- A group opens: an earlier INCOMPLETE group with no frame at the same first frame goes in the same event (R90). -/
def Roll.openGroup (r : Roll) (g : Group) : Roll :=
  { r with
    groups := (r.groups.filter fun x =>
      !(x.first == g.first && decide (x.completeness = .incomplete) && (r.framesOf x.first).isEmpty)) ++ [g] }

/-- A frame record is written with the next frame number, which rises by 1 (R90). -/
def Roll.addFrame (r : Roll) (f : Frame) : Roll := { r with frames := r.frames ++ [f], next := r.next + 1 }

/-- A frame record is written on the roll of a back and the gate frame becomes SPENT (R90). -/
def writeFrame (back : BackId) (frame : Roll → Frame) (s : State) : State :=
  s.onBack back fun k => { k with roll := k.roll.map fun r => r.addFrame (frame r), gateFrame := .spent }

/-- The roll record leaves a back, which becomes EMPTY (R106, R107). -/
def emptyBack (back : BackId) (s : State) : State :=
  setBackState back .empty
    (s.onBack back fun k => { k with roll := none, gateFrame := .fresh, leaderLeft := 0 })

/-- The shutter conditions of R99 on a back. -/
def shutterMayOpen (s : State) (back : BackId) : Bool :=
  decide ((s.back back).state = .ready) && decide (s.film.turret = .stands back) && s.film.swap.isNone
    && decide ((s.back back).gateFrame = .fresh) && (s.back back).advance.isNone && !(s.back back).owed
    && (match (s.back back).roll with
        | some r => decide (r.next ≤ r.declared)
        | none => false)

end Sys2Proof.Machine
end

