-- ==== Sys2Proof/Machine/Tally.lean ====
section
/-! DEFINITION. The tally unit: matching, postings, notice levels and the ceiling check (09_charges_and_tally_counters). -/

namespace Sys2Proof.Machine

/-- The bit of a posting kind in a counter's kinds (R173, R193). -/
def PostKind.bit : PostKind → Nat
  | .frame => 0
  | .mount => 1
  | .credit => 2
  | .adjust => 3

/-- A posting of a kind, account and stock (`none` for NONE) matches a counter (R174). -/
def Counter.takes (c : Counter) (kind : PostKind) (account : Nat) (stock : Option Nat) : Bool :=
  c.enabled && c.kinds.getLsbD kind.bit && decide (BitVec.ofNat 16 account &&& c.acctMask = c.acctMatch)
    && (match stock with
        | some k => c.stocks.getLsbD k
        | none => true)

/-- The total after an amount is added, held at its ends (R175). -/
def addHeld (total : Nat) (amount : Int) : Nat := (clampInt 0 Config.maxTotal ((total : Int) + amount)).toNat

/-- The level-crossed mark after a total has moved (R176). -/
def crossedAfter (c : Counter) (total : Nat) : Bool :=
  match c.level with
  | none => c.crossed
  | some l => if c.total < l ∧ l ≤ total then true else if total < l then false else c.crossed

/-- A counter after a posting is offered to it (R175, R176). -/
def postCounter (kind : PostKind) (account : Nat) (stock : Option Nat) (amount : Int) (c : Counter) : Counter :=
  if c.takes kind account stock then
    { c with total := addHeld c.total amount, crossed := crossedAfter c (addHeld c.total amount) }
  else c

/-- The COUNTER LEVEL a posting queues for one counter: only when the mark goes from clear to set (R176). -/
def levelNotice (kind : PostKind) (account : Nat) (k : Nat) (before after : Counter) : Option Notice :=
  match before.level with
  | none => none
  | some l =>
    if before.crossed = false ∧ after.crossed = true then some (.counterLevel k before.note after.total l kind account)
    else none

/-- A counter by its number; a disabled one for a number there is none of. -/
def counterAt (v : Vector Counter 16) (k : Nat) : Counter := (v[k]?).getD Counter.initial

/-- A posting: offered to the counters 0..15 in rising number, with their COUNTER LEVEL notices, and then, when it lowered
a total, every CEILING hold is released once (R175, R176). -/
def post (kind : PostKind) (account : Nat) (stock : Option Nat) (amount : Int) (s : State) : State :=
  let before := s.tally.counters
  let after := mapVec (postCounter kind account stock amount) before
  let s' := queueNotices
    ((List.range 16).filterMap fun k => levelNotice kind account k (counterAt before k) (counterAt after k))
    (s.onTally fun t => { t with counters := after })
  if (List.range 16).any fun k => decide ((counterAt after k).total < (counterAt before k).total) then releaseCeiling s'
  else s'

/-- A stock entry by its number. -/
def State.stock (s : State) (k : Nat) : StockEntry := (s.stocks[k]?).getD StockEntry.initial

/-- The FRAME amount of a frame of a stock and class with the rates as they stand (R170). -/
def frameAmount (s : State) (stock cls : Nat) : Nat :=
  (s.stock stock).rate + (if s.tally.rushClass ≤ cls then s.tally.surcharge else 0)

/-- A counter fails the ceiling check for a needed amount: it takes part (R177), a FRAME posting of the account and stock
would match it, and its total with the amount, taken exactly, is above its ceiling (R178). -/
def failsCeiling (account stock needed : Nat) (c : Counter) : Bool :=
  c.takes .frame account (some stock)
    && (match c.ceiling with
        | some limit => decide (limit < c.total + needed)
        | none => false)

/-- The ceiling check for a bracket: the lowest-numbered counter that fails, none when it passes (R178). -/
def ceilingCheck (s : State) (account stock cls n : Nat) : Option Nat :=
  (List.range 16).find? fun k => failsCeiling account stock (n * frameAmount s stock cls) (counterAt s.tally.counters k)

/-- The CREDIT postings of frames, in the order given: the negative of the stored amount to the stored account, for each
EXPOSURE frame whose credited mark is clear (R125, R142, R171, R172). -/
def creditFrames (stock : Nat) : List Frame → State → State
  | [], s => s
  | f :: fs, s =>
    if f.kind = .exposure ∧ f.credited = false then
      creditFrames stock fs (post .credit (f.account.getD 0) (some stock) (-(f.amount.getD 0 : Int)) s)
    else creditFrames stock fs s

/-- A frame after its group has been credited: the credited mark of an EXPOSURE frame is set. -/
def Frame.markCredited (f : Frame) : Frame := if f.kind = .exposure then { f with credited := true } else f

end Sys2Proof.Machine
end

