-- ==== Sys2Proof/Machine/Labels.lean ====
section
/-! DEFINITION. The label unit: the label queue and its fill, the printer line, label frames, and the close of a roll whose
labels are done (08_mount_labels, section 7.4). -/

namespace Sys2Proof.Machine

/-! ## Label states and the queue -/

/-- The kept frames of the register with a label state, in the register order (R130). -/
def labelsWith (st : LabelState) (s : State) : List LabelKey :=
  s.registerOrder.flatMap fun x =>
    (x.2.frames.filter fun f => f.label = some st).map fun f => { roll := x.2.id, frame := f.number }

/-- The place of a label in the register order: the unload sequence of its roll, then its frame number (R130). -/
def labelRank (s : State) (k : LabelKey) : Nat × Nat :=
  ((((s.slotOf? k.roll).bind s.slotRoll?).bind fun r => r.unloadSeq).getD 0, k.frame)

/-- One label may stand before another in the register order. -/
def labelBefore (s : State) (x y : LabelKey) : Bool :=
  decide ((labelRank s x).1 < (labelRank s y).1)
    || (decide ((labelRank s x).1 = (labelRank s y).1) && decide (x.frame ≤ y.frame))

/-- The kept frame of a label takes a label state (R149). -/
def setLabelState (k : LabelKey) (st : LabelState) (s : State) : State :=
  match s.slotOf? k.roll with
  | none => s
  | some slot =>
    s.onSlot slot fun r =>
      { r with frames := r.frames.map fun f =>
          if f.number == k.frame ∧ f.selection = .kept then { f with label := some st } else f }

/-- A label becomes QUEUED and takes its place in the queue (R150). -/
def enqueue (k : LabelKey) (s : State) : State :=
  (setLabelState k .queued s).onLabels fun u => { u with queue := insertBy (labelBefore s) k u.queue }

/-- The fill of the queue from the WAITING labels, the oldest first (R151), with room for at most `n` more. -/
def fillBy : Nat → State → State
  | 0, s => s
  | n + 1, s =>
    if s.labels.queue.length < Config.maxLabels then
      match labelsWith .waiting s with
      | [] => s
      | k :: _ => fillBy n (enqueue k s)
    else s

/-- The fill of R151: it repeats until the queue holds 32 labels or none is WAITING. -/
def fillQueue (s : State) : State := fillBy Config.maxLabels s

/-- The label record of a key (R148). -/
def labelRecord? (s : State) (k : LabelKey) : Option LabelRecord := s.labels.records.find? fun r => r.key = k

/-! ## The printer line -/

/-- LENGTH to STOCK of a label frame, the bytes its CHECK is taken over (R153). -/
def labelCore (r : LabelRecord) : List Byte :=
  let fields := natBytes 3 r.key.roll ++ natBytes 1 r.key.frame ++ natBytes 3 r.cat ++ textBytes r.caption
    ++ textBytes r.course ++ natBytes 2 r.lecturer ++ natBytes 2 r.account ++ natBytes 2 r.date ++ natBytes 1 r.stock
  natBytes 1 fields.length ++ fields

/-- A label frame (R153). -/
def labelFrame (r : LabelRecord) : List Byte := 0x3C#8 :: (labelCore r ++ [crc8 (labelCore r)])

/-- The byte of a printer token (R153). -/
def Token.byte : Token → Byte
  | .printed => 0x50#8
  | .jammed => 0x4A#8
  | .outOfLabels => 0x45#8
  | .formatError => 0x46#8

/-- The token a byte of the printer line is; any other byte is none (R153). -/
def tokenOf? (x : Byte) : Option Token := [Token.printed, .jammed, .outOfLabels, .formatError].find? fun t => t.byte == x

/-- The label frame of a key is sent and the key is the head; the token wait will take the printer token timeout as it
stands now (R155). It takes the place of a label frame still being sent (assumption log entry 40). -/
def transmit (k : LabelKey) (s : State) : State :=
  s.onLabels fun u =>
    { u with head := some k, line := .awaiting, timedOut := false, waitOn := false,
             tokenLimit := s.stand.settings.tokenLimit, out := (labelRecord? s k).map labelFrame }

/-- A label is sent when the line is IDLE and the queue is not empty: the held head anew, else the first label (R155). -/
def sendIfIdle (s : State) : State :=
  match s.labels.line, s.labels.queue with
  | .idle, k :: _ => transmit (s.labels.head.getD k) s
  | _, _ => s

/-- The run after one PRINTED token (R156, step 3). -/
def Run.afterPrinted : Run → Run
  | .counted n => if n ≤ 1 then .off else .counted (n - 1)
  | r => r

/-- The head leaves the queue and the line holds none; its token wait and timed-out mark end with it (R156, R158). -/
def dropHead (k : LabelKey) (token : Token) (s : State) : State :=
  s.onLabels fun u =>
    { u with queue := u.queue.erase k, head := none, waitOn := false, timedOut := false, lastToken := some token }

/-- The MOUNT posting of a label: its account and stock, the mount rate as it stands (R156, R171). -/
def postMount (k : LabelKey) (s : State) : State :=
  match labelRecord? s k with
  | some r => post .mount r.account (some r.stock) s.tally.mountRate s
  | none => s

/-- Steps 1 to 4 of R156: the head is PRINTED and leaves, the MOUNT is posted, the run counts, the fill runs. -/
def completeHead (k : LabelKey) (s : State) : State :=
  fillQueue
    ((postMount k (setLabelState k .printed (dropHead k .printed s))).onLabels fun u => { u with run := u.run.afterPrinted })

/-- Where the line goes when the head has left: PAUSED with a pause pending or no run, the mark then cleared, else IDLE
(R156, R158). -/
def lineAfterHead (s : State) : State :=
  s.onLabels fun u =>
    if u.pausePending ∨ u.run = .off then { u with line := .paused, pausePending := false } else { u with line := .idle }

/-- The line becomes STOPPED for a reason, or PAUSED with the mark cleared when a pause is pending (R157, R159). -/
def stopLine (reason : StopReason) (s : State) : State :=
  s.onLabels fun u =>
    if u.pausePending then { u with line := .paused, pausePending := false } else { u with line := .stopped reason }

/-! ## Closing a roll -/

/-- A label that keeps a roll open (R138). -/
def Frame.labelOpen (f : Frame) : Bool :=
  decide (f.selection = .kept) && (decide (f.label = some .waiting) || decide (f.label = some .queued))

/-- A roll is closable: no group UNSELECTED, no kept frame with a label WAITING or QUEUED (R138). -/
def Roll.closable (r : Roll) : Bool :=
  !(r.groups.any fun g => g.outcome = .unselected) && !(r.frames.any Frame.labelOpen)

/-- A group outcome that counts as rejected in ROLL CLOSED (R140). -/
def GroupOutcome.isReject : GroupOutcome → Bool
  | .rejectUnder => true
  | .rejectOver => true
  | .reject => true
  | _ => false

/-- A group outcome that is KEPT. -/
def GroupOutcome.isKept : GroupOutcome → Bool
  | .kept _ => true
  | _ => false

/-- The kept frames of a roll with a label state. -/
def Roll.labelCount (r : Roll) (st : LabelState) : Nat :=
  r.frames.countP fun f => decide (f.selection = .kept) && decide (f.label = some st)

/-- ROLL CLOSED for a roll (R140). -/
def rollClosedNotice (slot : Nat) (cause : CloseCause) (r : Roll) : Notice :=
  .rollClosed r.id slot cause (r.groups.countP fun g => g.outcome.isKept) (r.groups.countP fun g => g.outcome.isReject)
    (r.groups.countP fun g => g.outcome = .discarded) (r.labelCount .printed) (r.labelCount .failed)

/-- A roll closes: ROLL CLOSED, then the record, its slot and its label records are freed (R140, R148). -/
def closeRoll (slot : Nat) (cause : CloseCause) (s : State) : State :=
  match s.slotRoll? slot with
  | none => s
  | some r =>
    ((queueNotice (rollClosedNotice slot cause r) s).onRegister fun v => v.setIfInBounds slot none).onLabels
      fun u => { u with records := u.records.filter fun x => x.key.roll != r.id }

/-- The close test of a roll in the register (R139). -/
def closeTest (roll : Nat) (s : State) : State :=
  match s.slotOf? roll with
  | none => s
  | some slot =>
    match s.slotRoll? slot with
    | some r => if r.closable then closeRoll slot .automatic s else s
    | none => s

/-! ## PRINTER CHANGED -/

/-- PRINTER CHANGED with the line as it stands (R154). -/
def printerNotice (s : State) : Notice :=
  .printerChanged s.labels.line s.labels.head s.labels.run s.labels.lastToken s.labels.queue.length
    (labelsWith .waiting s).length

/-- PRINTER CHANGED at the end of an event that began in one state and ends in another (R154). -/
def printerEnd (before : State) (s : State) : State :=
  if before.labels.line ≠ s.labels.line ∨ before.labels.queue.isEmpty ≠ s.labels.queue.isEmpty then
    queueNotice (printerNotice s) s
  else s

end Sys2Proof.Machine
end

