-- ==== Sys2Proof/Machine/Register.lean ====
section
/-! DEFINITION. The roll register: selections applied to groups, the settlement of CLOSE ROLL, and a cancel that takes effect
(07_roll_register_and_selections, R20). -/

namespace Sys2Proof.Machine

/-- The group of a first frame. -/
def Roll.group? (r : Roll) (first : Nat) : Option Group := r.groups.find? fun g => g.first == first

/-! ## Keeping a frame -/

/-- A kept frame's label record, from the order, slide and group (R134, R148). -/
def labelRecordOf (s : State) (r : Roll) (g : Group) (frame : Nat) (o : Order) (x : Slide) : LabelRecord :=
  { key := { roll := r.id, frame := frame }, cat := g.cat, caption := x.caption.getD o.title, course := o.title,
    lecturer := o.lecturer, account := o.account, date := s.labels.date, stock := r.stock }

/-- The label state a new label takes: QUEUED with room in the queue and no older kept frame WAITING, else WAITING (R134). -/
def newLabelState (s : State) (k : LabelKey) : LabelState :=
  if s.labels.queue.length < Config.maxLabels
      ∧ (labelsWith .waiting s).all (fun w => labelBefore s k w) then .queued else .waiting

/-- The label record of a kept frame is made and the frame takes its label state (R134). -/
def makeLabel (rec : LabelRecord) (s : State) : State :=
  let s' := s.onLabels fun u => { u with records := u.records ++ [rec] }
  match newLabelState s rec.key with
  | .queued => enqueue rec.key s'
  | st => fillQueue (setLabelState rec.key st s')

/-- The frame records of a group after KEEP j: the frame of step j KEPT, the others DISCARDED (R133). -/
def Roll.keepStep (r : Roll) (first : Nat) (j : Int) : Roll :=
  (r.onGroup first fun g => { g with outcome := .kept j }).onFramesOf first fun f =>
    { f with selection := if f.step = j ∧ f.kind = .exposure then .kept else .discarded }

/-- The EXPOSURE frame of step j of a group. -/
def Roll.frameOfStep? (r : Roll) (first : Nat) (j : Int) : Option Frame :=
  (r.framesOf first).find? fun f => decide (f.step = j) && decide (f.kind = .exposure)

/-- The frame number of step j of a group. -/
def Roll.frameOfStep (r : Roll) (first : Nat) (j : Int) : Nat := ((r.frameOfStep? first j).map fun f => f.number).getD 0

/-- The profile table learns from a group (R56 to R58). -/
def learnFrom (g : Group) (step : LastStep) (s : State) : State × LearnResult :=
  let r := s.profiles.learn g.cat g.n g.spacing g.pUsed step
  (s.onProfiles fun _ => r.1, r.2)

/-! ## Entries of a selection report -/

/-- The result of one entry of a selection report (R132). -/
inductive EntryResult where
  | unknown | incomplete | already | range
  | done (outcome : GroupOutcome) (slide : Option Slide) (learned : Option LearnResult)
      (label : Option (Nat × Option LabelState)) (finished : Bool)
deriving DecidableEq, Repr

/-- The label state of a frame of a register roll. -/
def labelStateOf (s : State) (k : LabelKey) : Option LabelState :=
  (((s.slotOf? k.roll).bind s.slotRoll?).bind fun r => r.frames.find? fun f => f.number == k.frame).bind fun f => f.label

/-- The slide entry of a group's order. -/
def groupSlide (s : State) (g : Group) : Option Slide := (s.order? g.order).bind fun o => o.slides[g.slide]?

/-- KEEP j applied to a group of a register slot (R133). -/
def applyKeep (slot : Nat) (r : Roll) (g : Group) (j : Int) (s : State) : State × LearnResult :=
  let s1 := s.onSlot slot fun r => r.keepStep g.first j
  let s2 :=
    match s.order? g.order, groupSlide s g, r.frameOfStep? g.first j with
    | some o, some x, some f => makeLabel (labelRecordOf s r g f.number o x) s1
    | _, _, _ => s1
  let (s3, learned) := learnFrom g (.kept j) s2
  (takeOutcomeChange g.order (onSlide g.order g.slide (fun x => { x with outcome := .kept }) s3), learned)

/-- The movement of the reshoot shift for a rejection: (n + 1)/2 × spacing (R135). -/
def shiftMove (g : Group) : Int := (((g.n + 1) / 2 * g.spacing : Nat) : Int)

/-- A slide after its bracket is rejected: shot again with its shift moved while attempts are left, else REJECTED (R135, R136). -/
def Slide.rejectedBy (x : Slide) (move : Int) : Slide :=
  if x.attempts < Config.maxAttempts then
    { x with outcome := .reshootDue, shift := clampInt (-48) 48 (x.shift + move) }
  else { x with outcome := .rejected }

/-- REJECT_UNDER or REJECT_OVER applied to a group of a register slot (R135). -/
def applyRejectExposure (slot : Nat) (g : Group) (tooDense : Bool) (s : State) : State × LearnResult :=
  let s1 := s.onSlot slot fun r => r.discardGroup g.first (if tooDense then .rejectOver else .rejectUnder)
  let (s2, learned) := learnFrom g (if tooDense then .over else .under) s1
  (takeOutcomeChange g.order
    (onSlide g.order g.slide (fun x => x.rejectedBy (if tooDense then -(shiftMove g) else shiftMove g)) s2), learned)

/-- A slide after REJECT: shot again with its shift unchanged while attempts are left, else REJECTED (R136). -/
def Slide.rejectedPlain (x : Slide) : Slide :=
  if x.attempts < Config.maxAttempts then { x with outcome := .reshootDue } else { x with outcome := .rejected }

/-- REJECT applied to a group of a register slot (R136). -/
def applyReject (slot : Nat) (g : Group) (s : State) : State :=
  takeOutcomeChange g.order
    (onSlide g.order g.slide Slide.rejectedPlain (s.onSlot slot fun r => r.discardGroup g.first .reject))

/-- The DONE result of an entry whose group belonged to an order: what the order's slide has become, and whether the order
has finished (R132). -/
def doneResult (before after : State) (slot : Nat) (g : Group) (changed : Option Slide) (learned : Option LearnResult)
    (label : Option (Nat × Option LabelState)) : EntryResult :=
  .done ((((after.slotRoll? slot).bind fun r => r.group? g.first).map fun g => g.outcome).getD .unselected) changed learned label
    ((before.order? g.order).isSome && (after.order? g.order).isNone)

/-- One entry of a selection report on the roll of a register slot: tested by R132, applied by R133, R135 or R136. -/
def applyEntry (slot : Nat) (e : SelectReq) (s : State) : State × EntryResult :=
  match s.slotRoll? slot with
  | none => (s, .unknown)
  | some r =>
    match r.group? e.first with
    | none => (s, .unknown)
    | some g =>
      if g.completeness ≠ .complete then (s, .incomplete)
      else if g.outcome ≠ .unselected then (s, .already)
      else
        match e.outcome with
        | 0 =>
          if ((g.n - 1) / 2 : Nat) < e.step.natAbs then (s, .range)
          else
            let (s', learned) := applyKeep slot r g e.step s
            let frame := r.frameOfStep g.first e.step
            (s', doneResult s s' slot g ((groupSlide s g).map fun x => { x with outcome := .kept }) (some learned)
              (some (frame, labelStateOf s' { roll := r.id, frame := frame })))
        | 1 =>
          let (s', learned) := applyRejectExposure slot g false s
          (s', doneResult s s' slot g ((groupSlide s g).map fun x => x.rejectedBy (shiftMove g)) (some learned) none)
        | 2 =>
          let (s', learned) := applyRejectExposure slot g true s
          (s', doneResult s s' slot g ((groupSlide s g).map fun x => x.rejectedBy (-(shiftMove g))) (some learned) none)
        | _ =>
          let s' := applyReject slot g s
          (s', doneResult s s' slot g ((groupSlide s g).map Slide.rejectedPlain) none none)

/-! ## CLOSE ROLL -/

/-- The groups of a roll still UNSELECTED, in list order. -/
def Roll.unselectedGroups (r : Roll) : List Group := r.groups.filter fun g => g.outcome = .unselected

/-- One group settled LOST: discarded, its EXPOSURE frames credited, its slide due again with one attempt less (R142). -/
def settleLost (slot : Nat) (g : Group) (s : State) : State :=
  match s.slotRoll? slot with
  | none => s
  | some r =>
    let s1 := s.onSlot slot fun r => (r.discardGroup g.first .discarded).onFramesOf g.first Frame.markCredited
    takeOutcomeChange g.order
      (onSlide g.order g.slide (fun x => { x with outcome := .reshootDue, attempts := x.attempts - 1 })
        (creditFrames r.stock (r.framesOf g.first) s1))

/-- One group settled ABANDON: rejected with its slide, no credit (R143). -/
def settleAbandon (slot : Nat) (g : Group) (s : State) : State :=
  takeOutcomeChange g.order
    (onSlide g.order g.slide (fun x => { x with outcome := .rejected })
      (s.onSlot slot fun r => r.discardGroup g.first .reject))

/-- The frames a LOST settlement credits (R142). -/
def Roll.lostFrames (r : Roll) : List Frame :=
  r.unselectedGroups.flatMap fun g =>
    (r.framesOf g.first).filter fun f => decide (f.kind = .exposure) && !f.credited

/-! ## A cancel that takes effect -/

/-- A group that a cancel of the order discards (R20). -/
def Group.cancelledBy (g : Group) (number : Nat) : Bool := g.order == number && decide (g.outcome = .unselected)

/-- The roll after a cancel of the order: its UNSELECTED groups and their frames DISCARDED (R20, R91, R144). -/
def Roll.cancelOrder (r : Roll) (number : Nat) : Roll :=
  (r.groups.filter fun g => g.cancelledBy number).foldl (fun r g => r.discardGroup g.first .discarded) r

/-- The register rolls a cancel reaches, in the register order (R144). -/
def cancelledRolls (s : State) (number : Nat) : List Nat :=
  (s.registerOrder.filter fun x => x.2.groups.any fun g => g.cancelledBy number).map fun x => x.2.id

/-- A cancel takes effect (R20, R144): groups discarded on every roll, the order out of the stack and freed with ORDER
FINISHED, then the close test of each register roll it reached. -/
def cancelEffect (number : Nat) (s : State) : State :=
  let s1 := ((s.onBackRoll .backA fun r => r.cancelOrder number).onBackRoll .backB fun r => r.cancelOrder number).onRegister
    fun v => mapVec (fun x => x.map fun r => r.cancelOrder number) v
  let s2 := queueNotice (.orderCancelled number) (freeOrder number (removeFromStack number s1))
  (cancelledRolls s number).foldl (fun s k => closeTest k s) s2

end Sys2Proof.Machine
end

