-- ==== Sys2Proof/Machine/Sequencer.lean ====
section
/-! DEFINITION. The stand sequencer and what the feeder and light head do for it: operations asked for, the plan, exposures,
the abort, the ends of a cycle, halt reports (04_tray_feeder_and_light_head, 06_the_slide_cycle). -/

namespace Sys2Proof.Machine

/-- Change the cycle record. -/
def onCycle (f : Cycle → Cycle) (s : State) : State := s.onStand fun t => { t with cycle := t.cycle.map f }

/-! ## Feeder and light head operations asked for -/

/-- Start a feeder operation with the feed timeout as it stands; a FEED from an UNKNOWN position homes first (R72, R74). -/
def beginJob (job : FeederJob) (ofCycle : Bool) (s : State) : State :=
  s.onFeeder fun f =>
    let homing := match job with
      | .feed _ _ => f.pos.isNone
      | .home => false
      | .ret _ => false
    { f with op := some { job, homing, limit := s.stand.settings.feedLimit, stale := false, ofCycle } }

/-- A feeder operation waits for the one in flight (R72). -/
def waitJob (job : FeederJob) (ofCycle : Bool) (s : State) : State :=
  s.onFeeder fun f => { f with waiting := f.waiting ++ [{ job := job, ofCycle := ofCycle }] }

/-- The feeder has neither an operation in flight nor one waiting. -/
def feederIdle (s : State) : Bool := s.feeder.op.isNone && s.feeder.waiting.isEmpty

/-- RETURN is asked for (R75). -/
def askReturn (pos : Nat) (s : State) : State :=
  if feederIdle s then beginJob (.ret pos) true s else waitJob (.ret pos) true s

/-- The position RETURN lifts the original back to: that of the HOLDS record (R75). -/
def returnPos (s : State) (c : Cycle) : Nat :=
  match s.feeder.gate with
  | .holds p _ => p
  | _ => c.pos

/-- A feeder operation of the cycle is in flight or waiting. -/
def feederOfCycle (s : State) : Bool :=
  (match s.feeder.op with | some o => o.ofCycle | none => false) || s.feeder.waiting.any fun w => w.ofCycle

/-- The feeder is usable: position known and tray PRESENT (R72). -/
def feederUsable (s : State) : Bool := s.feeder.pos.isSome && s.feeder.present

/-- A tray position is busy: it is the one of a HOLDS record, or a FEED for it has not yet ended (R67). -/
def isBusy (s : State) (pos : Nat) : Bool :=
  s.feeder.feedBusy.contains pos
    || (match s.feeder.gate with
        | .holds p _ => p == pos
        | _ => false)

/-- The gate holds the cycle's original (R119, R120, R126). -/
def gateHolds (s : State) (c : Cycle) : Bool := decide (s.feeder.gate = .holds c.pos c.cat)

/-- ND SET starts; while it is in flight the position is UNKNOWN (R81). -/
def beginNd (target : Nat) (ofCycle : Bool) (s : State) : State :=
  s.onHead fun h => { h with nd := none, ndOp := some { target := target, stale := false, ofCycle := ofCycle } }

/-- ND SET is asked for: one runs at a time, the others wait (R81). -/
def askNd (target : Nat) (ofCycle : Bool) (s : State) : State :=
  if s.head.ndOp.isNone ∧ s.head.ndWaiting = [] then beginNd target ofCycle s
  else s.onHead fun h => { h with ndWaiting := h.ndWaiting ++ [{ target := target, ofCycle := ofCycle }] }

/-! ## The cycle's group and steps -/

/-- The step of the plan named by the next step. -/
def Cycle.step? (c : Cycle) : Option PlanStep := c.plan.bind fun p => p.steps[c.nextStep]?

/-- The open group of a cycle, on the roll of its back. -/
def cycleGroup (s : State) (c : Cycle) : Option Group :=
  (s.back c.back).roll.bind fun r => c.groupFirst.bind fun f => r.group? f

/-- The frames of the cycle's group. -/
def cycleFrames (s : State) (c : Cycle) : List Frame :=
  match (s.back c.back).roll, c.groupFirst with
  | some r, some f => r.framesOf f
  | _, _ => []

/-- The frame record of a step (R89, R90). -/
def stepFrame (c : Cycle) (p : PlanStep) (kind : FrameKind) (amount account : Option Nat) (r : Roll) : Frame :=
  { number := r.next, kind := kind, group := c.groupFirst.getD r.next, step := p.j, code := p.code, nd := p.nd,
    ticks := p.ticks, dense := p.dense, shortClamp := p.shortClamp, longClamp := p.longClamp, amount := amount,
    account := account, credited := false, selection := .unselected, label := none }

/-- Before the sequencer waits to expose a step it asks for ND SET when the slider is not known to stand there (R81, R120). -/
def askStepNd (s : State) : State :=
  match s.stand.cycle.bind Cycle.step? with
  | none => s
  | some p => if s.head.nd = some p.nd then s else askNd p.nd true s

/-- The group record a cycle opens (R88, R90). -/
def groupOf (c : Cycle) (first : Nat) (centre : Int) : Group :=
  { order := c.order, slide := c.slide, cat := c.cat, attempt := c.attempt, first := first, n := c.n, spacing := c.spacing,
    s := centre, source := c.profile.source, pUsed := c.profile.p, exposed := 0, completeness := .opened,
    outcome := .unselected }

/-- The plan is computed and, in the same event, the group opens and the first step is waited for (R90, R119). -/
def takePlan (c : Cycle) (d : Nat) (dense : Bool) (s : State) : State :=
  match (s.back c.back).roll with
  | none => s
  | some r =>
    let plan := computePlan (s.stock c.stock) c d dense
    askStepNd
      (onCycle (fun c => { c with plan := some plan, groupFirst := some r.next, nextStep := 0, phase := .exposing })
        (s.onBackRoll c.back fun r => r.openGroup (groupOf c r.next plan.s)))

/-- Once the gate HOLDS the cycle's original and the lamp is READY: the plan from a fixed density, or METER, which waits for
one in flight that belongs to no cycle (R119, R80). -/
def tryPlan (s : State) : State :=
  match s.stand.cycle with
  | none => s
  | some c =>
    if c.phase = .loading ∧ c.cause = none ∧ gateHolds s c ∧ s.head.lamp = .ready then
      match c.profile.fixed with
      | some d => takePlan c d false s
      | none =>
        if s.head.meter.isNone then
          onCycle (fun c => { c with phase := .metering })
            (s.onHead fun h => { h with meter := some { cat := c.cat, stale := false, ofCycle := true } })
        else s
    else s

/-! ## Ends of a cycle -/

/-- SLIDE FINISHED for the cycle as it stands (R128); of a cycle that opened no group it says INCOMPLETE (assumption log entry
39). -/
def slideFinishedNotice (s : State) (c : Cycle) : Notice :=
  .slideFinished c.order c.slide c.cat c.attempt c.back (((s.back c.back).roll.map fun r => r.id).getD 0) c.groupFirst c.cause
    (match cycleGroup s c with | some g => decide (g.completeness = .complete) | none => false)
    (match cycleGroup s c with | some g => g.exposed | none => 0)
    ((cycleFrames s c).countP fun f => f.kind = .spoilt)
    ((cycleFrames s c).countP fun f => f.credited)

/-- A FILLING order returns to its former state at cycle end, from PENDING by the return rule (R7, R17). -/
def returnFilling (o : Order) (s : State) : State :=
  match o.former with
  | some .preempted => setOrderState o.number .preempted none s
  | some .active => setOrderState o.number .active none s
  | _ => setOrderState o.number (returnState o) none s

/-- Steps 2 and 3 of R17: a pending cancel or hold takes effect, else a FILLING order returns. -/
def takeMarks (number : Nat) (s : State) : State :=
  match s.order? number with
  | none => s
  | some o =>
    if o.cancelPending then cancelEffect number s
    else if o.holdPending then holdWith number .host (s.onOrder number fun o => { o with holdPending := false })
    else if o.state = .filling then returnFilling o s
    else s

/-- The work list takes the report of a cycle's end: with the group COMPLETE the slide becomes SHOT and its attempts rise
(R17, R18). -/
def takeReport (c : Cycle) (complete : Bool) (s : State) : State :=
  takeMarks c.order
    (if complete then
      onSlide c.order c.slide (fun x => { x with outcome := .shot, attempts := x.attempts + 1 }) s
    else s)

/-- The stand after a cycle has ended: STOPPING becomes STOPPED with the lamp off, RUNNING starts the idle timer (R122, R126). -/
def standAfterCycle (s : State) : State :=
  match s.stand.mode with
  | .stopping => lampOff (setStandMode .stopped s)
  | .running => startIdle s
  | _ => s

/-- When a cycle ends, its position stops being busy for it, unless the cycle's own FEED is still in flight: then the position
stays busy until that FEED ends (R67). -/
def freePosition (c : Cycle) (s : State) : State :=
  match s.feeder.op with
  | some { job := .feed p _, ofCycle := true, .. } =>
    if p = c.pos then s else s.onFeeder fun f => { f with feedBusy := f.feedBusy.erase c.pos }
  | _ => s.onFeeder fun f => { f with feedBusy := f.feedBusy.erase c.pos }

/-- The cycle ends: SLIDE FINISHED, the record freed, the work list's report, the stand (R122, R126). The choice runs at the
end of the event. -/
def endCycle (s : State) : State :=
  match s.stand.cycle with
  | none => s
  | some c =>
    standAfterCycle
      (takeReport c (match cycleGroup s c with | some g => decide (g.completeness = .complete) | none => false)
        (freePosition c ((queueNotice (slideFinishedNotice s c) s).onStand fun t => { t with cycle := none })))

/-- The abort with this cause may ask for a RETURN: that of a tray removal starts none (R70, R126). -/
def AbortCause.mayReturn (cause : AbortCause) : Bool := decide (cause ≠ .halt .trayOut)

/-- An aborted cycle ends once no FEED or RETURN of it is in flight and none is to be asked for; a RETURN is asked for when
the abort allows one, the gate holds its original and the feeder is usable (R70, R126). A cycle already ENDING by another cause
when the tray is taken out keeps that cause and its RETURN (assumption log entry 36). -/
def tryEndAborted (s : State) : State :=
  match s.stand.cycle with
  | none => s
  | some c =>
    match c.cause with
    | none => s
    | some .reset => endCycle s
    | some cause =>
      if feederOfCycle s then s
      else if cause.mayReturn && gateHolds s c && feederUsable s then askReturn (returnPos s c) s
      else endCycle s

/-- The final ADVANCE of the cycle is in flight or waiting. -/
def advanceOfCycle (s : State) (b : BackId) : Bool :=
  (match (s.back b).advance with | some a => a.ofCycle | none => false) || (s.back b).waiting.any fun w => w.ofCycle

/-- The cycle ends normally when, after the last exposure, the final ADVANCE and the RETURN have both ended (R122). -/
def tryEndNormal (s : State) : State :=
  match s.stand.cycle with
  | none => s
  | some c =>
    if c.cause = none ∧ c.phase = .finishing ∧ advanceOfCycle s c.back = false ∧ feederOfCycle s = false then endCycle s
    else s

/-! ## The abort -/

/-- Operations of the cycle that have not yet started are withdrawn, and those in flight on the turret, the slider, the meter
and the film belong to no cycle from now on (R124, step 1). -/
def releaseOps (s : State) : State :=
  let s1 := s.onFeeder fun f => { f with waiting := f.waiting.filter fun w => !w.ofCycle }
  let s2 := s1.onHead fun h =>
    { h with ndWaiting := h.ndWaiting.filter (fun w => !w.ofCycle),
             ndOp := h.ndOp.map (fun o => { o with ofCycle := false }),
             meter := h.meter.map (fun o => { o with ofCycle := false }) }
  let s3 := s2.onFilm fun m =>
    { m with swapWaiting := m.swapWaiting.filter (fun w => !w.ofCycle),
             swap := m.swap.map (fun o => { o with ofCycle := false }) }
  let disown : Back → Back := fun k =>
    { k with waiting := k.waiting.filter (fun w => !w.ofCycle), advance := k.advance.map (fun a => { a with ofCycle := false }) }
  (s3.onBack .backA disown).onBack .backB disown

/-- An EXPOSE in flight at the abort: the shutter is driven closed, a SPOILT frame is written, and the spent-frame advance is
started or owed (R90, R98, R124, step 2). -/
def spoilFrame (c : Cycle) (s : State) : State :=
  if s.stand.expose.isSome then
    match c.step? with
    | none => s.onStand fun t => { t with expose := none }
    | some p =>
      spentAdvance c.back
        (writeFrame c.back (stepFrame c p .spoilt none none) (s.onStand fun t => { t with expose := none }))
  else s

/-- The group of an aborted cycle is settled by the frames it has (R125). -/
def settleGroup (c : Cycle) (s : State) : State :=
  match cycleGroup s c with
  | none => s
  | some g =>
    if g.exposed < g.n then
      creditFrames c.stock (cycleFrames s c)
        (s.onBackRoll c.back fun r =>
          ((r.discardGroup g.first .discarded).onGroup g.first fun g => { g with completeness := .incomplete }).onFramesOf
            g.first Frame.markCredited)
    else s

/-- The stand takes the state the abort gives it; none leaves it as it was (R123). -/
def setModeIf (m : Option StandMode) (s : State) : State :=
  match m with
  | some m => setStandMode m s
  | none => s

/-- The abort event (R124): a cycle already aborted keeps its cause and nothing further is aborted. -/
def abortCycle (cause : AbortCause) (mode : Option StandMode) (s : State) : State :=
  match s.stand.cycle with
  | none => setModeIf mode s
  | some c =>
    if c.cause.isSome then setModeIf mode s
    else
      setModeIf mode
        (settleGroup c (spoilFrame c (releaseOps (onCycle (fun c => { c with cause := some cause, phase := .ending }) s))))

/-- The abort and, where nothing is to be waited for, the end of the aborted cycle (R123 to R126). -/
def abort (cause : AbortCause) (mode : Option StandMode) (s : State) : State := tryEndAborted (abortCycle cause mode s)

/-- A halt report (R113): that of an operation started before the latest RESET STAND halts nothing. -/
def haltReport (reason : HaltReason) (stale : Bool) (s : State) : State :=
  if stale then s
  else
    match s.stand.mode with
    | .running => abort (.halt reason) (some (.halted reason)) s
    | .stopping => abort (.halt reason) (some (.halted reason)) s
    | .stopped => s
    | .halted _ => s

/-- The cycle's back has failed: before the last exposure completion the cycle is aborted, after it the final ADVANCE has
ended (R96, R97, R122, R123). -/
def backFailed (b : BackId) (cause : AbortCause) (s : State) : State :=
  match s.stand.cycle with
  | none => s
  | some c =>
    if c.back = b ∧ c.cause = none then
      if c.phase = .finishing then tryEndNormal s else abort cause none s
    else s

/-! ## Feeder events -/

/-- The gate record a feeder timeout leaves, by the gate-loaded sense (R76). -/
def gateAfterTimeout (sense : Bool) : Gate := if sense then .foreign else .empty

/-- A feeder operation ends by timeout (R76): position UNKNOWN, no position busy, the gate by its sense, FEED_TIMEOUT. The
halt report comes before the end of a cycle already ENDING (assumption log entry 37). -/
def feederFail (stale : Bool) (s : State) : State :=
  tryEndAborted
    (haltReport .feedTimeout stale
      (s.onFeeder fun f =>
        { f with op := none, pos := none, gate := gateAfterTimeout f.gateSense, feedBusy := [] }))

/-- A feeder operation comes to start: a FEED with the gate not EMPTY ends at once as by timeout (R74). -/
def startJob (job : FeederJob) (ofCycle : Bool) (s : State) : State :=
  match job with
  | .feed _ _ => if s.feeder.gate = .empty then beginJob job ofCycle s else feederFail false s
  | .home => beginJob job ofCycle s
  | .ret _ => beginJob job ofCycle s

/-- HOME or FEED is asked for (R72). -/
def askJob (job : FeederJob) (ofCycle : Bool) (s : State) : State :=
  if feederIdle s then startJob job ofCycle s else waitJob job ofCycle s

/-- A waiting feeder operation starts when none is in flight (R72). -/
def startWaitingJob (s : State) : State :=
  match s.feeder.op, s.feeder.waiting with
  | none, w :: ws => startJob w.job w.ofCycle (s.onFeeder fun f => { f with waiting := ws })
  | _, _ => s

/-- The gate-loaded sense comes on: the completion of a FEED in flight, or else something in the gate the part does not
vouch for (R71, R74, R83). -/
def gateLoadedEvent (s : State) : State :=
  match s.feeder.op with
  | some { job := .feed p x, stale := stale, .. } =>
    if stale then
      s.onFeeder fun f =>
        { f with gateSense := true, op := none, pos := none, gate := .foreign, feedBusy := f.feedBusy.erase p }
    else
      tryEndAborted
        (tryPlan
          (s.onFeeder fun f =>
            { f with gateSense := true, op := none, pos := some p, gate := .holds p x, feedBusy := f.feedBusy.erase p }))
  | _ => s.onFeeder fun f => { f with gateSense := true, gate := .foreign }

/-- The gate-loaded sense goes off: the completion of a RETURN in flight; or else the gate is EMPTY, and a HOLDS record's
original is lost from its position and, with a cycle in flight, halts the stand (R71, R75). -/
def gateClearedEvent (s : State) : State :=
  match s.feeder.op with
  | some { job := .ret _, .. } =>
    tryEndAborted (tryEndNormal (s.onFeeder fun f => { f with gateSense := false, op := none, gate := .empty }))
  | _ =>
    match s.feeder.gate with
    | .holds p _ =>
      let s' := s.onFeeder fun f =>
        { f with gateSense := false, gate := .empty, map := f.map.setIfInBounds p none }
      if s.stand.cycle.isSome then tryEndAborted (haltReport .trayOut false s') else s'
    | _ => s.onFeeder fun f => { f with gateSense := false, gate := .empty }

/-- The home sense: HOME completes, or a FEED's homing ends and its feed movement goes on; the position is 0 (R73, R74). -/
def homeSenseEvent (s : State) : State :=
  match s.feeder.op with
  | some { job := .home, .. } => s.onFeeder fun f => { f with op := none, pos := some 0 }
  | some o =>
    if o.homing then s.onFeeder fun f => { f with op := some { o with homing := false }, pos := some 0 } else s
  | none => s

/-- A feeder operation in flight ends by timeout (R76). -/
def feederTimeoutEvent (s : State) : State :=
  match s.feeder.op with
  | none => s
  | some o => feederFail o.stale s

/-- A cycle a tray removal halts: its FEED asked for or in flight, its RETURN in flight, or its gate record HOLDS (R70). -/
def cycleOnTray (s : State) : Bool :=
  s.stand.cycle.isSome
    && (feederOfCycle s
        || (match s.feeder.gate with
            | .holds _ _ => true
            | _ => false))

/-- TRAY OUT (R70). -/
def trayOutEvent (s : State) : State :=
  let s' := s.onFeeder fun f => { f with present := false, map := Vector.replicate 80 none, pos := none }
  if cycleOnTray s then tryEndAborted (haltReport .trayOut false s') else s'

/-- TRAY IN (R70). -/
def trayInEvent (s : State) : State := s.onFeeder fun f => { f with present := true }

/-! ## Light head events -/

/-- The lamp fails: switched off, FAILED, LAMP_FAIL reported (R78). -/
def lampFail (s : State) : State :=
  haltReport .lampFail false (s.onHead fun h => { h with lamp := .failed })

/-- The loss of the lamp-current sense: a failure while the lamp is WARMING or READY, nothing while OFF or FAILED (R78). -/
def lampFailureEvent (s : State) : State :=
  if s.head.lamp = .warming ∨ s.head.lamp = .ready then lampFail s else s

/-- The idle timer expires: the lamp is switched off from WARMING or READY (R79). -/
def idleExpiryEvent (s : State) : State := if s.head.idle.isSome then stopIdle (lampOff s) else s

/-- The end of the warm-up: READY or FAILED by the lamp-current sense, and a waiting cycle goes on (R77). -/
def warmUpEvent (sense : Bool) (s : State) : State :=
  if s.head.lamp = .warming then
    if sense then tryPlan (s.onHead fun h => { h with lamp := .ready }) else lampFail s
  else s

/-- A reading as taken: above 400 it is 400 (R80). -/
def takenReading (x : Nat) : Nat := min Config.maxDensity x

/-- The last meter readings METER stores, with the effective density of them and the DENSE indication (R34, R80). -/
def takeReadings (cat a b c d e : Nat) : Readings :=
  { centre := takenReading a, upperLeft := takenReading b, upperRight := takenReading c, lowerLeft := takenReading d,
    lowerRight := takenReading e,
    d := effectiveDensity (takenReading a) (takenReading b) (takenReading c) (takenReading d) (takenReading e),
    dense := [a, b, c, d, e].any fun x => decide (Config.maxDensity < x), cat := cat }

/-- METER completes: the readings are stored with their density, and handed to the cycle it belongs to (R34, R80, R119). -/
def meterEvent (r : Nat → Readings) (s : State) : State :=
  match s.head.meter with
  | none => s
  | some m =>
    let s' := s.onHead fun h => { h with meter := none, readings := some (r m.cat) }
    if m.ofCycle then
      match s.stand.cycle with
      | some c => takePlan c (r m.cat).d (r m.cat).dense s'
      | none => s'
    else tryPlan s'

/-- METER ends by timeout; the last meter readings are unchanged (R80). -/
def meterTimeoutEvent (s : State) : State :=
  match s.head.meter with
  | none => s
  | some m => tryPlan (haltReport .meterTimeout m.stale (s.onHead fun h => { h with meter := none }))

/-- A waiting ND SET starts when none is in flight (R81). -/
def startWaitingNd (s : State) : State :=
  match s.head.ndOp, s.head.ndWaiting with
  | none, w :: ws => beginNd w.target w.ofCycle (s.onHead fun h => { h with ndWaiting := ws })
  | _, _ => s

/-- ND SET completes at the asked position (R81). -/
def ndCompleteEvent (s : State) : State :=
  match s.head.ndOp with
  | none => s
  | some o => s.onHead fun h => { h with nd := some o.target, ndOp := none }

/-- ND SET ends by timeout (R81). -/
def ndTimeoutEvent (s : State) : State :=
  match s.head.ndOp with
  | none => s
  | some o => haltReport .ndTimeout o.stale (s.onHead fun h => { h with nd := none, ndOp := none })

/-! ## Film events -/

/-- A waiting ADVANCE of a back starts when none of it is in flight; an owed spent-frame advance goes first (R94, R95). -/
def startWaitingAdvance (b : BackId) (s : State) : State :=
  if (s.back b).advance.isSome then s
  else if (s.back b).owed then startOwed b s
  else
    match (s.back b).waiting with
    | w :: ws => startAdvance b w.cause w.ofCycle (s.onBack b fun k => { k with waiting := ws })
    | [] => s

/-- A leader ADVANCE has completed: the next starts, or the back becomes READY and the FILM holds of its stock are released
(R93). -/
def leaderStep (b : BackId) (s : State) : State :=
  if 1 < (s.back b).leaderLeft then
    startAdvance b .leader false (s.onBack b fun k => { k with leaderLeft := k.leaderLeft - 1 })
  else
    let s' := setBackState b .ready (s.onBack b fun k => { k with leaderLeft := 0 })
    match (s'.back b).stock? with
    | some k => releaseFilm k s'
    | none => s'

/-- The film has moved on one frame: a READY back whose declared frames are all used is FULL (R95). -/
def fullWhenUsed (b : BackId) (s : State) : State :=
  match (s.back b).roll with
  | some r => if r.next = r.declared + 1 then setBackState b .full s else s
  | none => s

/-- The step advance of the cycle has ended by completion: the next step is waited for, or the end of the cycle (R95, R120,
R122). -/
def stepAdvanced (s : State) : State :=
  match s.stand.cycle with
  | none => s
  | some c =>
    if c.phase = .advancing then askStepNd (onCycle (fun c => { c with phase := .exposing }) s) else tryEndNormal s

/-- The eighth perforation pulse of a back (R95). -/
def advanceCompleteEvent (b : BackId) (s : State) : State :=
  match (s.back b).advance with
  | none => s
  | some a =>
    let s1 := s.onBack b fun k => { k with advance := none, gateFrame := .fresh }
    let s2 :=
      match (s.back b).state with
      | .leader => leaderStep b s1
      | .ready => fullWhenUsed b s1
      | _ => s1
    startOwed b (if a.ofCycle then stepAdvanced s2 else s2)

/-- A back that an ADVANCE can fault or end: LEADER, READY or FULL (R96, R97). -/
def Back.winds (k : Back) : Bool := decide (k.state = .leader) || decide (k.state = .ready) || decide (k.state = .full)

/-- An ADVANCE ends without its completion: the back takes the state given, and the cycle is told (R96, R97). -/
def advanceFails (b : BackId) (state : BackState) (cause : AbortCause) (s : State) : State :=
  let s1 := s.onBack b fun k => { k with advance := none, owed := false, leaderLeft := 0 }
  if (s.back b).winds then backFailed b cause (setBackState b state s1) else s1

/-- An ADVANCE ends by timeout (R96). -/
def advanceTimeoutEvent (b : BackId) (s : State) : State :=
  if (s.back b).advance.isSome then advanceFails b (.fault .advanceTimeout) .advanceTimeout s else s

/-- The film-end tension sense of a back during an ADVANCE (R97). -/
def filmEndEvent (b : BackId) (s : State) : State :=
  if (s.back b).advance.isSome then
    advanceFails b .ended .filmEnd (s.onBackRoll b fun r => { r with endMark := some r.next })
  else s

/-- A waiting SWAP starts once nothing it waits on is in flight (R102). -/
def startWaitingSwap (s : State) : State :=
  match s.film.swapWaiting with
  | w :: ws =>
    if swapMayStart w.target s then beginSwap w.target w.ofCycle (s.onFilm fun m => { m with swapWaiting := ws }) else s
  | [] => s

/-- SWAP completes (R102). -/
def swapCompleteEvent (s : State) : State :=
  match s.film.swap with
  | none => s
  | some o => s.onFilm fun m => { m with turret := .stands o.target, swap := none }

/-- SWAP ends by timeout (R103). -/
def swapTimeoutEvent (s : State) : State :=
  match s.film.swap with
  | none => s
  | some o => haltReport .swapTimeout o.stale (s.onFilm fun m => { m with turret := .unknown, swap := none })

/-- REWIND completes (R105). -/
def rewindCompleteEvent (b : BackId) (s : State) : State :=
  if (s.back b).state = .rewinding then setBackState b .rewound s else s

/-- REWIND ends by timeout (R105). -/
def rewindTimeoutEvent (b : BackId) (s : State) : State :=
  if (s.back b).state = .rewinding then setBackState b (.fault .rewindTimeout) s else s

/-! ## Shutter events -/

/-- Every condition of R120 for the exposure of the next step holds. -/
def mayExpose (s : State) (c : Cycle) (p : PlanStep) : Bool :=
  decide (c.phase = .exposing) && decide (c.cause = none) && s.stand.expose.isNone
    && decide (s.head.nd = some p.nd) && s.head.ndOp.isNone && decide (s.head.lamp = .ready) && gateHolds s c
    && shutterMayOpen s c.back

/-- The shutter opens for the step's ticks once every condition holds (R120). -/
def exposeStartEvent (s : State) : State :=
  match s.stand.cycle with
  | none => s
  | some c =>
    match c.step? with
    | none => s
    | some p =>
      if mayExpose s c p then s.onStand fun t => { t with expose := some { ticks := p.ticks, closing := false } } else s

/-- The ticks have run: the sequencer closes the shutter (R120). -/
def ticksEndEvent (s : State) : State :=
  s.onStand fun t => { t with expose := t.expose.map fun e => { e with closing := true } }

/-- The group of the cycle with one more EXPOSURE; with n it is COMPLETE (R90). -/
def Group.oneMore (g : Group) : Group :=
  { g with exposed := g.exposed + 1, completeness := if g.exposed + 1 = g.n then .complete else g.completeness }

/-- An exposure completes (R121): the FRAME posting, the frame record, then the step advance and, after the last step, the
RETURN with it. -/
def exposeDone (c : Cycle) (p : PlanStep) (s : State) : State :=
  let amount := frameAmount s c.stock c.cls
  let s1 := post .frame c.account (some c.stock) amount s
  let s2 := writeFrame c.back (stepFrame c p .exposure (some amount) (some c.account)) s1
  let s3 := (s2.onBackRoll c.back fun r => r.onGroup (c.groupFirst.getD 0) Group.oneMore).onStand fun t => { t with expose := none }
  let s4 := askAdvance c.back .step true s3
  if c.nextStep + 1 < (c.plan.map fun p => p.steps.length).getD 0 then
    onCycle (fun c => { c with nextStep := c.nextStep + 1, phase := .advancing }) s4
  else
    onCycle (fun c => { c with nextStep := c.nextStep + 1, phase := .finishing }) (askReturn (returnPos s4 c) s4)

/-- The shutter fails: SHUTTER_FAULT as a halt report (R121). -/
def shutterFail (s : State) : State := haltReport .shutterFault false s

/-- The shutter-closed sense: the completion of the EXPOSE after the close command, SHUTTER_FAULT before it, and nothing with
no EXPOSE in flight (R121). -/
def shutterClosedEvent (s : State) : State :=
  match s.stand.expose with
  | none => s
  | some e =>
    if e.closing then
      match s.stand.cycle with
      | none => s.onStand fun t => { t with expose := none }
      | some c =>
        match c.step? with
        | none => s.onStand fun t => { t with expose := none }
        | some p => exposeDone c p s
    else shutterFail s

/-- No shutter-closed sense within the ticks plus 200 ms (R121). -/
def exposeTimeoutEvent (s : State) : State := if s.stand.expose.isSome then shutterFail s else s

end Sys2Proof.Machine
end

