-- ==== Sys2Proof/Machine/Choice.lean ====
section
/-! DEFINITION. The work list's choice of the next slide and the start of its cycle (01_orders_and_the_work_list, section 1.5,
R118), and the end of every event: the choice where R10 has it run, then the STAND CHANGED of R110. -/

namespace Sys2Proof.Machine

/-! ## The steps of the choice -/

/-- Step 1 of R11: while the stack top has nothing due it is popped and becomes EXPOSED, the order below ACTIVE. -/
def popDone : Nat → State → State
  | 0, s => s
  | n + 1, s =>
    match s.work.stack with
    | [] => s
    | top :: _ =>
      match s.order? top with
      | none => s
      | some o => if nextSlide o = none then popDone n (removeFromStack top (setOrderState top .exposed none s)) else s

/-- The class of the stack top, 0 with the stack empty. -/
def topClass (s : State) : Nat := ((s.work.stack.head?.bind s.order?).map fun o => o.cls).getD 0

/-- The current priority: the larger of the floor and the class of the stack top (R8). -/
def currentPriority (s : State) : Nat := max s.work.floor (topClass s)

/-- Of orders listed oldest placement first, the one of highest class, the oldest among equals. -/
def highestOf : List Order → Option Order
  | [] => none
  | o :: os =>
    match highestOf os with
    | some p => if o.cls < p.cls then some p else some o
    | none => some o

/-- Candidate C of R11, step 2. -/
def candidate (s : State) : Option Order := highestOf (s.work.orders.filter fun o => o.state = .pending)

/-- The former stack top becomes PREEMPTED (R11, step 2). -/
def preempt (number : Nat) (s : State) : State :=
  match s.order? number with
  | none => s
  | some o =>
    if o.state = .filling then s.onOrder number fun o => { o with former := some .preempted }
    else setOrderState number .preempted none s

/-- An order is pushed and becomes ACTIVE, and the former top PREEMPTED (R11, step 2). -/
def push (number : Nat) (s : State) : State :=
  let s1 := setOrderState number .active none (s.onWork fun w => { w with stack := number :: w.stack })
  match s.work.stack with
  | [] => s1
  | top :: _ => preempt top s1

/-- Step 2 of R11. -/
def pushCandidate (s : State) : State :=
  match candidate s with
  | none => s
  | some c => if currentPriority s < c.cls ∧ s.work.stack.length < Config.maxStack then push c.number s else s

/-- The tray position a catalogue number stands at. -/
def trayPos? (s : State) (x : Nat) : Option Nat := s.feeder.map.toList.findIdx? fun e => e = some x

/-- The tests a fill candidate must meet (R14). -/
def fillEligible (s : State) (stock : Nat) (o : Order) : Bool :=
  o.stock == stock && (decide (o.state = .pending) || decide (o.state = .preempted)) && decide (s.work.floor < o.cls)
    && ((nextCat o).bind (trayPos? s)).isSome && (findBack s o.stock o.n).isSome
    && (ceilingCheck s o.account o.stock o.cls o.n).isNone

/-- The fill candidate of R14. -/
def fillCandidate (s : State) (stock : Nat) : Option Order := highestOf (s.work.orders.filter (fillEligible s stock))

/-- The former state a fill candidate keeps (R1, R14). -/
def formerOf (o : Order) : FormerState := if o.state = .preempted then .preempted else .pending

/-! ## Slide start -/

/-- The cycle record of a slide handed over (R16, R117, R118). -/
def cycleOf (o : Order) (index : Nat) (x : Slide) (back : BackId) (pos : Nat) (profile : ProfileResult) : Cycle :=
  { order := o.number, slide := index, cat := x.cat, attempt := x.attempts + 1, back := back, stock := o.stock, n := o.n,
    spacing := o.spacing, offset := o.offset, magn := o.magn, account := o.account, cls := o.cls,
    adjust := x.adjust.getD 0, shift := x.shift, pos := pos, profile := profile, plan := none, groupFirst := none,
    nextStep := 0, phase := .loading, cause := none }

/-- Steps 1 to 3 of R118: the cycle record made, the profile looked up and marked, the idle timer stopped. -/
def makeCycle (c : Cycle) (s : State) : State :=
  let s1 := (s.onStand fun t => { t with cycle := some c }).onProfiles fun t => t.mark c.profile.source
  stopIdle (s1.onFeeder fun f => { f with feedBusy := f.feedBusy ++ [c.pos] })

/-- Steps 5 and 6 of R118, for a cycle its FEED has not aborted: the SWAP and the lamp. -/
def askTurretAndLamp (back : BackId) (s : State) : State :=
  match s.stand.cycle with
  | none => s
  | some c =>
    if c.cause.isSome then s
    else lampLight (if s.film.turret = .stands back then s else askSwap back true s)

/-- A slide is started on a back (R16, R118). -/
def startSlide (o : Order) (back : BackId) (s : State) : State :=
  match nextSlide o with
  | none => s
  | some i =>
    match o.slides[i]? with
    | none => s
    | some x =>
      let pos := (trayPos? s x.cat).getD 0
      let c := cycleOf o i x back pos (s.profiles.lookup x.cat)
      askTurretAndLamp back (askJob (.feed pos x.cat) true (makeCycle c s))

/-! ## The choice -/

/-- What step 4 of R11 does with the stack top. -/
inductive TopTest where
  | hold (reason : HoldReason)
  | start (o : Order) (back : BackId)
  | fill (o : Order) (back : BackId)
  | close (back : BackId)
  | stuck
deriving DecidableEq, Repr

/-- The fit of the top has failed: a fill candidate, or a back to make FULL (R14, R15). -/
def fitFails (s : State) (stock : Nat) : TopTest :=
  match (if s.stand.settings.fill then fillCandidate s stock else none) with
  | some o =>
    match findBack s o.stock o.n with
    | some b => .fill o b
    | none => .stuck
  | none =>
    match backToClose s stock with
    | some b => .close b
    | none => .stuck

/-- The test of the top's next slide, in the order original, film, fit, ceiling (R12, R13). -/
def testTop (s : State) (o : Order) : TopTest :=
  if ((nextCat o).bind (trayPos? s)).isNone then .hold .original
  else if !filmTest s o.stock then .hold .film
  else
    match findBack s o.stock o.n with
    | none => fitFails s o.stock
    | some b =>
      match ceilingCheck s o.account o.stock o.cls o.n with
      | some k => .hold (.ceiling k)
      | none => .start o b

/-- The choice of R11, with room for `n` repetitions. -/
def choiceLoop : Nat → State → State
  | 0, s => s
  | n + 1, s =>
    let s1 := pushCandidate (popDone s.work.stack.length s)
    match s1.work.stack.head?.bind s1.order? with
    | none => s1
    | some o =>
      match testTop s1 o with
      | .hold reason => choiceLoop n (holdWith o.number reason s1)
      | .start o b => startSlide o b s1
      | .fill c b => startSlide c b (setOrderState c.number .filling (some (formerOf c)) s1)
      | .close b => choiceLoop n (makeFull b s1)
      | .stuck => s1

/-- The choice may run: the stand RUNNING and no cycle in flight (R10). -/
def choiceAllowed (s : State) : Bool := decide (s.stand.mode = .running) && s.stand.cycle.isNone

/-- The choice, where it may run. Each repetition holds one order or makes one of two backs FULL, so there are never more
than this many (R11). -/
def runChoice (s : State) : State := if choiceAllowed s then choiceLoop (s.work.orders.length + 3) s else s

/-! ## The end of an event -/

/-- An order left a state between two states of the part: released, finished, or PENDING again from EXPOSED (R10). -/
def orderMoved (after : State) (o : Order) : Bool :=
  match after.work.orders.find? fun p => p.number == o.number && p.seq == o.seq with
  | none => true
  | some p => (o.state.isHeld && !p.state.isHeld) || (decide (o.state = .exposed) && decide (p.state = .pending))

/-- A back has become READY. -/
def becameReady (before after : Back) : Bool := decide (before.state ≠ .ready) && decide (after.state = .ready)

/-- The events of R10 that are read off what an event changed: RUNNING entered, a cycle ended, an order moved, a back
become READY, the FILL setting changed. -/
def choiceTriggered (before after : State) : Bool :=
  (decide (before.stand.mode ≠ .running) && decide (after.stand.mode = .running))
    || (before.stand.cycle.isSome && after.stand.cycle.isNone)
    || before.work.orders.any (orderMoved after)
    || becameReady before.film.backA after.film.backA || becameReady before.film.backB after.film.backB
    || before.stand.settings.fill != after.stand.settings.fill

/-- STAND CHANGED with the stand as it stands (R70, R110). -/
def standNotice (s : State) : Notice := .standChanged s.stand.mode s.head.lamp s.feeder.present

/-- One STAND CHANGED for an event that changed the stand state, halt reason, lamp state or tray-present state (R110). -/
def standEnd (before s : State) : State :=
  if before.stand.mode = s.stand.mode ∧ before.head.lamp = s.head.lamp ∧ before.feeder.present = s.feeder.present then s
  else queueNotice (standNotice s) s

/-- The end of an event that began in `before`: the choice when the event is one of R10 (`asked` for the requests R10 names),
then STAND CHANGED. -/
def eventEnd (asked : Bool) (before s : State) : State :=
  standEnd before (if asked || choiceTriggered before s then runChoice s else s)

/-- The end of an event that reaches the label unit: the send of R155 for an IDLE line, the choice and STAND CHANGED, then
PRINTER CHANGED (R137, R154). -/
def labelEventEnd (before s : State) : State := printerEnd before (eventEnd false before (sendIfIdle s))

end Sys2Proof.Machine
end

