-- ==== Sys2Proof/Machine/Messages.lean ====
section
/-! DEFINITION. What the fields of acceptances and notices are written as: enumerations numbered in the order their rule lists
them, optional fields, the bodies of the notices and of FRAME REJECTED (R193, R198). The layouts the rules leave to R193 are
gathered in assumption log entry 13. -/

namespace Sys2Proof.Machine

/-! ## Forms of fields -/

/-- A yes-or-no field (R193). -/
def yesNo (b : Bool) : Field := .u 1 (if b then 1 else 0)

/-- An optional field: a presence byte, then the field's own when present (R193). -/
def optFields {α : Type} (f : α → List Field) : Option α → List Field
  | none => [.u 1 0]
  | some x => .u 1 1 :: f x

/-- A list: a count byte, then the entries (R193). -/
def listFields {α : Type} (f : α → List Field) (l : List α) : List Field := .u 1 l.length :: l.flatMap f

/-- A field of `n` bytes where the value may be absent. -/
def optU (n : Nat) (x : Option Nat) : List Field := optFields (fun v => [.u n v]) x

/-! ## Enumerations -/

/-- Hold reasons (R1). -/
def HoldReason.fields : HoldReason → List Field
  | .host => [.u 1 0]
  | .original => [.u 1 1]
  | .film => [.u 1 2]
  | .ceiling k => [.u 1 3, .u 1 k]

/-- Order states (R5), HELD with its reason. -/
def OrderState.fields : OrderState → List Field
  | .pending => [.u 1 0]
  | .active => [.u 1 1]
  | .preempted => [.u 1 2]
  | .filling => [.u 1 3]
  | .held r => .u 1 4 :: r.fields
  | .exposed => [.u 1 5]

/-- Former states (R1). -/
def FormerState.number : FormerState → Nat
  | .pending => 0
  | .preempted => 1
  | .active => 2

/-- Slide outcomes (R2). -/
def SlideOutcome.number : SlideOutcome → Nat
  | .notShot => 0
  | .shot => 1
  | .kept => 2
  | .reshootDue => 3
  | .rejected => 4

/-- Modes of an original entry (R48). -/
def ProfileMode.number : ProfileMode → Nat
  | .learned => 0
  | .manual => 1
  | .noLearn => 2

/-- Last outcome steps (R48). -/
def LastStep.fields : LastStep → List Field
  | .kept j => [.u 1 0, .i 1 j]
  | .under => [.u 1 1]
  | .over => [.u 1 2]

/-- Profile sources (R50). -/
def ProfileSource.fields : ProfileSource → List Field
  | .original k => [.u 1 0, .u 1 k]
  | .range k => [.u 1 1, .u 1 k]
  | .miss => [.u 1 2]

/-- Learning results (R58). -/
def LearnResult.fields : LearnResult → List Field
  | .updated k => [.u 1 0, .u 1 k]
  | .inserted k d => .u 1 1 :: .u 1 k :: optU 3 d
  | .unchanged => [.u 1 2]
  | .dropped => [.u 1 3]

/-- Gate records (R67). -/
def Gate.fields : Gate → List Field
  | .empty => [.u 1 0]
  | .holds p x => [.u 1 1, .u 1 p, .u 3 x]
  | .foreign => [.u 1 2]

/-- Lamp states (section 4.5). -/
def Lamp.number : Lamp → Nat
  | .off => 0
  | .warming => 1
  | .ready => 2
  | .failed => 3

/-- Tray-present state: PRESENT, ABSENT (R67). -/
def presentField (present : Bool) : Field := .u 1 (if present then 0 else 1)

/-- Backs A and B. -/
def backNumber : BackId → Nat
  | .backA => 0
  | .backB => 1

/-- Back states (R84), FAULT with its reason. -/
def BackState.fields : BackState → List Field
  | .empty => [.u 1 0]
  | .leader => [.u 1 1]
  | .ready => [.u 1 2]
  | .full => [.u 1 3]
  | .ended => [.u 1 4]
  | .rewinding => [.u 1 5]
  | .rewound => [.u 1 6]
  | .fault .advanceTimeout => [.u 1 7, .u 1 0]
  | .fault .rewindTimeout => [.u 1 7, .u 1 1]

/-- Gate frames (R84). -/
def GateFrame.number : GateFrame → Nat
  | .fresh => 0
  | .spent => 1

/-- Advance in flight: LEADER, STEP, SPENT or none (R84). -/
def advanceNumber : Option AdvanceOp → Nat
  | some a =>
    match a.cause with
    | .leader => 0
    | .step => 1
    | .spent => 2
  | none => 3

/-- Turret positions (R102). -/
def Turret.fields : Turret → List Field
  | .stands b => [.u 1 (backNumber b)]
  | .turning b => [.u 1 2, .u 1 (backNumber b)]
  | .unknown => [.u 1 3]

/-- Completeness of a group (R88). -/
def Completeness.number : Completeness → Nat
  | .opened => 0
  | .complete => 1
  | .incomplete => 2

/-- Outcomes of a group (R88), KEPT with its step. -/
def GroupOutcome.fields : GroupOutcome → List Field
  | .unselected => [.u 1 0]
  | .kept j => [.u 1 1, .i 1 j]
  | .rejectUnder => [.u 1 2]
  | .rejectOver => [.u 1 3]
  | .reject => [.u 1 4]
  | .discarded => [.u 1 5]

/-- Unload kinds (R86). -/
def UnloadKind.number : UnloadKind → Nat
  | .rewound => 0
  | .cleared => 1

/-- Halt reasons (section 6.1). -/
def HaltReason.number : HaltReason → Nat
  | .feedTimeout => 0
  | .trayOut => 1
  | .lampFail => 2
  | .meterTimeout => 3
  | .ndTimeout => 4
  | .swapTimeout => 5
  | .shutterFault => 6

/-- Stand states (section 6.1), HALTED with its reason. -/
def StandMode.fields : StandMode → List Field
  | .stopped => [.u 1 0]
  | .running => [.u 1 1]
  | .stopping => [.u 1 2]
  | .halted r => [.u 1 3, .u 1 r.number]

/-- Abort causes, in the order of the table of R123. -/
def AbortCause.number : AbortCause → Nat
  | .abortSlide => 0
  | .reset => 1
  | .halt r => 2 + r.number
  | .advanceTimeout => 9
  | .filmEnd => 10

/-- Label states (R149). -/
def LabelState.number : LabelState → Nat
  | .waiting => 0
  | .queued => 1
  | .printed => 2
  | .failed => 3

/-- Line states (R152), STOPPED with its reason. -/
def LineState.fields : LineState → List Field
  | .idle => [.u 1 0]
  | .awaiting => [.u 1 1]
  | .paused => [.u 1 2]
  | .stopped .jammed => [.u 1 3, .u 1 0]
  | .stopped .outOfLabels => [.u 1 3, .u 1 1]
  | .stopped .noToken => [.u 1 3, .u 1 2]

/-- Runs (R152), COUNTED with its count. -/
def Run.fields : Run → List Field
  | .off => [.u 1 0]
  | .opened => [.u 1 1]
  | .counted n => [.u 1 2, .u 1 n]

/-- Last tokens (R152), none listed last. -/
def tokenNumber : Option Token → Nat
  | some .printed => 0
  | some .jammed => 1
  | some .outOfLabels => 2
  | some .formatError => 3
  | none => 4

/-- Kinds of posting (R171). -/
def PostKind.number : PostKind → Nat := PostKind.bit

/-- Causes of ROLL CLOSED (R140). -/
def CloseCause.number : CloseCause → Nat
  | .automatic => 0
  | .lost => 1
  | .abandon => 2

/-- Reasons of FRAME REJECTED, with the codes of the table of R190. -/
def RejectReason.number : RejectReason → Nat
  | .gap => 1
  | .check => 2
  | .kind => 3
  | .length => 4
  | .overrun => 5

/-! ## Records -/

/-- A label named by roll and frame. -/
def LabelKey.fields (k : LabelKey) : List Field := [.u 3 k.roll, .u 1 k.frame]

/-- A slide entry with every field of R2. -/
def Slide.fields (x : Slide) : List Field :=
  .u 3 x.cat :: optFields (fun t => [.text t]) x.caption ++ optFields (fun v => [.i 1 v]) x.adjust
    ++ [.i 1 x.shift, .u 1 x.attempts, .u 1 x.outcome.number]

/-- An order record with every field of R1 but the slide list; the former state is a bare byte while FILLING, and the two pending
marks are 1 for set (assumption log entry 34). -/
def Order.fields (o : Order) : List Field :=
  [.u 2 o.number, .u 4 o.seq, .u 2 o.account, .u 2 o.lecturer, .u 1 o.cls, .u 1 o.stock, .u 1 o.n, .u 1 o.spacing,
   .i 1 o.offset, .u 1 o.magn, .text o.title] ++ o.state.fields
    ++ (match o.state, o.former with
        | .filling, some f => [.u 1 f.number]
        | _, _ => [])
    ++ [yesNo o.cancelPending, yesNo o.holdPending]

/-- A stock entry with every field of R28. -/
def StockEntry.fields (e : StockEntry) : List Field :=
  [yesNo e.enabled, .text e.name, .u 1 e.eRef, .u 1 e.k, .u 1 e.filter, .u 2 e.rate]

/-- An original entry with every field of R48; an invalid slot gives the valid field alone (R62). The used mark is 1 for set
(assumption log entry 34). -/
def originalFields : Option OriginalEntry → List Field
  | none => [yesNo false]
  | some e =>
    [yesNo true, .u 3 e.cat, .u 1 e.mode.number, .i 1 e.p] ++ optU 2 e.fixed ++ [yesNo e.used, .u 1 e.uses]
      ++ optFields LastStep.fields e.last

/-- A range entry with every field of R49; an invalid slot gives the valid field alone (R62). -/
def rangeFields : Option RangeEntry → List Field
  | none => [yesNo false]
  | some r => [yesNo true, .u 3 r.base, .u 1 r.exponent, .i 1 r.p]

/-- The stand settings (R116). -/
def Settings.fields (t : Settings) : List Field :=
  [.u 2 t.feedLimit, .u 2 t.advanceLimit, .u 1 t.leaderCount, yesNo t.fill, .u 1 t.idleMinutes, .u 2 t.tokenLimit]

/-- A group record with every field of R88. -/
def Group.fields (g : Group) : List Field :=
  [.u 2 g.order, .u 1 g.slide, .u 3 g.cat, .u 1 g.attempt, .u 1 g.first, .u 1 g.n, .u 1 g.spacing, .i 2 g.s]
    ++ g.source.fields ++ [.i 1 g.pUsed, .u 1 g.exposed, .u 1 g.completeness.number] ++ g.outcome.fields

/-- The flags byte of a frame record (R196). -/
def Frame.flagsByte (f : Frame) : Nat :=
  (if f.dense then 1 else 0) + (if f.shortClamp then 2 else 0) + (if f.longClamp then 4 else 0)

/-- The number of a selection in the state byte (R196). -/
def Selection.number : Selection → Nat
  | .unselected => 0
  | .kept => 1
  | .discarded => 2

/-- The state byte of a frame record (R196). -/
def Frame.stateByte (f : Frame) : Nat :=
  (if f.kind = .spoilt then 1 else 0) + (if f.credited then 2 else 0) + 4 * f.selection.number
    + 16 * (match f.label with | none => 0 | some l => l.number + 1)

/-- A frame record in the 14 bytes of R196. -/
def Frame.fields (f : Frame) : List Field :=
  [.u 1 f.number, .u 1 f.group, .i 1 f.step, .u 1 f.code, .u 1 f.nd, .u 3 f.ticks, .u 1 f.flagsByte, .u 1 f.stateByte,
   .u 2 (f.amount.getD 0), .u 2 (f.account.getD 0)]

/-- A tally counter with every field of R173; the byte of the level-crossed mark is the model's choice (assumption log entry 34). -/
def Counter.fields (c : Counter) : List Field :=
  [yesNo c.enabled, .u 1 c.kinds.toNat, .u 2 c.acctMatch.toNat, .u 2 c.acctMask.toNat, .u 1 c.stocks.toNat, .u 4 c.total]
    ++ optU 4 c.ceiling ++ optU 4 c.level ++ [.u 4 c.note, yesNo c.crossed, yesNo c.locked]

/-- The three rates (R169). -/
def Tally.rateFields (t : Tally) : List Field := [.u 2 t.mountRate, .u 1 t.rushClass, .u 2 t.surcharge]

/-- A label record with every field of R148. -/
def LabelRecord.fields (r : LabelRecord) : List Field :=
  r.key.fields ++ [.u 3 r.cat, .text r.caption, .text r.course, .u 2 r.lecturer, .u 2 r.account, .u 2 r.date, .u 1 r.stock]

/-! ## Notices -/

/-- The kind code of a notice (section 10.8). -/
def Notice.kind : Notice → Nat
  | .standReady _ => 0xC0
  | .orderChanged _ _ => 0xC1
  | .orderCancelled _ => 0xC2
  | .orderCompleted _ _ _ => 0xC2
  | .slideFinished _ _ _ _ _ _ _ _ _ _ _ _ => 0xC3
  | .backChanged _ _ _ => 0xC4
  | .standChanged _ _ _ => 0xC5
  | .printerChanged _ _ _ _ _ _ => 0xC6
  | .counterLevel _ _ _ _ _ _ => 0xC7
  | .rollClosed _ _ _ _ _ _ _ _ => 0xC8

/-- The fields of a notice after its status byte (R198). The cause of ORDER FINISHED is numbered CANCELLED 0, COMPLETED 1, and the
fields of a roll carry no presence byte (assumption log entry 34). -/
def Notice.fields : Notice → List Field
  | .standReady rate => [.u 1 rate]
  | .orderChanged n st => .u 2 n :: st.fields
  | .orderCancelled n => [.u 2 n, .u 1 0]
  | .orderCompleted n kept rejected => [.u 2 n, .u 1 1, .u 1 kept, .u 1 rejected]
  | .slideFinished o i x att b roll first cause complete exposed spoilt credits =>
    [.u 2 o, .u 1 i, .u 3 x, .u 1 att, .u 1 (backNumber b), .u 3 roll] ++ optU 1 first
      ++ (match cause with | none => [.u 1 0] | some c => [.u 1 1, .u 1 c.number])
      ++ [.u 1 (if complete then 1 else 2), .u 1 exposed, .u 1 spoilt, .u 1 credits]
  | .backChanged b st roll =>
    .u 1 (backNumber b) :: st.fields
      ++ (match roll with
          | none => []
          | some (id, stock, next, remaining) => [.u 3 id, .u 1 stock, .u 1 next, .u 1 remaining])
  | .standChanged m lamp present => m.fields ++ [.u 1 lamp.number, presentField present]
  | .printerChanged line head run last queued waiting =>
    line.fields ++ optFields LabelKey.fields head ++ run.fields
      ++ [.u 1 (tokenNumber last), .u 1 queued, .u 2 waiting]
  | .counterLevel k note total level kind account =>
    [.u 1 k, .u 4 note, .u 4 total, .u 4 level, .u 1 kind.number, .u 2 account]
  | .rollClosed roll slot cause kept rejected discarded printed failed =>
    [.u 3 roll, .u 1 slot, .u 1 cause.number, .u 1 kept, .u 1 rejected, .u 1 discarded, .u 1 printed, .u 1 failed]

/-- A notice as it is sent: the status byte carries the overrun mark in bit 0 (R198). -/
def Notice.msg (overrun : Bool) (n : Notice) : Msg := { kind := n.kind, body := .u 1 (if overrun then 1 else 0) :: n.fields }

/-- FRAME REJECTED (R190). -/
def Rejection.msg (r : Rejection) : Msg :=
  { kind := 0xE1, body := [.u 1 r.reason.number, .u 1 r.kind.toNat, .u 1 r.count] }

/-- The frame a message is sent in (R187). -/
def Msg.frame (m : Msg) : List Byte := frameBytes (BitVec.ofNat 8 m.kind) (bodyBytes m.body)

/-! ## Answers to requests -/

/-- The first failing test of a rule gives its code; `none` is an acceptance (R192). -/
def firstFailing : List (Bool × Code) → Option Code
  | [] => none
  | (ok, code) :: rest => if ok then firstFailing rest else some code

/-- The answer to a request: refused with nothing changed, or accepted with its effect (R192). -/
def answer (kind : Nat) (refusal : Option Code) (s : State) (truncated : Bool) (fields : List Field) (after : State) :
    State × Msg :=
  match refusal with
  | some code => (s, refusedMsg kind code)
  | none => (after, acceptedMsg kind truncated fields)

end Sys2Proof.Machine
end

