-- ==== Sys2Proof/Machine/Operands.lean ====
section
/-! DEFINITION. The range tests of request fields (section 6.3, R1, R2, R193), the texts as they are stored, and the values
that field-select masks pick. -/

namespace Sys2Proof.Machine

/-- A character as stored: outside 20h..7Eh it is "?" (section 6.3). -/
def storedChar (c : Byte) : Byte := if 0x20 ≤ c.toNat ∧ c.toNat ≤ 0x7E then c else 0x3F#8

/-- A text as stored, cut to its greatest length (section 6.3). -/
def storedText (max : Nat) (t : Text) : Text := (t.take max).map storedChar

/-- Whether a text is cut. -/
def isCut (max : Nat) (t : Text) : Bool := decide (max < t.length)

/-- Order number in range (R1). -/
def okOrderNumber (n : Nat) : Bool := inNat 1 65535 n
/-- Account code 0001h..FFFEh (R1). -/
def okAccount (a : Nat) : Bool := inNat 1 0xFFFE a
/-- Lecturer code (R1). -/
def okLecturer (c : Nat) : Bool := inNat 0 65535 c
/-- Class (R1). -/
def okClass (c : Nat) : Bool := inNat 1 15 c
/-- Stock number. -/
def okStock (k : Nat) : Bool := decide (k ≤ 3)
/-- Bracket count (R1). -/
def okBracket (n : Nat) : Bool := n == 1 || n == 3 || n == 5 || n == 7 || n == 9
/-- Spacing (R1). -/
def okSpacing (x : Nat) : Bool := x == 3 || x == 4 || x == 6 || x == 12
/-- Order offset (R1). -/
def okOffset (o : Int) : Bool := inInt (-36) 36 o
/-- Magnification code (R1). -/
def okMagn (c : Nat) : Bool := decide (c ≤ 15)
/-- Catalogue number (R2). -/
def okCat (x : Nat) : Bool := inNat 1 16777215 x
/-- Slide adjust (R2). -/
def okAdjust : Option Int → Bool
  | some v => inInt (-12) 12 v
  | none => true
/-- Roll id (R86). -/
def okRoll (x : Nat) : Bool := inNat 1 999999 x
/-- A correction (R48). -/
def okCorrection (p : Int) : Bool := inInt (-24) 24 p
/-- A value of four bytes (R173). -/
def okWord (x : Nat) : Bool := decide (x ≤ Config.maxTotal)

/-- A field value taken from the request where the mask selects it, else kept. -/
def pick {α : Type} (mask : BitVec 16) (bit : Nat) (new old : α) : α := if mask.getLsbD bit then new else old

/-- A selected value passes its test; one not selected is not tested. -/
def okIf (mask : BitVec 16) (bit : Nat) (ok : Bool) : Bool := !mask.getLsbD bit || ok

/-- The back a request names: A 0, B 1 (R193). -/
def backOf? (v : Nat) : Option BackId :=
  match v with
  | 0 => some .backA
  | 1 => some .backB
  | _ => none

/-- The ranges of every field of a PLACE ORDER and its slide list (R3, test 1). -/
def okPlace (q : PlaceReq) : Bool :=
  okOrderNumber q.number && okAccount q.account && okLecturer q.lecturer && okClass q.cls && okStock q.stock
    && okBracket q.n && okSpacing q.spacing && okOffset q.offset && okMagn q.magn && inNat 1 40 q.slides.length
    && q.slides.all fun x => okCat x.cat && okAdjust x.adjust

/-- The ranges of an AMEND ORDER: no mask bit above 7 (R194) and every selected value in its range of R1 (R19). -/
def okAmend (q : AmendReq) : Bool :=
  decide (q.mask.toNat < 256) && okIf q.mask 0 (okClass q.cls) && okIf q.mask 1 (okBracket q.n)
    && okIf q.mask 2 (okSpacing q.spacing) && okIf q.mask 3 (okOffset q.offset) && okIf q.mask 4 (okMagn q.magn)
    && okIf q.mask 5 (okAccount q.account) && okIf q.mask 6 (okLecturer q.lecturer)

/-- The ranges of a SET STOCK (R29, test 1). -/
def okStockReq (q : StockReq) : Bool :=
  okStock q.stock && decide (q.enabled ≤ 1) && inNat 24 180 q.eRef && decide (q.k ≤ 6) && decide (q.filter ≤ 36)
    && decide (q.rate ≤ 9999)

/-- The ranges of a SET STAND: no mask bit above 5 and every selected value in its range (R116). -/
def okStand (q : StandReq) : Bool :=
  decide (q.mask.toNat < 64) && okIf q.mask 0 (inNat 1000 20000 q.feedLimit)
    && okIf q.mask 1 (inNat 500 5000 q.advanceLimit) && okIf q.mask 2 (decide (q.leaderCount ≤ 4))
    && okIf q.mask 3 (decide (q.fill ≤ 1)) && okIf q.mask 4 (decide (q.idleMinutes ≤ 60))
    && okIf q.mask 5 (inNat 2000 30000 q.tokenLimit)

/-- The ranges of a SET COUNTER: no mask bit above 8 and every selected value in its range (R179, test 1). A set with a bit
above its last member is out of range (R193). -/
def okCounter (q : CounterReq) : Bool :=
  decide (q.counter ≤ 15) && decide (q.mask.toNat < 512) && okIf q.mask 0 (decide (q.enabled ≤ 1))
    && okIf q.mask 1 (decide (q.kinds ≤ 15)) && okIf q.mask 2 (decide (q.acctMatch ≤ 65535))
    && okIf q.mask 3 (decide (q.acctMask ≤ 65535)) && okIf q.mask 4 (decide (q.stocks ≤ 15))
    && okIf q.mask 5 (q.ceiling.all okWord) && okIf q.mask 6 (q.level.all okWord) && okIf q.mask 7 (okWord q.note)
    && okIf q.mask 8 (okWord q.total)

/-- The ranges of a selection entry (R131, test 1): first frame 1..72, outcome KEEP, REJECT_UNDER, REJECT_OVER or REJECT,
and with KEEP a step −4..+4. -/
def okSelect (e : SelectReq) : Bool :=
  inNat 1 72 e.first && decide (e.outcome ≤ 3) && (e.outcome != 0 || inInt (-4) 4 e.step)

end Sys2Proof.Machine
end

