-- ==== Sys2Proof/Machine/FilmRequests.lean ====
section
/-! DEFINITION. The answers to the requests on the film backs (05_film_backs_and_rolls). -/

namespace Sys2Proof.Machine

/-- A request that names a back: RANGE for a number that is neither A nor B (R92, R104, R106, R107). -/
def onNamedBack (kind back : Nat) (s : State) (f : BackId → State × Msg) : State × Msg :=
  match backOf? back with
  | none => answer kind (some .range) s false [] s
  | some b => f b

/-! ## LOAD ROLL -/

/-- The tests of LOAD ROLL in order, the back being A or B (R92). -/
def loadRefusal (b : BackId) (roll stock declared : Nat) (s : State) : Option Code :=
  firstFailing
    [(okRoll roll && okStock stock && inNat 12 72 declared, .range), (decide ((s.back b).state = .empty), .state),
     ((s.stock stock).enabled, .state), ((s.roll? roll).isNone, .duplicate)]

/-- A roll record as LOAD ROLL makes it (R86, R92). -/
def newRoll (roll stock declared loadSeq : Nat) : Roll :=
  { id := roll, stock := stock, declared := declared, next := 1, loadSeq := loadSeq, unloadSeq := none, unloadKind := none,
    endMark := none, groups := [], frames := [] }

/-- The roll is put into the back and the load sequence counter moves (R87, R92). -/
def putRoll (b : BackId) (roll stock declared : Nat) (s : State) : State :=
  (s.onBack b fun k =>
      { k with roll := some (newRoll roll stock declared s.film.loadSeq), gateFrame := .fresh,
               leaderLeft := s.stand.settings.leaderCount }).onFilm
    fun m => { m with loadSeq := nextSeq m.loadSeq }

/-- An accepted LOAD ROLL before the choice: READY at once with a leader count of 0, releasing the FILM holds of the stock,
else LEADER with the first leader ADVANCE asked for (R92, R93). -/
def loadEffect (b : BackId) (roll stock declared : Nat) (s : State) : State :=
  if s.stand.settings.leaderCount = 0 then releaseFilm stock (setBackState b .ready (putRoll b roll stock declared s))
  else askAdvance b .leader false (setBackState b .leader (putRoll b roll stock declared s))

/-- The state a loaded back takes (R92). -/
def loadedState (s : State) : BackState := if s.stand.settings.leaderCount = 0 then .ready else .leader

/-- LOAD ROLL (R92). -/
def answerLoadRoll (back roll stock declared : Nat) (s : State) : State × Msg :=
  onNamedBack 0x21 back s fun b =>
    answer 0x21 (loadRefusal b roll stock declared s) s false
      (.u 1 back :: .u 3 roll :: .u 4 s.film.loadSeq :: (loadedState s).fields)
      (eventEnd false s (loadEffect b roll stock declared s))

/-! ## REWIND BACK, UNLOAD BACK, CLEAR BACK -/

/-- The back is the back of a slide cycle in flight, an aborted one included (R104, R107). -/
def backInCycle (s : State) (b : BackId) : Bool :=
  match s.stand.cycle with
  | some c => decide (c.back = b)
  | none => false

/-- READY, FULL, ENDED or FAULT (R104). -/
def BackState.canRewind : BackState → Bool
  | .ready => true
  | .full => true
  | .ended => true
  | .fault _ => true
  | .empty => false
  | .leader => false
  | .rewinding => false
  | .rewound => false

/-- FAULT for any reason (R107). -/
def BackState.isFault : BackState → Bool
  | .fault _ => true
  | _ => false

/-- The tests of REWIND BACK in order, the back being A or B (R104). -/
def rewindRefusal (b : BackId) (s : State) : Option Code :=
  firstFailing
    [((s.back b).state.canRewind, .state),
     (!backInCycle s b && (s.back b).advance.isNone && !(s.back b).owed, .busy)]

/-- REWIND BACK (R104). -/
def answerRewindBack (back : Nat) (s : State) : State × Msg :=
  onNamedBack 0x22 back s fun b =>
    answer 0x22 (rewindRefusal b s) s false [] (eventEnd false s (setBackState b .rewinding s))

/-- The lowest-numbered free register slot (R129). -/
def freeSlot? (s : State) : Option Nat := s.register.toList.findIdx? fun x => x.isNone

/-- The roll record as it enters the register (R86, R87, R106). -/
def Roll.unloaded (r : Roll) (seq : Nat) (kind : UnloadKind) : Roll := { r with unloadSeq := some seq, unloadKind := some kind }

/-- The roll record of a back moves to a register slot, the back becomes EMPTY, and the close test runs (R106, R107, R139). -/
def moveToRegister (b : BackId) (slot : Nat) (kind : UnloadKind) (s : State) : State :=
  match (s.back b).roll with
  | none => emptyBack b s
  | some r =>
    closeTest r.id
      (emptyBack b
        ((s.onRegister fun v => v.setIfInBounds slot (some (r.unloaded s.film.unloadSeq kind))).onFilm
          fun m => { m with unloadSeq := nextSeq m.unloadSeq }))

/-- What UNLOAD BACK and CLEAR BACK carry, with CLOSED when the roll closed in the event (R106, R107, R139). -/
def unloadFields (back : Nat) (b : BackId) (slot : Nat) (s after : State) : List Field :=
  [.u 1 back, .u 3 (((s.back b).roll.map fun r => r.id).getD 0), .u 1 slot, .u 4 s.film.unloadSeq,
   yesNo (after.slotRoll? slot).isNone]

/-- UNLOAD BACK and CLEAR BACK after the tests of their own: FULL with no free slot, else the record moves. -/
def answerUnload (code back : Nat) (b : BackId) (kind : UnloadKind) (refusal : Option Code) (s : State) : State × Msg :=
  match refusal, freeSlot? s with
  | some c, _ => answer code (some c) s false [] s
  | none, none => answer code (some .full) s false [] s
  | none, some slot =>
    answer code none s false (unloadFields back b slot s (moveToRegister b slot kind s))
      (eventEnd false s (moveToRegister b slot kind s))

/-- UNLOAD BACK (R106). -/
def answerUnloadBack (back : Nat) (s : State) : State × Msg :=
  onNamedBack 0x23 back s fun b =>
    answerUnload 0x23 back b .rewound (firstFailing [(decide ((s.back b).state = .rewound), .state)]) s

/-- CLEAR BACK (R107). -/
def answerClearBack (back : Nat) (s : State) : State × Msg :=
  onNamedBack 0x24 back s fun b =>
    answerUnload 0x24 back b .cleared
      (firstFailing [((s.back b).state.isFault, .state), (!backInCycle s b, .busy)]) s

/-! ## READ BACK -/

/-- What READ BACK gives of the roll in a back (R108). -/
def Roll.backFields (r : Roll) : List Field :=
  [.u 3 r.id, .u 1 r.stock, .u 1 r.declared, .u 1 r.next, .u 1 r.remaining, .u 4 r.loadSeq] ++ optU 1 r.endMark
    ++ [.u 1 r.groups.length, .u 1 r.frames.length]
    ++ optFields (fun g => [.u 1 g.first, .u 1 g.completeness.number, .u 1 g.exposed]) r.groups.getLast?

/-- What READ BACK gives of one back (R108); that the fields of some states only carry no presence byte, and that the advance owed
is 1 for set, is the model's choice (assumption log entry 34). -/
def backFields (s : State) (b : BackId) : List Field :=
  (s.back b).state.fields
    ++ [.u 1 (s.back b).gateFrame.number, .u 1 (advanceNumber (s.back b).advance), yesNo (s.back b).owed]
    ++ (if (s.back b).state = .leader then [.u 1 (s.back b).leaderLeft] else [])
    ++ [yesNo (backInCycle s b)]
    ++ (match (s.back b).roll with
        | some r => r.backFields
        | none => [])

/-- READ BACK (R108). -/
def answerReadBack (s : State) : State × Msg :=
  answer 0x25 none s false
    (s.film.turret.fields ++ optFields (fun o => [.u 1 (backNumber o.target)]) s.film.swap
      ++ backFields s .backA ++ backFields s .backB)
    s

end Sys2Proof.Machine
end

