-- ==== Sys2Proof/Machine/LabelRequests.lean ====
section
/-! DEFINITION. The answers to the requests on the label unit, and the tokens and timeouts of the printer line
(08_mount_labels). -/

namespace Sys2Proof.Machine

/-- The end of an event of the label unit that no choice can follow: the send of R155 for an IDLE line, then PRINTER CHANGED
(R154). -/
def printEnd (before s : State) : State := printerEnd before (sendIfIdle s)

/-! ## Runs and the line -/

/-- The run a PRINT LABELS asks for (R161). -/
def runOf (count : Nat) : Run := if count = 0 then .opened else .counted count

/-- The line becomes IDLE with no head held, or the held head is sent anew (R161, R163). -/
def resumeLine (s : State) : State :=
  match s.labels.head with
  | some k => transmit k s
  | none => s.onLabels fun u => { u with line := .idle }

/-- An accepted PRINT LABELS, up to the send of an IDLE line (R161). -/
def printEffect (count : Nat) (s : State) : State :=
  let s' := s.onLabels fun u => { u with run := runOf count, pausePending := false }
  if s.labels.line = .paused then resumeLine s' else s'

/-- The line state, the run and the counts of QUEUED and WAITING labels (R161); a line state STOPPED carries its stop reason, as
R154 and R166 have it beside the state (assumption log entry 34). -/
def lineFields (s : State) : List Field :=
  s.labels.line.fields ++ s.labels.run.fields ++ [.u 1 s.labels.queue.length, .u 2 (labelsWith .waiting s).length]

/-- PRINT LABELS (R161). -/
def answerPrintLabels (count : Nat) (s : State) : State × Msg :=
  answer 0x30 (firstFailing [(decide (count ≤ 255), .range)]) s false (lineFields (sendIfIdle (printEffect count s)))
    (printEnd s (printEffect count s))

/-- An accepted PAUSE PRINTER (R162). -/
def pauseEffect (s : State) : State :=
  s.onLabels fun u =>
    match u.line with
    | .idle => { u with line := .paused }
    | .awaiting => { u with pausePending := true }
    | .stopped _ => { u with line := .paused }
    | .paused => u

/-- PAUSE PRINTER (R162); the acceptance gives AT TOKEN as a yes-or-no byte, 1 when the pause is at the token and 0 when it is at
once (assumption log entry 34). -/
def answerPausePrinter (s : State) : State × Msg :=
  answer 0x31 none s false [yesNo (decide (s.labels.line = .awaiting))] (printEnd s (pauseEffect s))

/-- RESUME PRINTER has something to resume: a STOPPED line, or a PAUSED one with a run held (R163). -/
def canResume (s : State) : Bool :=
  match s.labels.line with
  | .stopped _ => true
  | .paused => decide (s.labels.run ≠ .off)
  | .idle => false
  | .awaiting => false

/-- RESUME PRINTER (R163). -/
def answerResumePrinter (s : State) : State × Msg :=
  answer 0x32 (firstFailing [(canResume s, .state)]) s false [] (printEnd s (resumeLine s))

/-! ## RELABEL, SET DATE -/

/-- The frame log of a live roll holds a KEPT frame of a number (R164). -/
def keptFrameOf (s : State) (roll frame : Nat) : Bool :=
  match s.roll? roll with
  | some r => r.frames.any fun f => f.number == frame && decide (f.selection = .kept)
  | none => false

/-- The tests of RELABEL in order (R164). -/
def relabelRefusal (roll frame : Nat) (s : State) : Option Code :=
  firstFailing
    [(okRoll roll && inNat 1 72 frame, .range), (keptFrameOf s roll frame, .unknown),
     (decide (labelStateOf s { roll := roll, frame := frame } = some .failed), .state)]

/-- An accepted RELABEL up to the send of an IDLE line: the label is WAITING again and the fill runs (R151, R164). -/
def relabelEffect (roll frame : Nat) (s : State) : State :=
  fillQueue (setLabelState { roll := roll, frame := frame } .waiting s)

/-- RELABEL (R164). -/
def answerRelabel (roll frame : Nat) (s : State) : State × Msg :=
  answer 0x33 (relabelRefusal roll frame s) s false
    [.u 3 roll, .u 1 frame,
     .u 1 (((labelStateOf (relabelEffect roll frame s) { roll := roll, frame := frame }).map LabelState.number).getD 0)]
    (printEnd s (relabelEffect roll frame s))

/-- SET DATE (R165). -/
def answerSetDate (date : Nat) (s : State) : State × Msg :=
  answer 0x34 (firstFailing [(decide (date ≤ 65535), .range)]) s false [.u 2 date]
    (s.onLabels fun u => { u with date := date })

/-! ## READ LABELS -/

/-- One label of the queue as it is listed (R166); the mark of the head is a yes-or-no byte (assumption log entry 34). -/
def queuedFields (s : State) (k : LabelKey) : List Field :=
  k.fields
    ++ [.u 3 ((labelRecord? s k).elim 0 fun r => r.cat), .u 2 ((labelRecord? s k).elim 0 fun r => r.account),
        yesNo (decide (s.labels.head = some k))]

/-- What the line form gives (R166, R195); the timed-out and pause pending marks are 1 for set (assumption log entry 34). -/
def labelsLine (s : State) (first : Nat) : List Field :=
  s.labels.line.fields ++ optFields (fun k => k.fields ++ [yesNo s.labels.timedOut]) s.labels.head
    ++ [yesNo s.labels.pausePending] ++ s.labels.run.fields
    ++ [.u 1 (tokenNumber s.labels.lastToken), .u 2 s.labels.date, .u 1 s.labels.queue.length, .u 2 (labelsWith .waiting s).length,
        .u 2 (labelsWith .printed s).length, .u 2 (labelsWith .failed s).length, .u 1 first]
    ++ listFields (queuedFields s) ((s.labels.queue.drop first).take 16)

/-- READ LABELS, line form (R166). -/
def answerReadLabelsLine (first : Nat) (s : State) : State × Msg :=
  answer 0x35 (firstFailing [(decide (first ≤ 31), .range)]) s false (labelsLine s first) s

/-- What the record form gives (R167). -/
def labelFields (s : State) (r : LabelRecord) : List Field :=
  r.fields ++ [.u 1 (((labelStateOf s r.key).map LabelState.number).getD 0), yesNo (decide (s.labels.head = some r.key))]

/-- READ LABELS, record form (R167). -/
def answerReadLabelsRecord (roll frame : Nat) (s : State) : State × Msg :=
  if !okRoll roll || !inNat 1 72 frame then answer 0x35 (some .range) s false [] s
  else
    match labelRecord? s { roll := roll, frame := frame } with
    | none => answer 0x35 (some .unknown) s false [] s
    | some r => answer 0x35 none s false (labelFields s r) s

/-! ## The printer line's events -/

/-- The line once a late PRINTED token has completed the head: from STOPPED(NO_TOKEN) to IDLE, or PAUSED when the run has
become NONE; a PAUSED line stays (R159). -/
def lineAfterLate (s : State) : State :=
  s.onLabels fun u =>
    match u.line with
    | .stopped _ => { u with line := if u.run = .off then .paused else .idle }
    | _ => u

/-- A PRINTED token (R156, R159, R160). -/
def printedEvent (s : State) : State :=
  match s.labels.head with
  | none => s
  | some k =>
    if s.labels.line = .awaiting then printEnd s (closeTest k.roll (lineAfterHead (completeHead k s)))
    else if s.labels.timedOut ∧ (s.labels.line = .stopped .noToken ∨ s.labels.line = .paused) then
      printEnd s (closeTest k.roll (lineAfterLate (completeHead k s)))
    else s

/-- A JAMMED or OUT_OF_LABELS token (R157, R160). -/
def stopTokenEvent (token : Token) (reason : StopReason) (s : State) : State :=
  if s.labels.line = .awaiting then
    printEnd s (stopLine reason (s.onLabels fun u => { u with waitOn := false, lastToken := some token }))
  else s

/-- A FORMAT_ERROR token (R158, R160). -/
def formatErrorEvent (s : State) : State :=
  match s.labels.head with
  | none => s
  | some k =>
    if s.labels.line = .awaiting then
      printEnd s (closeTest k.roll (lineAfterHead (fillQueue (setLabelState k .failed (dropHead k .formatError s)))))
    else s

/-- A printer token is taken (R156 to R158). -/
def tokenEvent : Token → State → State
  | .printed => printedEvent
  | .jammed => stopTokenEvent .jammed .jammed
  | .outOfLabels => stopTokenEvent .outOfLabels .outOfLabels
  | .formatError => formatErrorEvent

/-- A byte arrives on the printer line: a token is taken, any other byte is discarded (R153). -/
def printerByteEvent (x : Byte) (s : State) : State :=
  match tokenOf? x with
  | some t => tokenEvent t s
  | none => s

/-- The token wait ends by timeout (R159). -/
def tokenTimeoutEvent (s : State) : State :=
  if s.labels.line = .awaiting ∧ s.labels.waitOn then
    printEnd s (stopLine .noToken (s.onLabels fun u => { u with waitOn := false, timedOut := true }))
  else s

/-- The last byte of a label frame has been sent: the token wait starts (R155). -/
def labelSentEvent (s : State) : State :=
  s.onLabels fun u =>
    if u.out.isSome then { u with out := none, waitOn := decide (u.line = .awaiting) } else u

end Sys2Proof.Machine
end

