-- ==== Sys2Proof/Machine/OrderRequests.lean ====
section
/-! DEFINITION. The answers to the requests on orders and the work list (01_orders_and_the_work_list). -/

namespace Sys2Proof.Machine

/-! ## PLACE ORDER -/

/-- The tests of PLACE ORDER in order (R3). -/
def placeRefusal (q : PlaceReq) (s : State) : Option Code :=
  firstFailing
    [(okPlace q, .range), ((s.stock q.stock).enabled, .state), ((s.order? q.number).isNone, .duplicate),
     (decide (s.work.orders.length < Config.maxOrders), .full)]

/-- A slide entry at placement (R2, R3). -/
def placedSlide (x : SlideReq) : Slide :=
  { cat := x.cat, caption := x.caption.map (storedText 32), adjust := x.adjust, shift := 0, attempts := 0, outcome := .notShot }

/-- The order record a PLACE ORDER makes (R1, R3, R4). -/
def placedOrder (q : PlaceReq) (seq : Nat) : Order :=
  { number := q.number, seq := seq, account := q.account, lecturer := q.lecturer, cls := q.cls, stock := q.stock, n := q.n,
    spacing := q.spacing, offset := q.offset, magn := q.magn, title := storedText 32 q.title,
    slides := q.slides.map placedSlide, state := .pending, former := none, cancelPending := false, holdPending := false }

/-- A text of the request was cut (R3). -/
def placeTruncated (q : PlaceReq) : Bool :=
  isCut 32 q.title || q.slides.any fun x => x.caption.any (isCut 32)

/-- An accepted PLACE ORDER before the choice (R3, R4). -/
def placeEffect (q : PlaceReq) (s : State) : State :=
  queueNotice (.orderChanged q.number .pending)
    (s.onWork fun w =>
      { w with orders := insertBy (fun a b => decide (a.seq < b.seq)) (placedOrder q w.placeSeq) w.orders,
               placeSeq := nextSeq w.placeSeq })

/-- PLACE ORDER (R3). -/
def answerPlaceOrder (q : PlaceReq) (s : State) : State × Msg :=
  answer 0x10 (placeRefusal q s) s (placeTruncated q) [.u 2 q.number, .u 4 s.work.placeSeq] (eventEnd true s (placeEffect q s))

/-! ## AMEND ORDER -/

/-- The order is in the stack or FILLING (R19). -/
def inService (s : State) (number : Nat) : Bool :=
  s.work.stack.contains number || (match s.order? number with | some o => decide (o.state = .filling) | none => false)

/-- The tests of AMEND ORDER in order (R19). That UNKNOWN comes before RANGE is the model's choice (assumption log entry 32). -/
def amendRefusal (q : AmendReq) (s : State) : Option Code :=
  firstFailing
    [((s.order? q.number).isSome, .unknown), (okAmend q, .range), (!(q.mask.getLsbD 0 && inService s q.number), .state)]

/-- The selected fields take their new values (R19, R194). -/
def amended (q : AmendReq) (o : Order) : Order :=
  { o with cls := pick q.mask 0 q.cls o.cls, n := pick q.mask 1 q.n o.n, spacing := pick q.mask 2 q.spacing o.spacing,
           offset := pick q.mask 3 q.offset o.offset, magn := pick q.mask 4 q.magn o.magn,
           account := pick q.mask 5 q.account o.account, lecturer := pick q.mask 6 q.lecturer o.lecturer,
           title := pick q.mask 7 (storedText 32 q.title) o.title }

/-- The order waits on a ceiling. -/
def heldForCeiling (s : State) (number : Nat) : Bool :=
  match s.order? number with
  | some o => o.state.isCeiling
  | none => false

/-- An accepted AMEND ORDER before the choice: an order HELD with reason CEILING whose n or account is selected is released
(R19). -/
def amendEffect (q : AmendReq) (s : State) : State :=
  let s' := s.onOrder q.number (amended q)
  if heldForCeiling s q.number && (q.mask.getLsbD 1 || q.mask.getLsbD 5) then releaseOne q.number s' else s'

/-- AMEND ORDER (R19). -/
def answerAmendOrder (q : AmendReq) (s : State) : State × Msg :=
  answer 0x11 (amendRefusal q s) s (q.mask.getLsbD 7 && isCut 32 q.title) [] (eventEnd true s (amendEffect q s))

/-! ## CANCEL ORDER, HOLD ORDER, RELEASE ORDER, SET FLOOR -/

/-- A slide cycle is in flight for the order (R20, R21). -/
def cycleIsOf (s : State) (number : Nat) : Bool :=
  match s.stand.cycle with
  | some c => c.order == number
  | none => false

/-- When the effect comes: AT CYCLE END 0, NOW 1 (R20, R21). -/
def effectField (atCycleEnd : Bool) : Field := .u 1 (if atCycleEnd then 0 else 1)

/-- An accepted CANCEL ORDER before the choice (R20). -/
def cancelRequestEffect (number : Nat) (s : State) : State :=
  if cycleIsOf s number then s.onOrder number fun o => { o with cancelPending := true } else cancelEffect number s

/-- CANCEL ORDER (R20). -/
def answerCancelOrder (number : Nat) (s : State) : State × Msg :=
  answer 0x12 (firstFailing [((s.order? number).isSome, .unknown)]) s false [effectField (cycleIsOf s number)]
    (eventEnd true s (cancelRequestEffect number s))

/-- An accepted HOLD ORDER before the choice (R21). -/
def holdRequestEffect (number : Nat) (s : State) : State :=
  if cycleIsOf s number then s.onOrder number fun o => { o with holdPending := true } else holdWith number .host s

/-- HOLD ORDER (R21). -/
def answerHoldOrder (number : Nat) (s : State) : State × Msg :=
  answer 0x13 (firstFailing [((s.order? number).isSome, .unknown)]) s false [effectField (cycleIsOf s number)]
    (eventEnd true s (holdRequestEffect number s))

/-- A test of the live order of a number; false with none. -/
def State.orderHas (s : State) (number : Nat) (test : Order → Bool) : Bool :=
  match s.order? number with
  | some o => test o
  | none => false

/-- An accepted RELEASE ORDER before the choice (R22). -/
def releaseRequestEffect (number : Nat) (s : State) : State :=
  if s.orderHas number fun o => o.state.isHeld then releaseOne number s
  else s.onOrder number fun o => { o with holdPending := false }

/-- RELEASE ORDER (R22). -/
def answerReleaseOrder (number : Nat) (s : State) : State × Msg :=
  answer 0x14
    (firstFailing
      [((s.order? number).isSome, .unknown), (s.orderHas number fun o => o.state.isHeld || o.holdPending, .state)])
    s false [] (eventEnd true s (releaseRequestEffect number s))

/-- SET FLOOR (R8). -/
def answerSetFloor (floor : Nat) (s : State) : State × Msg :=
  answer 0x15 (firstFailing [(decide (floor ≤ 15), .range)]) s false [.u 1 floor]
    (eventEnd true s (s.onWork fun w => { w with floor := floor }))

/-! ## READ ORDER -/

/-- The summary of the work list (R25). -/
def summaryFields (s : State) : List Field :=
  [.u 1 s.work.floor, .u 4 s.work.placeSeq] ++ listFields (fun k => [.u 2 k]) s.work.stack.reverse
    ++ listFields (fun o => .u 2 o.number :: .u 1 o.cls :: o.state.fields) s.work.orders

/-- The slide index of the cycle in flight for an order, when there is one (R25). -/
def cycleSlide (s : State) (number : Nat) : Option Nat :=
  match s.stand.cycle with
  | some c => if c.order = number then some c.slide else none
  | none => none

/-- An order record with a page of at most 4 slide entries (R25, R195). -/
def orderPage (s : State) (o : Order) (first : Nat) : List Field :=
  o.fields ++ optU 1 (cycleSlide s o.number) ++ [.u 1 o.slides.length, .u 1 first]
    ++ listFields Slide.fields ((o.slides.drop first).take 4)

/-- READ ORDER (R25). With the number 0 the first slide index is ignored (assumption log entry 33). -/
def answerReadOrder (number first : Nat) (s : State) : State × Msg :=
  if number = 0 then answer 0x16 none s false (summaryFields s) s
  else
    match s.order? number with
    | none => answer 0x16 (some .unknown) s false [] s
    | some o => answer 0x16 (firstFailing [(decide (first < o.slides.length), .range)]) s false (orderPage s o first) s

end Sys2Proof.Machine
end

