-- ==== Sys2Proof/Machine/RegisterRequests.lean ====
section
/-! DEFINITION. The answers to the requests on the roll register (07_roll_register_and_selections). -/

namespace Sys2Proof.Machine

/-! ## REPORT SELECTIONS -/

/-- The tests of REPORT SELECTIONS in order (R131). -/
def reportRefusal (roll : Nat) (entries : List SelectReq) (s : State) : Option Code :=
  firstFailing
    [(okRoll roll && inNat 1 12 entries.length && entries.all okSelect, .range), ((s.roll? roll).isSome, .unknown),
     ((s.slotOf? roll).isSome, .state)]

/-- One entry as an event of its own: applied, then the choice and the notices of its end (R132, R137; assumption log
entry 11). -/
def takeEntry (slot : Nat) (e : SelectReq) (s : State) : State × EntryResult :=
  let r := applyEntry slot e s
  (labelEventEnd s r.1, r.2)

/-- The entries of a selection report, one at a time, with their results (R131). -/
def takeEntries (slot : Nat) : List SelectReq → State → State × List EntryResult
  | [], s => (s, [])
  | e :: es, s =>
    let r := takeEntry slot e s
    let rest := takeEntries slot es r.1
    (rest.1, r.2 :: rest.2)

/-- The result of an entry as it is carried (R132); the forms of the learning result, of the kept frame with its label state and of
the indication ORDER FINISHED are the model's choice (assumption log entry 34). -/
def EntryResult.fields : EntryResult → List Field
  | .unknown => [.u 1 0]
  | .incomplete => [.u 1 1]
  | .already => [.u 1 2]
  | .range => [.u 1 3]
  | .done outcome slide learned label finished =>
    .u 1 4 :: outcome.fields
      ++ (match slide with
          | some x => [.u 1 x.outcome.number, .u 1 x.attempts, .i 1 x.shift]
          | none => [])
      ++ optFields LearnResult.fields learned
      ++ (match label with
          | some (frame, st) => [.u 1 frame, .u 1 ((st.map LabelState.number).getD 0)]
          | none => [])
      ++ [yesNo finished]

/-- An accepted REPORT SELECTIONS before its close test: the entries taken. -/
def reportEntries (roll : Nat) (entries : List SelectReq) (s : State) : State × List EntryResult :=
  takeEntries ((s.slotOf? roll).getD 0) entries s

/-- REPORT SELECTIONS (R131): the entries, then the close test of the roll (R139). -/
def answerReportSelections (roll : Nat) (entries : List SelectReq) (s : State) : State × Msg :=
  let r := reportEntries roll entries s
  let after := closeTest roll r.1
  answer 0x2C (reportRefusal roll entries s) s false
    (.u 3 roll :: listFields EntryResult.fields r.2 ++ [yesNo (after.slotOf? roll).isNone]) after

/-! ## CLOSE ROLL -/

/-- A label of the roll is WAITING or QUEUED (R141, test 4). -/
def labelsPending (s : State) (roll : Nat) : Bool :=
  match s.roll? roll with
  | some r => r.frames.any Frame.labelOpen
  | none => false

/-- The tests of CLOSE ROLL in order (R141); the disposition is LOST 0 or ABANDON 1. -/
def closeRollRefusal (roll disposition : Nat) (s : State) : Option Code :=
  firstFailing
    [(okRoll roll && decide (disposition ≤ 1), .range), ((s.roll? roll).isSome, .unknown), ((s.slotOf? roll).isSome, .state),
     (!labelsPending s roll, .labelsPending)]

/-- The roll of a register slot, empty of everything where there is none. -/
def slotGroups (s : State) (slot : Nat) : List Group := ((s.slotRoll? slot).map Roll.unselectedGroups).getD []

/-- The groups of the roll settled by the disposition, in the order of the group list (R142, R143). -/
def settleGroups (disposition slot : Nat) (s : State) : State :=
  (slotGroups s slot).foldl (fun s g => if disposition = 0 then settleLost slot g s else settleAbandon slot g s) s

/-- The cause of ROLL CLOSED a disposition gives. -/
def closeCause (disposition : Nat) : CloseCause := if disposition = 0 then .lost else .abandon

/-- The slot of a roll that CLOSE ROLL closes. -/
def closingSlot (s : State) (roll : Nat) : Nat := (s.slotOf? roll).getD 0

/-- The frames that LOST credits on a roll. -/
def lostCredits (s : State) (roll : Nat) : List Frame :=
  ((s.slotRoll? (closingSlot s roll)).map Roll.lostFrames).getD []

/-- What CLOSE ROLL carries (R141): for LOST also the count and the sum of the credits, with no presence byte
(assumption log entry 34). -/
def closeRollFields (roll disposition : Nat) (s : State) : List Field :=
  [.u 3 roll, .u 1 (closingSlot s roll), .u 1 (slotGroups s (closingSlot s roll)).length]
    ++ (if disposition = 0 then
          [.u 1 (lostCredits s roll).length,
           .i 3 (-(((lostCredits s roll).map fun f => f.amount.getD 0).sum : Nat) : Int)]
        else [])

/-- An accepted CLOSE ROLL before the choice: the groups settled, the roll closed (R140 to R143). -/
def closeRollEffect (roll disposition : Nat) (s : State) : State :=
  closeRoll (closingSlot s roll) (closeCause disposition) (settleGroups disposition (closingSlot s roll) s)

/-- CLOSE ROLL (R141). -/
def answerCloseRoll (roll disposition : Nat) (s : State) : State × Msg :=
  answer 0x2D (closeRollRefusal roll disposition s) s false (closeRollFields roll disposition s)
    (eventEnd false s (closeRollEffect roll disposition s))

/-! ## READ ROLL, READ FRAMES -/

/-- One roll of the register's summary (R145); a roll of the register always has its unload sequence and unload kind, so here they
carry no presence byte (assumption log entry 34). -/
def rollSummary (x : Nat × Roll) : List Field :=
  [.u 1 x.1, .u 3 x.2.id, .u 1 x.2.stock, .u 4 (x.2.unloadSeq.getD 0), .u 1 ((x.2.unloadKind.map UnloadKind.number).getD 0),
   .u 1 x.2.unselectedGroups.length, .u 1 (x.2.labelCount .waiting), .u 1 (x.2.labelCount .queued),
   .u 1 (x.2.labelCount .printed), .u 1 (x.2.labelCount .failed)]

/-- The summary of the register (R145). -/
def registerSummary (s : State) : List Field :=
  .u 1 (8 - s.registerOrder.length) :: listFields rollSummary s.registerOrder

/-- The place of a live roll record: back A 0, back B 1, a register slot 2 with its number (R86). -/
def placeFields (s : State) (roll : Nat) : List Field :=
  if (s.film.backA.roll.map fun r => r.id) = some roll then [.u 1 0]
  else if (s.film.backB.roll.map fun r => r.id) = some roll then [.u 1 1]
  else [.u 1 2, .u 1 ((s.slotOf? roll).getD 0)]

/-- A roll record with a page of at most 6 group records (R145, R195). -/
def rollPage (s : State) (r : Roll) (first : Nat) : List Field :=
  [.u 3 r.id, .u 1 r.stock, .u 1 r.declared, .u 1 r.next, .u 4 r.loadSeq] ++ optU 4 r.unloadSeq
    ++ optFields (fun k => [.u 1 (UnloadKind.number k)]) r.unloadKind ++ optU 1 r.endMark ++ placeFields s r.id
    ++ [.u 1 r.groups.length, .u 1 r.frames.length, .u 1 first]
    ++ listFields Group.fields ((r.groups.drop first).take 6)

/-- READ ROLL (R145). -/
def answerReadRoll (roll first : Nat) (s : State) : State × Msg :=
  if 999999 < roll ∨ 71 < first then answer 0x2E (some .range) s false [] s
  else if roll = 0 then answer 0x2E none s false (registerSummary s) s
  else
    match s.roll? roll with
    | none => answer 0x2E (some .unknown) s false [] s
    | some r =>
      answer 0x2E (firstFailing [(decide (first < r.groups.length) || (first == 0 && r.groups.isEmpty), .range)]) s false
        (rollPage s r first) s

/-- The frames of the log from a frame number on (R146). -/
def Roll.framesFrom (r : Roll) (first : Nat) : List Frame := r.frames.filter fun f => first ≤ f.number

/-- A page of at most 16 frame records, in the layout of R196. -/
def framePage (r : Roll) (first : Nat) : List Field :=
  [.u 3 r.id, .u 1 r.next, yesNo (decide (16 < (r.framesFrom first).length)), .u 1 first]
    ++ listFields Frame.fields ((r.framesFrom first).take 16)

/-- READ FRAMES (R146). -/
def answerReadFrames (roll first : Nat) (s : State) : State × Msg :=
  if !okRoll roll || !inNat 1 72 first then answer 0x2F (some .range) s false [] s
  else
    match s.roll? roll with
    | none => answer 0x2F (some .unknown) s false [] s
    | some r => answer 0x2F (firstFailing [(decide (first ≤ r.declared), .range)]) s false (framePage r first) s

end Sys2Proof.Machine
end

