-- ==== Sys2Proof/Machine/StandRequests.lean ====
section
/-! DEFINITION. The answers to the requests on the stand (06_the_slide_cycle). -/

namespace Sys2Proof.Machine

/-! ## START STAND -/

/-- The tests of START STAND in order (R111). -/
def startRefusal (s : State) : Option Code :=
  firstFailing
    [(decide (s.stand.mode = .stopped), .state), (s.stand.cycle.isNone, .busy), (decide (s.feeder.gate = .empty), .state),
     (decide (s.head.lamp ≠ .failed), .state)]

/-- HOME is asked for when the feeder position is UNKNOWN (R111). -/
def startHome (s : State) : State := if s.feeder.pos.isNone then askJob .home false s else s

/-- SWAP to A is asked for when the turret position is UNKNOWN (R111). -/
def startSwap (s : State) : State := if s.film.turret = .unknown then askSwap .backA false s else s

/-- ND SET to 0 is asked for when the ND position is UNKNOWN (R111). -/
def startNd (s : State) : State := if s.head.nd.isNone then askNd 0 false s else s

/-- An accepted START STAND before the choice (R111). -/
def startEffect (s : State) : State :=
  startIdle (lampLight (startNd (startSwap (startHome (setStandMode .running s)))))

/-- The start-up operations asked for, HOME 0, SWAP 1, ND SET 2 and the lamp 3 (R111). -/
def startOps (s : State) : List Nat :=
  (if s.feeder.pos.isNone then [0] else []) ++ (if s.film.turret = .unknown then [1] else [])
    ++ (if s.head.nd.isNone then [2] else []) ++ [3]

/-- START STAND (R111). -/
def answerStartStand (s : State) : State × Msg :=
  answer 0x26 (startRefusal s) s false (StandMode.running.fields ++ listFields (fun k => [.u 1 k]) (startOps s))
    (eventEnd false s (startEffect s))

/-! ## STOP STAND, ABORT SLIDE -/

/-- HALTED for any reason. -/
def StandMode.isHalted : StandMode → Bool
  | .halted _ => true
  | _ => false

/-- An accepted STOP STAND (R112). -/
def stopEffect (s : State) : State :=
  match s.stand.mode with
  | .running => if s.stand.cycle.isSome then setStandMode .stopping s else lampOff (setStandMode .stopped s)
  | .stopping => s
  | .stopped => lampOff s
  | .halted _ => s

/-- STOP STAND (R112). -/
def answerStopStand (s : State) : State × Msg :=
  answer 0x27 (firstFailing [(!s.stand.mode.isHalted, .state)]) s false (stopEffect s).stand.mode.fields
    (eventEnd false s (stopEffect s))

/-- The cycle in flight that is not already aborted. -/
def liveCycle (s : State) : Option Cycle := s.stand.cycle.filter fun c => c.cause.isNone

/-- The test of ABORT SLIDE (R114). -/
def abortRefusal (s : State) : Option Code :=
  firstFailing
    [((decide (s.stand.mode = .running) || decide (s.stand.mode = .stopping)) && (liveCycle s).isSome, .state)]

/-- The order number and slide index of a cycle (R114, R115). -/
def Cycle.slideFields (c : Cycle) : List Field := [.u 2 c.order, .u 1 c.slide]

/-- ABORT SLIDE (R114). -/
def answerAbortSlide (s : State) : State × Msg :=
  answer 0x28 (abortRefusal s) s false (((liveCycle s).map Cycle.slideFields).getD [])
    (eventEnd false s (abort .abortSlide (some .stopped) s))

/-! ## RESET STAND -/

/-- The feeder at a reset: the position UNKNOWN, HOLDS become FOREIGN (R83, R115). -/
def resetFeeder (s : State) : State :=
  s.onFeeder fun f => { f with pos := none, gate := match f.gate with | .holds _ _ => .foreign | g => g }

/-- A cycle in flight is aborted with the cause RESET and ends at once; one already ENDING ends with its own cause (R115,
R126). -/
def resetCycle (s : State) : State :=
  match s.stand.cycle with
  | none => s
  | some c => if c.cause.isSome then endCycle (setStandMode .stopped s) else abort .reset (some .stopped) s

/-- Operations in flight run on, belonging to no cycle and halting nothing; those still waiting are withdrawn (R113, R115). -/
def resetOps (s : State) : State :=
  ((s.onFeeder fun f =>
      { f with op := f.op.map (fun o => { o with stale := true, ofCycle := false }), waiting := [] }).onHead fun h =>
      { h with ndOp := h.ndOp.map (fun o => { o with stale := true, ofCycle := false }), ndWaiting := [],
               meter := h.meter.map (fun o => { o with stale := true, ofCycle := false }) }).onFilm fun m =>
      { m with swap := m.swap.map (fun o => { o with stale := true, ofCycle := false }), swapWaiting := [] }

/-- The stack is emptied: every order in it returns to PENDING by the return rule, from the top down (R27). -/
def emptyStack (s : State) : State :=
  s.work.stack.foldl (fun s k => releaseOne k s) (s.onWork fun w => { w with stack := [] })

/-- The stand after a reset: STOPPED, the idle timer stopped, the lamp OFF from any state (R115, step 4). -/
def resetStand (s : State) : State :=
  (setStandMode .stopped s).onHead fun h => { h with lamp := .off }

/-- RESET STAND's event (R115). -/
def resetEffect (s : State) : State := resetStand (emptyStack (resetOps (resetCycle (resetFeeder s))))

/-- RESET STAND (R115). -/
def answerResetStand (s : State) : State × Msg :=
  answer 0x29 none s false (optFields Cycle.slideFields (liveCycle s)) (eventEnd false s (resetEffect s))

/-! ## SET STAND, READ STAND -/

/-- The selected settings take their new values (R116). -/
def setSettings (q : StandReq) (t : Settings) : Settings :=
  { feedLimit := pick q.mask 0 q.feedLimit t.feedLimit, advanceLimit := pick q.mask 1 q.advanceLimit t.advanceLimit,
    leaderCount := pick q.mask 2 q.leaderCount t.leaderCount, fill := pick q.mask 3 (q.fill != 0) t.fill,
    idleMinutes := pick q.mask 4 q.idleMinutes t.idleMinutes, tokenLimit := pick q.mask 5 q.tokenLimit t.tokenLimit }

/-- SET STAND (R116). -/
def answerSetStand (q : StandReq) (s : State) : State × Msg :=
  answer 0x2A (firstFailing [(okStand q, .range)]) s false (setSettings q s.stand.settings).fields
    (eventEnd false s (s.onStand fun t => { t with settings := setSettings q t.settings }))

/-- The step number of the plan at an index. -/
def Cycle.stepNumber (c : Cycle) (i : Nat) : Int := ((c.plan.bind fun p => p.steps[i]?).map fun p => p.j).getD 0

/-- The phase with the step it names (R117, R127). -/
def Cycle.phaseFields (c : Cycle) : List Field :=
  match c.phase with
  | .loading => [.u 1 0]
  | .metering => [.u 1 1]
  | .exposing => [.u 1 2, .i 1 (c.stepNumber c.nextStep)]
  | .advancing => [.u 1 3, .i 1 (c.stepNumber (c.nextStep - 1))]
  | .finishing => [.u 1 4]
  | .ending => [.u 1 5]

/-- A feeder operation of the cycle, in flight or waiting, that meets a test. -/
def awaitsJob (s : State) (test : FeederJob → Bool) : Bool :=
  (match s.feeder.op with
    | some o => o.ofCycle && test o.job
    | none => false)
    || s.feeder.waiting.any fun w => w.ofCycle && test w.job

/-- FEED. -/
def FeederJob.isFeed : FeederJob → Bool
  | .feed _ _ => true
  | .home => false
  | .ret _ => false

/-- RETURN. -/
def FeederJob.isReturn : FeederJob → Bool
  | .ret _ => true
  | .home => false
  | .feed _ _ => false

/-- The operations the cycle is waiting on, in the order of R117: FEED, SWAP, lamp, METER, ND SET, EXPOSE, step ADVANCE,
RETURN; an EXPOSE counts once the shutter is open (assumption log entry 38). -/
def operationsAwaited (s : State) (c : Cycle) : List Bool :=
  [awaitsJob s FeederJob.isFeed,
   (s.film.swap.any fun o => o.ofCycle) || (s.film.swapWaiting.any fun o => o.ofCycle),
   decide (s.head.lamp = .warming) && c.cause.isNone,
   s.head.meter.any fun o => o.ofCycle,
   (s.head.ndOp.any fun o => o.ofCycle) || (s.head.ndWaiting.any fun o => o.ofCycle),
   s.stand.expose.isSome,
   advanceOfCycle s c.back,
   awaitsJob s FeederJob.isReturn]

/-- A set as one byte, bit i for the i-th member (R193). -/
def setByte : List Bool → Nat
  | [] => 0
  | b :: bs => (if b then 1 else 0) + 2 * setByte bs

/-- What READ STAND gives of the cycle in flight (R127). -/
def cycleFields (s : State) (c : Cycle) : List Field :=
  [.u 2 c.order, .u 1 c.slide, .u 3 c.cat, .u 1 c.attempt, .u 1 (backNumber c.back), .u 1 c.pos] ++ c.phaseFields
    ++ optFields (fun x => [.u 1 (AbortCause.number x)]) c.cause ++ optU 1 c.groupFirst
    ++ [.u 1 ((cycleGroup s c).elim 0 fun g => g.exposed), .u 1 ((cycleFrames s c).countP fun f => f.kind = .spoilt),
        .u 1 (setByte (operationsAwaited s c))]

/-- READ STAND (R127). -/
def answerReadStand (s : State) : State × Msg :=
  answer 0x2B none s false (s.stand.mode.fields ++ s.stand.settings.fields ++ optFields (cycleFields s) s.stand.cycle) s

end Sys2Proof.Machine
end

