-- ==== Sys2Proof/Machine/TableRequests.lean ====
section
/-! DEFINITION. The answers to the requests on the stock table, the profile table, the tray and the light head
(02_exposure_arithmetic, 03_the_profile_table, 04_tray_feeder_and_light_head). -/

namespace Sys2Proof.Machine

/-! ## Stock table -/

/-- A slide cycle of the stock is in flight (R29). -/
def cycleOnStock (s : State) (stock : Nat) : Bool :=
  match s.stand.cycle with
  | some c => c.stock == stock
  | none => false

/-- A live order names the stock, or a back holds a roll of it (R29, R84). -/
def stockInUse (s : State) (stock : Nat) : Bool :=
  s.work.orders.any (fun o => o.stock == stock) || decide (s.film.backA.stock? = some stock)
    || decide (s.film.backB.stock? = some stock)

/-- The tests of SET STOCK in order (R29). -/
def setStockRefusal (q : StockReq) (s : State) : Option Code :=
  firstFailing
    [(okStockReq q, .range), (!cycleOnStock s q.stock, .state), (q.enabled != 0 || !stockInUse s q.stock, .state)]

/-- The entry as stored (R29). -/
def storedEntry (q : StockReq) : StockEntry :=
  { enabled := q.enabled != 0, name := storedText 8 q.name, eRef := q.eRef, k := q.k, filter := q.filter, rate := q.rate }

/-- SET STOCK (R29). -/
def answerSetStock (q : StockReq) (s : State) : State × Msg :=
  answer 0x17 (setStockRefusal q s) s (isCut 8 q.name) (.u 1 q.stock :: (storedEntry q).fields)
    (s.onStocks fun v => v.setIfInBounds q.stock (storedEntry q))

/-- READ STOCK (R31). -/
def answerReadStock (s : State) : State × Msg :=
  answer 0x18 none s false (s.stocks.toList.flatMap StockEntry.fields) s

/-! ## Profile table -/

/-- The mode a number names (R48, R193). -/
def modeOf? : Nat → Option ProfileMode
  | 0 => some .learned
  | 1 => some .manual
  | 2 => some .noLearn
  | _ => none

/-- The tests of SET PROFILE before the slot is looked for (R59, tests 1 and 2). -/
def setProfileRange (cat mode : Nat) (p : Int) (fixed : Option Nat) : Option Code :=
  firstFailing
    [(okCat cat && decide (mode ≤ 2) && okCorrection p && fixed.all (fun d => decide (d ≤ 400)), .range),
     (fixed.isNone || mode == 1, .range)]

/-- The entry a SET PROFILE writes (R54): in place it keeps its used mark and uses. -/
def profileEntry (cat : Nat) (mode : ProfileMode) (p : Int) (fixed : Option Nat) (old : Option OriginalEntry) : OriginalEntry :=
  { cat := cat, mode := mode, p := if mode = .noLearn then 0 else p, fixed := if mode = .manual then fixed else none,
    used := match old with | some e => e.used | none => true,
    uses := match old with | some e => e.uses | none => 0, last := none }

/-- The entry written into a chosen slot. -/
def SlotChoice.entry (c : SlotChoice) (cat : Nat) (mode : ProfileMode) (p : Int) (fixed : Option Nat) : OriginalEntry :=
  profileEntry cat mode p fixed (if c.inPlace then c.table.original? c.slot else none)

/-- SET PROFILE (R59); the displaced numbers as a list, the overwritten one first, are the model's choice (assumption log entry
34). -/
def answerSetProfile (cat mode : Nat) (p : Int) (fixed : Option Nat) (s : State) : State × Msg :=
  match setProfileRange cat mode p fixed, modeOf? mode, s.profiles.choose cat with
  | some code, _, _ => answer 0x19 (some code) s false [] s
  | none, some m, some c =>
    answer 0x19 none s false
      (.u 1 c.slot :: originalFields (some (c.entry cat m p fixed)) ++ listFields (fun x => [.u 3 x]) c.displaced)
      (s.onProfiles fun _ => c.table.setOriginal c.slot (some (c.entry cat m p fixed)))
  | none, _, _ => answer 0x19 (some .full) s false [] s

/-- The test of SET RANGE (R60). -/
def setRangeRefusal (slot base exponent : Nat) (p : Int) : Option Code :=
  firstFailing
    [(decide (slot ≤ 7) && decide (base ≤ 16777215) && inNat 4 12 exponent && okCorrection p && base % 2 ^ exponent == 0, .range)]

/-- SET RANGE (R60). -/
def answerSetRange (slot base exponent : Nat) (p : Int) (s : State) : State × Msg :=
  let entry : RangeEntry := { base := base, exponent := exponent, p := p }
  answer 0x1A (setRangeRefusal slot base exponent p) s false
    (.u 1 slot :: rangeFields (some entry) ++ [.u 3 (base + 2 ^ exponent - 1)])
    (s.onProfiles fun t => t.setRange slot (some entry))

/-- The range test of a table and slot: ORIGINAL 0 with slots 0..47, RANGE 1 with slots 0..7 (R61, R62). -/
def okTableSlot (table slot : Nat) : Bool := (table == 0 && decide (slot ≤ 47)) || (table == 1 && decide (slot ≤ 7))

/-- What DROP PROFILE carries: the catalogue number, or the base and span exponent, or EMPTY (R61); the presence byte
that says EMPTY is the model's choice (assumption log entry 34). -/
def droppedFields (table slot : Nat) (t : ProfileTable) : List Field :=
  if table = 0 then optFields (fun e => [.u 3 e.cat]) (t.original? slot)
  else optFields (fun r => [.u 3 r.base, .u 1 r.exponent]) (t.range? slot)

/-- A slot made invalid (R61). -/
def dropSlot (table slot : Nat) (t : ProfileTable) : ProfileTable :=
  if table = 0 then t.setOriginal slot none else t.setRange slot none

/-- DROP PROFILE (R61). -/
def answerDropProfile (table slot : Nat) (s : State) : State × Msg :=
  answer 0x1B (firstFailing [(okTableSlot table slot, .range)]) s false (droppedFields table slot s.profiles)
    (s.onProfiles (dropSlot table slot))

/-- The pointer as it is carried: 0..47, or 63 for off (R55, R62). -/
def pointerField (pointer : Option Nat) : Field := .u 1 (pointer.getD Config.pointerOff)

/-- The pointer a SET PLACEMENT sets. -/
def pointerOf (slot : Nat) : Option Nat := if slot = Config.pointerOff then none else some slot

/-- SET PLACEMENT (R55). -/
def answerSetPlacement (slot : Nat) (s : State) : State × Msg :=
  answer 0x1C (firstFailing [(decide (slot ≤ 47) || slot == Config.pointerOff, .range)]) s false
    [pointerField (pointerOf slot)] (s.onProfiles fun t => { t with pointer := pointerOf slot })

/-- The slots of a page, each with its number (R62). -/
def pageOf {α : Type} (first count : Nat) (l : List α) : List (Nat × α) :=
  ((List.range l.length).zip l |>.drop first).take count

/-- READ PROFILE, table form (R62). -/
def answerReadProfileTable (table first : Nat) (s : State) : State × Msg :=
  answer 0x1D (firstFailing [(okTableSlot table first, .range)]) s false
    (pointerField s.profiles.pointer :: .u 1 first ::
      (if table = 0 then
        listFields (fun x => .u 1 x.1 :: originalFields x.2) (pageOf first 12 s.profiles.originals.toList)
      else listFields (fun x => .u 1 x.1 :: rangeFields x.2) (pageOf first 8 s.profiles.ranges.toList)))
    s

/-- The slot of a NOLEARN entry that a lookup passes over (R63). -/
def passedOver (t : ProfileTable) (x : Nat) : Option Nat :=
  match t.heldBy? x with
  | some k =>
    match t.original? k with
    | some e => if e.mode = .noLearn then some k else none
    | none => none
  | none => none

/-- What the lookup form gives (R63). -/
def lookupFields (t : ProfileTable) (x : Nat) : List Field :=
  (t.lookup x).source.fields ++ [.i 1 (t.lookup x).p] ++ optU 2 (t.lookup x).fixed ++ optU 1 (passedOver t x)

/-- READ PROFILE, lookup form (R63). -/
def answerReadProfileLookup (cat : Nat) (s : State) : State × Msg :=
  answer 0x1D (firstFailing [(okCat cat, .range)]) s false (lookupFields s.profiles cat) s

/-! ## Tray -/

/-- The result of one MAP TRAY entry (R68). -/
inductive TrayResult where
  | range | busy
  | duplicate (pos : Nat)
  | done
deriving DecidableEq, Repr

/-- A tray result as it is carried. -/
def TrayResult.fields : TrayResult → List Field
  | .range => [.u 1 0]
  | .busy => [.u 1 1]
  | .duplicate p => [.u 1 2, .u 1 p]
  | .done => [.u 1 3]

/-- The number an entry maps: none for 0, which stands for EMPTY (R68). -/
def mappedNumber (e : TrayReq) : Option Nat := if e.cat = 0 then none else some e.cat

/-- Another position that holds the number of an entry (R68). -/
def heldElsewhere (map : Vector (Option Nat) 80) (e : TrayReq) : Option Nat :=
  if e.cat = 0 then none
  else (List.range 80).find? fun p => p != e.pos && decide ((map[p]?).join = some e.cat)

/-- One MAP TRAY entry tested against the map as it stands (R68). -/
def trayResult (s : State) (e : TrayReq) : TrayResult :=
  if 79 < e.pos ∨ 16777215 < e.cat then .range
  else if isBusy s e.pos then .busy
  else
    match heldElsewhere s.feeder.map e with
    | some p => .duplicate p
    | none => .done

/-- One MAP TRAY entry taken (R68). -/
def mapEntry (e : TrayReq) (s : State) : State :=
  if trayResult s e = .done then s.onFeeder fun f => { f with map := f.map.setIfInBounds e.pos (mappedNumber e) } else s

/-- The entries of a MAP TRAY, one at a time, with their results (R68). -/
def mapEntries : List TrayReq → State → State × List TrayResult
  | [], s => (s, [])
  | e :: es, s =>
    let (s', rs) := mapEntries es (mapEntry e s)
    (s', trayResult s e :: rs)

/-- MAP TRAY (R68). -/
def answerMapTray (entries : List TrayReq) (s : State) : State × Msg :=
  answer 0x1E (firstFailing [(inNat 1 60 entries.length, .range), (s.feeder.present, .state)]) s false
    (listFields TrayResult.fields (mapEntries entries s).2)
    (eventEnd true s (releaseOriginal (mapEntries entries s).1))

/-- The feeder operation in flight: HOME, FEED, RETURN or none (R69). -/
def jobNumber : Option FeederOp → Nat
  | some o =>
    match o.job with
    | .home => 0
    | .feed _ _ => 1
    | .ret _ => 2
  | none => 3

/-- The busy position, when there is one (R67, R69); which of two is given is the model's choice (assumption log entry 35). -/
def busyPosition (s : State) : Option Nat :=
  match s.feeder.gate with
  | .holds p _ => some p
  | .empty => s.feeder.feedBusy.head?
  | .foreign => s.feeder.feedBusy.head?

/-- What READ TRAY gives (R69, R195); a position mapped to nothing is given as 0, as R68 writes EMPTY; the form of
the feeder position is the model's choice (assumption log entry 34). -/
def trayFields (s : State) (first : Nat) : List Field :=
  [presentField s.feeder.present] ++ optU 1 s.feeder.pos ++ s.feeder.gate.fields ++ [.u 1 (jobNumber s.feeder.op)]
    ++ optU 1 (busyPosition s) ++ [.u 1 first]
    ++ listFields (fun x => [.u 3 (x.getD 0)]) ((s.feeder.map.toList.drop first).take 40)

/-- READ TRAY (R69). -/
def answerReadTray (first : Nat) (s : State) : State × Msg :=
  answer 0x1F (firstFailing [(first == 0 || first == 40, .range)]) s false (trayFields s first) s

/-! ## Light head -/

/-- The milliseconds left of a warm-up: an open value within the warm-up's 1,500 ms (R77, R82; assumption log entry 4). -/
def warmUpLeft (s : State) : Option Nat :=
  if s.head.lamp = .warming then some (Config.freeValue s.freeIx % (Config.warmUpMs + 1)) else none

/-- The minutes left of the idle timer, rounded up: an open value within the minutes it was started with (R79, R82; assumption
log entry 4). -/
def idleLeft (s : State) : Option Nat := s.head.idle.map fun m => 1 + Config.freeValue (s.freeIx + 1) % max 1 m

/-- The last meter readings as they are carried (R80, R82), DENSE as 1 for set; the density kept with them is not (assumption log
entry 34). -/
def Readings.fields (r : Readings) : List Field :=
  [.u 2 r.centre, .u 2 r.upperLeft, .u 2 r.upperRight, .u 2 r.lowerLeft, .u 2 r.lowerRight, yesNo r.dense, .u 3 r.cat]

/-- What READ HEAD gives (R82); the two bytes of METER and ND SET in flight and the form of the ND position are the model's choice
(assumption log entry 34). -/
def headFields (s : State) : List Field :=
  [.u 1 s.head.lamp.number] ++ optU 2 (warmUpLeft s) ++ optU 1 (idleLeft s) ++ optU 1 s.head.nd
    ++ [yesNo s.head.meter.isSome, yesNo s.head.ndOp.isSome] ++ optFields Readings.fields s.head.readings

/-- READ HEAD (R82); the open values it reads are used up. -/
def answerReadHead (s : State) : State × Msg := answer 0x20 none s false (headFields s) s.useFree.useFree

end Sys2Proof.Machine
end

