-- ==== Sys2Proof/Machine/TallyRequests.lean ====
section
/-! DEFINITION. The answers to the requests on the tally unit (09_charges_and_tally_counters). -/

namespace Sys2Proof.Machine

/-- SET RATES (R169): the rates, then the release of every CEILING hold. -/
def answerSetRates (mount threshold surcharge : Nat) (s : State) : State × Msg :=
  answer 0x36 (firstFailing [(decide (mount ≤ 9999) && inNat 8 15 threshold && decide (surcharge ≤ 9999), .range)]) s false
    [.u 2 mount, .u 1 threshold, .u 2 surcharge]
    (eventEnd false s
      (releaseCeiling (s.onTally fun t => { t with mountRate := mount, rushClass := threshold, surcharge := surcharge })))

/-! ## SET COUNTER -/

/-- The level-crossed mark set anew (R179). -/
def crossedAnew (level : Option Nat) (total : Nat) : Bool := level.any fun l => decide (l ≤ total)

/-- A counter with the selected fields changed (R179). -/
def setCounter (q : CounterReq) (c : Counter) : Counter :=
  { enabled := pick q.mask 0 (q.enabled != 0) c.enabled, kinds := pick q.mask 1 (BitVec.ofNat 4 q.kinds) c.kinds,
    acctMatch := pick q.mask 2 (BitVec.ofNat 16 q.acctMatch) c.acctMatch,
    acctMask := pick q.mask 3 (BitVec.ofNat 16 q.acctMask) c.acctMask,
    stocks := pick q.mask 4 (BitVec.ofNat 4 q.stocks) c.stocks, ceiling := pick q.mask 5 q.ceiling c.ceiling,
    level := pick q.mask 6 q.level c.level, note := pick q.mask 7 q.note c.note, total := pick q.mask 8 q.total c.total,
    crossed :=
      if q.mask.getLsbD 6 || q.mask.getLsbD 8 then crossedAnew (pick q.mask 6 q.level c.level) (pick q.mask 8 q.total c.total)
      else c.crossed,
    locked := c.locked }

/-- No bit of the match is set where the mask is clear (R173). -/
def Counter.matchOk (c : Counter) : Bool := decide (c.acctMatch &&& ~~~c.acctMask = 0#16)

/-- The tests of SET COUNTER in order (R179). -/
def setCounterRefusal (q : CounterReq) (c : Counter) : Option Code :=
  firstFailing [(okCounter q, .range), ((setCounter q c).matchOk, .range), (!c.locked, .locked)]

/-- The ceiling is raised or removed (R179). -/
def ceilingEased (before after : Option Nat) : Bool :=
  match before, after with
  | some a, some b => decide (a < b)
  | some _, none => true
  | none, _ => false

/-- What makes an accepted SET COUNTER release the CEILING holds (R23, R179); a counter "has a ceiling" by what it holds
before the request (assumption log entry 22). -/
def counterReleases (before after : Counter) : Bool :=
  ceilingEased before.ceiling after.ceiling || decide (after.total < before.total)
    || (before.ceiling.isSome
        && ((before.enabled && !after.enabled) || before.kinds != after.kinds || before.acctMatch != after.acctMatch
            || before.acctMask != after.acctMask || before.stocks != after.stocks))

/-- An accepted SET COUNTER before the choice (R179). -/
def setCounterEffect (q : CounterReq) (s : State) : State :=
  let s' := s.onTally fun t => { t with counters := t.counters.setIfInBounds q.counter (setCounter q (counterAt t.counters q.counter)) }
  if counterReleases (counterAt s.tally.counters q.counter) (setCounter q (counterAt s.tally.counters q.counter)) then
    releaseCeiling s'
  else s'

/-- SET COUNTER (R179); that the acceptance begins with the counter number is the model's choice (assumption log entry 34). -/
def answerSetCounter (q : CounterReq) (s : State) : State × Msg :=
  answer 0x37 (setCounterRefusal q (counterAt s.tally.counters q.counter)) s false
    (.u 1 q.counter :: (setCounter q (counterAt s.tally.counters q.counter)).fields)
    (eventEnd false s (setCounterEffect q s))

/-! ## LOCK COUNTER, ADJUST ACCOUNT -/

/-- LOCK COUNTER (R180). -/
def answerLockCounter (k : Nat) (s : State) : State × Msg :=
  answer 0x38 (firstFailing [(decide (k ≤ 15), .range)]) s false [.u 1 k]
    (s.onTally fun t => { t with counters := t.counters.setIfInBounds k { counterAt t.counters k with locked := true } })

/-- The counters an ADJUST posting matched with their totals after it (R181). -/
def adjustedFields (account : Nat) (s after : State) : List Field :=
  listFields (fun k => [.u 1 k, .u 4 (counterAt after.tally.counters k).total])
    ((List.range 16).filter fun k => (counterAt s.tally.counters k).takes .adjust account none)

/-- ADJUST ACCOUNT (R181). -/
def answerAdjustAccount (account : Nat) (amount : Int) (s : State) : State × Msg :=
  answer 0x39 (firstFailing [(okAccount account && inInt (-99999) 99999 amount, .range)]) s false
    (adjustedFields account s (post .adjust account none amount s))
    (eventEnd false s (post .adjust account none amount s))

/-! ## CLOSE PERIOD, READ COUNTERS -/

/-- A counter after the period is closed: total 0, mark and lock cleared (R182, steps 2 and 3). -/
def Counter.closed (c : Counter) : Counter := { c with total := 0, crossed := false, locked := false }

/-- The event of CLOSE PERIOD before the choice (R182). -/
def closePeriodEffect (s : State) : State :=
  releaseCeiling
    (s.onTally fun t => { t with counters := mapVec Counter.closed t.counters, period := (t.period + 1) % 65536 })

/-- What CLOSE PERIOD reports of one counter (R182, step 1). -/
def Counter.periodFields (c : Counter) : List Field := [yesNo c.enabled, .u 4 c.total, yesNo c.crossed, yesNo c.locked]

/-- CLOSE PERIOD (R182). -/
def answerClosePeriod (s : State) : State × Msg :=
  answer 0x3A none s false
    (.u 2 s.tally.period :: s.tally.counters.toList.flatMap Counter.periodFields
      ++ [.u 2 ((s.tally.period + 1) % 65536)])
    (eventEnd false s (closePeriodEffect s))

/-- A page of at most 8 counters, each with its number (R184, R195). -/
def counterPage (s : State) (first : Nat) : List Field :=
  listFields (fun k => .u 1 k :: (counterAt s.tally.counters k).fields) (((List.range 16).drop first).take 8)

/-- READ COUNTERS (R184). -/
def answerReadCounters (first : Nat) (s : State) : State × Msg :=
  answer 0x3B (firstFailing [(decide (first ≤ 15), .range)]) s false
    (.u 2 s.tally.period :: s.tally.rateFields ++ [.u 1 first] ++ counterPage s first) s

end Sys2Proof.Machine
end

