-- ==== Sys2Proof/Machine/Desk.lean ====
section
/-! DEFINITION. The desk link: a request taken and answered, the receiver, the rejection slot, the outgoing line
(10_the_desk_link). -/

namespace Sys2Proof.Machine

/-! ## Requests -/

/-- A request taken by the block that owns its matter, as one event, with its reply (R191, R192). -/
def answerRequest (r : Request) (s : State) : State × Msg :=
  match r with
  | .placeOrder q => answerPlaceOrder q s
  | .amendOrder q => answerAmendOrder q s
  | .cancelOrder n => answerCancelOrder n s
  | .holdOrder n => answerHoldOrder n s
  | .releaseOrder n => answerReleaseOrder n s
  | .setFloor v => answerSetFloor v s
  | .readOrder n i => answerReadOrder n i s
  | .setStock q => answerSetStock q s
  | .readStock => answerReadStock s
  | .setProfile c m p f => answerSetProfile c m p f s
  | .setRange k b e p => answerSetRange k b e p s
  | .dropProfile t k => answerDropProfile t k s
  | .setPlacement k => answerSetPlacement k s
  | .readProfileTable t k => answerReadProfileTable t k s
  | .readProfileLookup c => answerReadProfileLookup c s
  | .mapTray es => answerMapTray es s
  | .readTray f => answerReadTray f s
  | .readHead => answerReadHead s
  | .loadRoll b r k f => answerLoadRoll b r k f s
  | .rewindBack b => answerRewindBack b s
  | .unloadBack b => answerUnloadBack b s
  | .clearBack b => answerClearBack b s
  | .readBack => answerReadBack s
  | .startStand => answerStartStand s
  | .stopStand => answerStopStand s
  | .abortSlide => answerAbortSlide s
  | .resetStand => answerResetStand s
  | .setStand q => answerSetStand q s
  | .readStand => answerReadStand s
  | .reportSelections r es => answerReportSelections r es s
  | .closeRoll r d => answerCloseRoll r d s
  | .readRoll r i => answerReadRoll r i s
  | .readFrames r i => answerReadFrames r i s
  | .printLabels c => answerPrintLabels c s
  | .pausePrinter => answerPausePrinter s
  | .resumePrinter => answerResumePrinter s
  | .relabel r f => answerRelabel r f s
  | .setDate d => answerSetDate d s
  | .readLabelsLine i => answerReadLabelsLine i s
  | .readLabelsRecord r f => answerReadLabelsRecord r f s
  | .setRates m t c => answerSetRates m t c s
  | .setCounter q => answerSetCounter q s
  | .lockCounter k => answerLockCounter k s
  | .adjustAccount a v => answerAdjustAccount a v s
  | .closePeriod => answerClosePeriod s
  | .readCounters k => answerReadCounters k s

/-- A reply is placed in the reply buffer (R191). -/
def placeReply (m : Msg) (s : State) : State := s.onLink fun l => { l with reply := some m }

/-- A checked request is taken: answered by its block, or refused FORMAT or RANGE before any block sees it (R191, R192). -/
def takeRequest (inc : Incoming) (s : State) : State :=
  match inc with
  | .read r => placeReply (answerRequest r s).2 (answerRequest r s).1
  | .refuse kind code => placeReply (refusedMsg kind code) s

/-! ## The rejection slot -/

/-- A rejection counted into a slot: one more, up to 255, its reason and kind kept (R190). -/
def Rejection.oneMore (r : Rejection) : Rejection := { r with count := min 255 (r.count + 1) }

/-- A rejection put into the slot, or counted into the one it holds (R190). -/
def Link.reject (l : Link) (reason : RejectReason) (kind : Byte) : Link :=
  { l with slot := some ((l.slot.map Rejection.oneMore).getD { reason := reason, kind := kind, count := 1 }) }

/-- A frame is rejected and the receiver is HUNTING again (R189, R190). -/
def rejectFrame (reason : RejectReason) (kind : Byte) (s : State) : State :=
  s.onLink fun l => { l.reject reason kind with rx := .hunting }

/-! ## The receiver -/

/-- A frame that has passed its tests: taken with the reply buffer empty, kept as the HELD request with a reply waiting
(R191). -/
def offerRequest (inc : Incoming) (s : State) : State :=
  let s' := s.onLink fun l => { l with rx := .hunting }
  if s.link.reply.isNone then takeRequest inc s' else s'.onLink fun l => { l with held := some inc }

/-- A whole and correct request frame arrives: rejected OVERRUN while the receiver is HELD and when it is the frame being counted
through, else offered (R191). -/
def arrive (r : Request) (s : State) : State :=
  if s.link.held.isSome ∨ s.link.rx = .counting then rejectFrame .overrun 0#8 s else offerRequest (.read r) s

/-- The body of an assigned kind is of a size R190 allows. -/
def sizeOk (least : Nat × Bool) (size : Nat) : Bool := if least.2 then size == least.1 else decide (least.1 ≤ size)

/-- A received frame tested in the order CHECK, KIND, LENGTH, and then offered (R190). -/
def testFrame (kind : Byte) (body : List Byte) (check : Byte) (s : State) : State :=
  if crc8 (frameCore kind body) ≠ check then rejectFrame .check 0#8 s
  else
    match bodySize kind.toNat with
    | none => rejectFrame .kind kind s
    | some least =>
      if sizeOk least body.length then offerRequest (readIncoming kind.toNat body) s else rejectFrame .length kind s

/-- What ends a frame is taken by what the receiver is doing: nothing while HUNTING; a frame counted through is rejected
OVERRUN (R189, R191). -/
def frameEnds (received : State → State) (s : State) : State :=
  match s.link.rx with
  | .hunting => s
  | .receiving => received s
  | .counting => rejectFrame .overrun 0#8 s

/-- A SYNC byte: in HUNTING it starts a frame, or an overrun frame while a request is HELD; inside a frame it is data (R187,
R189, R191). -/
def syncEvent (s : State) : State :=
  s.onLink fun l =>
    match l.rx with
    | .hunting => { l with rx := if l.held.isSome then .counting else .receiving }
    | .receiving => l
    | .counting => l

/-- A frame counted through ends (R191). -/
def overrunEndEvent (s : State) : State :=
  match s.link.rx with
  | .counting => rejectFrame .overrun 0#8 s
  | .hunting => s
  | .receiving => s

/-- A link break (R199). -/
def breakEvent (s : State) : State :=
  s.onLink fun l => { l with rx := .hunting, held := none, slot := none, notices := [], overrun := false }

/-! ## The outgoing line -/

/-- The HELD request is taken; a frame being counted through is counted on (R191). -/
def takeHeld (s : State) : State :=
  match s.link.held with
  | none => s
  | some inc => takeRequest inc (s.onLink fun l => { l with held := none })

/-- The last byte of the message being sent has gone: the line is free, and with a reply its buffer empties and the HELD
request is taken (R191, R197). -/
def finishSending (s : State) : State :=
  match s.link.sending with
  | none => s
  | some m =>
    match m.source with
    | .reply => takeHeld (s.onLink fun l => { l with sending := none, reply := none })
    | .rejection => s.onLink fun l => { l with sending := none }
    | .notice => s.onLink fun l => { l with sending := none }

/-- The message a free line sends next: the reply, then the FRAME REJECTED, then the head notice with the overrun mark
(R190, R197, R198). -/
def sendNext (s : State) : State :=
  s.onLink fun l =>
    match l.reply, l.slot, l.notices with
    | some m, _, _ => { l with sending := some { source := .reply, bytes := m.frame } }
    | none, some r, _ => { l with slot := none, sending := some { source := .rejection, bytes := r.msg.frame } }
    | none, none, n :: ns =>
      { l with notices := ns, overrun := false, sending := some { source := .notice, bytes := (n.msg l.overrun).frame } }
    | none, none, [] => l

/-- The outgoing line becomes free, or is free with a message ready (R197). -/
def lineFreeEvent (s : State) : State := sendNext (finishSending s)

/-- The HELD request is taken at the end of the reply being sent (R191); with no request HELD or no reply being sent nothing
happens. -/
def heldTakenEvent (s : State) : State :=
  match s.link.held, s.link.sending with
  | some _, some m => if m.source = .reply then finishSending s else s
  | _, _ => s

/-! ## Power-on -/

/-- The rate the straps select: 0 for both open to 3 for both tied (R200, section 8). -/
def strapRate (strap1Tied strap0Tied : Bool) : Nat := (if strap1Tied then 2 else 0) + (if strap0Tied then 1 else 0)

/-- Power-on: every block at its power-on values, with the straps and senses as they are found; the queue of commands and the
count of open values are the model's own and stay. -/
def powerOnEvent (strap1Tied strap0Tied traySense gateSense : Bool) (s : State) : State :=
  { State.initial (strapRate strap1Tied strap0Tied) traySense gateSense with pending := s.pending, freeIx := s.freeIx }

end Sys2Proof.Machine
end

