-- ==== Sys2Proof/Machine/DeskMeanings.lean ====
section
/-! DEFINITION. The meanings of the 46 desk requests, each as its whole arrival on the desk link (R191; assumption log entry 5): one definition per command. An event that
finds nothing to act on changes nothing (assumption log entry 3). -/

namespace Sys2Proof.Machine

/-- Desk request that tests and places a new order as PENDING, queues ORDER CHANGED and lets the choice run (R3). -/
def execPlaceOrder (q : PlaceReq) (s : State) : Host.Outcome State Fault Refusal := .next (arrive (.placeOrder q) s)

/-- Desk request that changes the mask-selected fields of a live order, releasing a CEILING hold when n or the account
code changes (R19). -/
def execAmendOrder (q : AmendReq) (s : State) : Host.Outcome State Fault Refusal := .next (arrive (.amendOrder q) s)

/-- Desk request that cancels an order at once, or sets its pending cancel mark while its cycle is in flight (R20). -/
def execCancelOrder (number : Nat) (s : State) : Host.Outcome State Fault Refusal := .next (arrive (.cancelOrder number) s)

/-- Desk request that holds an order with reason HOST at once, or sets its pending hold mark while its cycle is in
flight (R21). -/
def execHoldOrder (number : Nat) (s : State) : Host.Outcome State Fault Refusal := .next (arrive (.holdOrder number) s)

/-- Desk request that releases a HELD order to PENDING, or clears a pending hold mark (R22). -/
def execReleaseOrder (number : Nat) (s : State) : Host.Outcome State Fault Refusal := .next (arrive (.releaseOrder number) s)

/-- Desk request that sets the librarian's floor 0..15 and lets the choice run (R8). -/
def execSetFloor (floor : Nat) (s : State) : Host.Outcome State Fault Refusal := .next (arrive (.setFloor floor) s)

/-- Desk request that returns the work list summary, or one order record with a page of up to 4 slide entries (R25). -/
def execReadOrder (number : Nat) (first : Nat) (s : State) : Host.Outcome State Fault Refusal :=
  .next (arrive (.readOrder number first) s)

/-- Desk request that tests and sets one stock entry of the stock table (R29). -/
def execSetStock (q : StockReq) (s : State) : Host.Outcome State Fault Refusal := .next (arrive (.setStock q) s)

/-- Desk request that returns the four stock entries (R31). -/
def execReadStock (s : State) : Host.Outcome State Fault Refusal := .next (arrive .readStock s)

/-- Desk request that writes an original entry into the slot chosen by R52 and R53, or is refused FULL (R59). -/
def execSetProfile (cat : Nat) (mode : Nat) (p : Int) (fixed : Option Nat) (s : State) : Host.Outcome State Fault Refusal :=
  .next (arrive (.setProfile cat mode p fixed) s)

/-- Desk request that writes a range entry into a given slot (R60). -/
def execSetRange (slot : Nat) (base : Nat) (exponent : Nat) (p : Int) (s : State) : Host.Outcome State Fault Refusal :=
  .next (arrive (.setRange slot base exponent p) s)

/-- Desk request that makes an original or range slot invalid (R61). -/
def execDropProfile (table : Nat) (slot : Nat) (s : State) : Host.Outcome State Fault Refusal :=
  .next (arrive (.dropProfile table slot) s)

/-- Desk request that sets the placement pointer to a slot 0..47, or turns it off with 63 (R55). -/
def execSetPlacement (slot : Nat) (s : State) : Host.Outcome State Fault Refusal := .next (arrive (.setPlacement slot) s)

/-- Desk request in table form that returns one page of original or range entries with the placement pointer (R62). -/
def execReadProfileTable (table : Nat) (first : Nat) (s : State) : Host.Outcome State Fault Refusal :=
  .next (arrive (.readProfileTable table first) s)

/-- Desk request in lookup form that returns the lookup result for a catalogue number without marking any entry (R63).
-/
def execReadProfileLookup (cat : Nat) (s : State) : Host.Outcome State Fault Refusal :=
  .next (arrive (.readProfileLookup cat) s)

/-- Desk request that applies 1..60 position entries to the tray map, each with its own result, then releases ORIGINAL
holds (R68). -/
def execMapTray (entries : List TrayReq) (s : State) : Host.Outcome State Fault Refusal :=
  .next (arrive (.mapTray entries) s)

/-- Desk request that returns half the tray map with the feeder and gate state (R69). -/
def execReadTray (first : Nat) (s : State) : Host.Outcome State Fault Refusal := .next (arrive (.readTray first) s)

/-- Desk request that returns the lamp, idle timer, ND and last meter readings (R82). -/
def execReadHead (s : State) : Host.Outcome State Fault Refusal := .next (arrive .readHead s)

/-- Desk request that loads a roll record into an EMPTY back and starts its leader advances, or makes the back READY at
once (R92). -/
def execLoadRoll (back : Nat) (roll : Nat) (stock : Nat) (declared : Nat) (s : State) : Host.Outcome State Fault Refusal :=
  .next (arrive (.loadRoll back roll stock declared) s)

/-- Desk request that starts the rewind of a back and makes it REWINDING (R104). -/
def execRewindBack (back : Nat) (s : State) : Host.Outcome State Fault Refusal := .next (arrive (.rewindBack back) s)

/-- Desk request that moves a REWOUND back's roll record into the lowest free register slot (R106). -/
def execUnloadBack (back : Nat) (s : State) : Host.Outcome State Fault Refusal := .next (arrive (.unloadBack back) s)

/-- Desk request that moves a FAULT back's roll record into the register with unload kind CLEARED (R107). -/
def execClearBack (back : Nat) (s : State) : Host.Outcome State Fault Refusal := .next (arrive (.clearBack back) s)

/-- Desk request that returns both backs and the turret state (R108). -/
def execReadBack (s : State) : Host.Outcome State Fault Refusal := .next (arrive .readBack s)

/-- Desk request that makes a STOPPED stand RUNNING, asks for the start-up operations and lets the choice run (R111). -/
def execStartStand (s : State) : Host.Outcome State Fault Refusal := .next (arrive .startStand s)

/-- Desk request that stops the stand, or makes it STOPPING while a cycle is in flight (R112). -/
def execStopStand (s : State) : Host.Outcome State Fault Refusal := .next (arrive .stopStand s)

/-- Desk request that aborts the cycle in flight and makes the stand STOPPED (R114). -/
def execAbortSlide (s : State) : Host.Outcome State Fault Refusal := .next (arrive .abortSlide s)

/-- Desk request that aborts any cycle, empties the stack and makes the stand STOPPED with the lamp OFF (R115). -/
def execResetStand (s : State) : Host.Outcome State Fault Refusal := .next (arrive .resetStand s)

/-- Desk request that sets the mask-selected stand settings (R116). -/
def execSetStand (q : StandReq) (s : State) : Host.Outcome State Fault Refusal := .next (arrive (.setStand q) s)

/-- Desk request that returns the stand state, the settings and the cycle in flight (R127). -/
def execReadStand (s : State) : Host.Outcome State Fault Refusal := .next (arrive .readStand s)

/-- Desk request that applies 1..12 selection entries to a roll in the register, then runs the close test (R131). -/
def execReportSelections (roll : Nat) (entries : List SelectReq) (s : State) : Host.Outcome State Fault Refusal :=
  .next (arrive (.reportSelections roll entries) s)

/-- Desk request that settles the UNSELECTED groups of a register roll as LOST or ABANDON and closes the roll (R141). -/
def execCloseRoll (roll : Nat) (disposition : Nat) (s : State) : Host.Outcome State Fault Refusal :=
  .next (arrive (.closeRoll roll disposition) s)

/-- Desk request that returns the register summary, or one roll record with a page of up to 6 group records (R145). -/
def execReadRoll (roll : Nat) (first : Nat) (s : State) : Host.Outcome State Fault Refusal :=
  .next (arrive (.readRoll roll first) s)

/-- Desk request that returns a page of up to 16 frame records of a roll (R146). -/
def execReadFrames (roll : Nat) (first : Nat) (s : State) : Host.Outcome State Fault Refusal :=
  .next (arrive (.readFrames roll first) s)

/-- Desk request that starts an open or counted printing run (R161). -/
def execPrintLabels (count : Nat) (s : State) : Host.Outcome State Fault Refusal := .next (arrive (.printLabels count) s)

/-- Desk request that pauses the printer line, or sets pause pending while a token is awaited (R162). -/
def execPausePrinter (s : State) : Host.Outcome State Fault Refusal := .next (arrive .pausePrinter s)

/-- Desk request that resumes a STOPPED or PAUSED line and resends any head (R163). -/
def execResumePrinter (s : State) : Host.Outcome State Fault Refusal := .next (arrive .resumePrinter s)

/-- Desk request that returns a FAILED label to WAITING and runs the queue fill (R164). -/
def execRelabel (roll : Nat) (frame : Nat) (s : State) : Host.Outcome State Fault Refusal :=
  .next (arrive (.relabel roll frame) s)

/-- Desk request that sets the date code copied into later label records (R165). -/
def execSetDate (date : Nat) (s : State) : Host.Outcome State Fault Refusal := .next (arrive (.setDate date) s)

/-- Desk request in line form that returns the printer line state and a page of the label queue (R166). -/
def execReadLabelsLine (first : Nat) (s : State) : Host.Outcome State Fault Refusal :=
  .next (arrive (.readLabelsLine first) s)

/-- Desk request in record form that returns one label record and its label state (R167). -/
def execReadLabelsRecord (roll : Nat) (frame : Nat) (s : State) : Host.Outcome State Fault Refusal :=
  .next (arrive (.readLabelsRecord roll frame) s)

/-- Desk request that sets the mount rate, rush class threshold and rush surcharge, and releases CEILING holds (R169).
-/
def execSetRates (mount : Nat) (threshold : Nat) (surcharge : Nat) (s : State) : Host.Outcome State Fault Refusal :=
  .next (arrive (.setRates mount threshold surcharge) s)

/-- Desk request that changes the mask-selected fields of a tally counter that is not locked (R179). -/
def execSetCounter (q : CounterReq) (s : State) : Host.Outcome State Fault Refusal := .next (arrive (.setCounter q) s)

/-- Desk request that locks a counter until the period closes (R180). -/
def execLockCounter (counter : Nat) (s : State) : Host.Outcome State Fault Refusal := .next (arrive (.lockCounter counter) s)

/-- Desk request that makes an ADJUST posting to an account (R181). -/
def execAdjustAccount (account : Nat) (amount : Int) (s : State) : Host.Outcome State Fault Refusal :=
  .next (arrive (.adjustAccount account amount) s)

/-- Desk request that reports the totals, zeroes them, clears marks and locks, advances the period number and releases
CEILING holds (R182). -/
def execClosePeriod (s : State) : Host.Outcome State Fault Refusal := .next (arrive .closePeriod s)

/-- Desk request that returns the period number, the rates and a page of up to 8 counters (R184). -/
def execReadCounters (first : Nat) (s : State) : Host.Outcome State Fault Refusal := .next (arrive (.readCounters first) s)

end Sys2Proof.Machine
end

