-- ==== Sys2Proof/Machine/FeederMeanings.lean ====
section
/-! DEFINITION. The meanings of the events of the feeder, its tray and the gate: one definition per command. An event that
finds nothing to act on changes nothing (assumption log entry 3). -/

namespace Sys2Proof.Machine

/-- A waiting HOME, FEED or RETURN starts when the feeder operation in flight ends (R72). -/
def execFeederOpStart (s : State) : Host.Outcome State Fault Refusal := .next (eventEnd false s (startWaitingJob s))

/-- The home sense during a FEED's homing sets the position to 0 and the feed movement goes on (R74). -/
def execFeedHomeDone (s : State) : Host.Outcome State Fault Refusal := .next (homeSenseEvent s)

/-- The home sense completes HOME and sets the feeder position to 0 (R73). -/
def execHomeComplete (s : State) : Host.Outcome State Fault Refusal := .next (homeSenseEvent s)

/-- The gate-loaded sense completes a FEED, making the gate record HOLDS p, x (R74). -/
def execFeedComplete (s : State) : Host.Outcome State Fault Refusal := .next (eventEnd false s (gateLoadedEvent s))

/-- The gate-cleared sense completes a RETURN, emptying the gate and freeing the busy position (R75). -/
def execReturnComplete (s : State) : Host.Outcome State Fault Refusal := .next (eventEnd false s (gateClearedEvent s))

/-- Expiry of the feed timeout ends HOME, FEED or RETURN, sets the position UNKNOWN and reports FEED_TIMEOUT (R76). -/
def execFeederTimeout (s : State) : Host.Outcome State Fault Refusal := .next (eventEnd false s (feederTimeoutEvent s))

/-- Removal of the tray makes it ABSENT, empties the map and may halt the stand with TRAY_OUT (R70). -/
def execTrayOut (s : State) : Host.Outcome State Fault Refusal := .next (eventEnd false s (trayOutEvent s))

/-- The tray-present sense makes the tray PRESENT (R70). -/
def execTrayIn (s : State) : Host.Outcome State Fault Refusal := .next (eventEnd false s (trayInEvent s))

/-- A gate-loaded event outside a FEED makes the gate record FOREIGN (R71). -/
def execGateLoaded (s : State) : Host.Outcome State Fault Refusal := .next (eventEnd false s (gateLoadedEvent s))

/-- A gate-cleared event outside a RETURN empties the gate, unmaps a held original and may halt the stand with TRAY_OUT
(R71). -/
def execGateCleared (s : State) : Host.Outcome State Fault Refusal := .next (eventEnd false s (gateClearedEvent s))

end Sys2Proof.Machine
end

