-- ==== Sys2Proof/Machine/FilmMeanings.lean ====
section
/-! DEFINITION. The meanings of the events of the film backs and the turret: one definition per command. An event that
finds nothing to act on changes nothing (assumption log entry 3). -/

namespace Sys2Proof.Machine

/-- A waiting ADVANCE of a back starts when the back's ADVANCE in flight ends (R94). -/
def execAdvanceStart (back : BackId) (s : State) : Host.Outcome State Fault Refusal := .next (startWaitingAdvance back s)

/-- The eighth perforation pulse completes an ADVANCE, making the gate frame FRESH and possibly the back FULL or READY
(R95). -/
def execAdvanceComplete (back : BackId) (s : State) : Host.Outcome State Fault Refusal :=
  .next (eventEnd false s (advanceCompleteEvent back s))

/-- An ADVANCE not completed within the advance timeout makes its back FAULT (R96). -/
def execAdvanceTimeout (back : BackId) (s : State) : Host.Outcome State Fault Refusal :=
  .next (eventEnd false s (advanceTimeoutEvent back s))

/-- The film-end tension sense during an ADVANCE stops it and makes the back ENDED (R97). -/
def execFilmEnd (back : BackId) (s : State) : Host.Outcome State Fault Refusal :=
  .next (eventEnd false s (filmEndEvent back s))

/-- A waiting SWAP starts, turning the turret, once nothing it waits on is in flight (R102). -/
def execSwapStart (s : State) : Host.Outcome State Fault Refusal := .next (startWaitingSwap s)

/-- The turret position sense reports the target and completes the SWAP (R102). -/
def execSwapComplete (s : State) : Host.Outcome State Fault Refusal := .next (swapCompleteEvent s)

/-- A SWAP not completed within 3,000 ms sets the turret UNKNOWN and reports SWAP_TIMEOUT (R103). -/
def execSwapTimeout (s : State) : Host.Outcome State Fault Refusal := .next (eventEnd false s (swapTimeoutEvent s))

/-- The rewind-complete sense stops the drive and makes the back REWOUND (R105). -/
def execRewindComplete (back : BackId) (s : State) : Host.Outcome State Fault Refusal := .next (rewindCompleteEvent back s)

/-- A rewind not completed within 60,000 ms makes the back FAULT with REWIND_TIMEOUT (R105). -/
def execRewindTimeout (back : BackId) (s : State) : Host.Outcome State Fault Refusal := .next (rewindTimeoutEvent back s)

end Sys2Proof.Machine
end

