-- ==== Sys2Proof/Machine/HeadMeanings.lean ====
section
/-! DEFINITION. The meanings of the events of the light head: one definition per command. An event that
finds nothing to act on changes nothing (assumption log entry 3). -/

namespace Sys2Proof.Machine

/-- The 1,500 ms warm-up expires, and the lamp becomes READY or FAILED by the lamp-current sense (R77). -/
def execWarmUpEnd (lampSense : Bool) (s : State) : Host.Outcome State Fault Refusal :=
  .next (eventEnd false s (warmUpEvent lampSense s))

/-- Loss of the lamp-current sense while the lamp is on makes it FAILED and reports LAMP_FAIL (R78). -/
def execLampFailure (s : State) : Host.Outcome State Fault Refusal := .next (eventEnd false s (lampFailureEvent s))

/-- Expiry of the lamp idle timer switches the lamp off (R79). -/
def execIdleTimerExpiry (s : State) : Host.Outcome State Fault Refusal := .next (eventEnd false s (idleExpiryEvent s))

/-- All five meter readings arrive and are stored and handed to the exposure computer (R80). -/
def execMeterComplete (centre : Nat) (upperLeft : Nat) (upperRight : Nat) (lowerLeft : Nat) (lowerRight : Nat) (s : State) : Host.Outcome State Fault Refusal :=
  .next (meterEvent (fun cat => takeReadings cat centre upperLeft upperRight lowerLeft lowerRight) s)

/-- Five readings not received within 500 ms end METER and report METER_TIMEOUT (R80). -/
def execMeterTimeout (s : State) : Host.Outcome State Fault Refusal := .next (eventEnd false s (meterTimeoutEvent s))

/-- A waiting ND SET starts when the ND SET in flight ends (R81). -/
def execNdSetStart (s : State) : Host.Outcome State Fault Refusal := .next (startWaitingNd s)

/-- The slider position sense reports the asked position and completes ND SET (R81). -/
def execNdSetComplete (s : State) : Host.Outcome State Fault Refusal := .next (ndCompleteEvent s)

/-- An ND SET not completed within 1,000 ms sets the ND position UNKNOWN and reports ND_TIMEOUT (R81). -/
def execNdTimeout (s : State) : Host.Outcome State Fault Refusal := .next (eventEnd false s (ndTimeoutEvent s))

end Sys2Proof.Machine
end

