-- ==== Sys2Proof/Machine/LinkMeanings.lean ====
section
/-! DEFINITION. The meanings of power-on and the events of the desk link: one definition per command. An event that
finds nothing to act on changes nothing (assumption log entry 3). -/

namespace Sys2Proof.Machine

/-- Power-on sets every block to its initial state, reads the straps and queues STAND READY (R200). -/
def execPowerOn (strap1Tied : Bool) (strap0Tied : Bool) (traySense : Bool) (gateSense : Bool) (s : State) : Host.Outcome State Fault Refusal :=
  .next (powerOnEvent strap1Tied strap0Tied traySense gateSense s)

/-- A received desk link frame ends at its CHECK byte, is tested for CHECK, KIND and LENGTH, and is rejected, held or
taken (R190). -/
def execFrameEnd (kind : Byte) (body : List Byte) (check : Byte) (s : State) : Host.Outcome State Fault Refusal :=
  .next (frameEnds (testFrame kind body check) s)

/-- A LENGTH byte of 0 or above 250 ends the frame at once with rejection LENGTH (R189). -/
def execBadLengthByte (s : State) : Host.Outcome State Fault Refusal := .next (frameEnds (rejectFrame .length 0#8) s)

/-- Expiry of the 50 ms gap timer discards a partial frame with rejection GAP (R189). -/
def execGapTimeout (kind : Option Byte) (s : State) : Host.Outcome State Fault Refusal :=
  .next (frameEnds (rejectFrame .gap (kind.getD 0#8)) s)

/-- A HELD request is taken when the last byte of the waiting reply has been sent (R191). -/
def execHeldRequestTaken (s : State) : Host.Outcome State Fault Refusal := .next (heldTakenEvent s)

/-- A frame counted through while a request is HELD ends and is rejected OVERRUN (R191). -/
def execOverrunFrameEnd (s : State) : Host.Outcome State Fault Refusal := .next (overrunEndEvent s)

/-- The incoming line held at space for 20 ms discards the partial frame, any held request, the rejection slot and the
notice queue (R199). -/
def execLinkBreak (s : State) : Host.Outcome State Fault Refusal := .next (breakEvent s)

/-- When the outgoing line is free, the next message is chosen and sent: the reply, then the rejection, then the head
notice (R197). -/
def execLineFreeSend (s : State) : Host.Outcome State Fault Refusal := .next (lineFreeEvent s)

/-- A SYNC byte A5h received in HUNTING starts a frame, making the receiver RECEIVING and starting the 50 ms gap timer,
or, received while HELD, starts an overrun frame to be counted through (R189). -/
def execSyncReceived (s : State) : Host.Outcome State Fault Refusal := .next (syncEvent s)

end Sys2Proof.Machine
end

