-- ==== Sys2Proof/Machine/PrinterMeanings.lean ====
section
/-! DEFINITION. The meanings of the events of the printer line: one definition per command. An event that
finds nothing to act on changes nothing (assumption log entry 3). -/

namespace Sys2Proof.Machine

/-- A PRINTED token, 50h, completes the head, makes the MOUNT posting, runs the fill and sends the next label (R153, R156). -/
def execPrintedToken (s : State) : Host.Outcome State Fault Refusal := .next (printerByteEvent 0x50#8 s)

/-- A JAMMED token, 4Ah, stops the line with the head kept (R153, R157). -/
def execJammedToken (s : State) : Host.Outcome State Fault Refusal := .next (printerByteEvent 0x4A#8 s)

/-- An OUT_OF_LABELS token, 45h, stops the line with the head kept (R153, R157). -/
def execOutOfLabelsToken (s : State) : Host.Outcome State Fault Refusal := .next (printerByteEvent 0x45#8 s)

/-- A FORMAT_ERROR token, 46h, fails the head label and lets the next label be sent (R153, R158). -/
def execFormatErrorToken (s : State) : Host.Outcome State Fault Refusal := .next (printerByteEvent 0x46#8 s)

/-- Expiry of the token wait sets the timed-out mark and stops the line with NO_TOKEN, or pauses it (R159). -/
def execTokenTimeout (s : State) : Host.Outcome State Fault Refusal := .next (tokenTimeoutEvent s)

/-- A byte on the printer line: one that is no token is discarded, and a token byte would be taken as its token (R153). -/
def execUnknownPrinterByte (byte : Byte) (s : State) : Host.Outcome State Fault Refusal := .next (printerByteEvent byte s)

/-- The last byte of a label frame is sent and the token wait starts (R155). -/
def execLabelFrameSent (s : State) : Host.Outcome State Fault Refusal := .next (labelSentEvent s)

end Sys2Proof.Machine
end

