-- ==== Sys2Proof/Machine/ShutterMeanings.lean ====
section
/-! DEFINITION. The meanings of the events of the shutter: one definition per command. An event that
finds nothing to act on changes nothing (assumption log entry 3). -/

namespace Sys2Proof.Machine

/-- The shutter opens for the step's ticks once every exposure condition holds (R120). -/
def execExposeStart (s : State) : Host.Outcome State Fault Refusal := .next (exposeStartEvent s)

/-- The step's ticks run out and the sequencer commands the shutter closed (R120). -/
def execShutterTicksEnd (s : State) : Host.Outcome State Fault Refusal := .next (ticksEndEvent s)

/-- The shutter-closed sense after the close command completes the exposure: FRAME posting, frame record, and next
advance or finish (R121). -/
def execExposeComplete (s : State) : Host.Outcome State Fault Refusal := .next (eventEnd false s (shutterClosedEvent s))

/-- No shutter-closed sense within the ticks plus 200 ms is taken as SHUTTER_FAULT (R121). -/
def execExposeTimeout (s : State) : Host.Outcome State Fault Refusal := .next (eventEnd false s (exposeTimeoutEvent s))

/-- A shutter-closed sense before the close command is taken as SHUTTER_FAULT (R121). -/
def execShutterEarlyClose (s : State) : Host.Outcome State Fault Refusal := .next (eventEnd false s (shutterClosedEvent s))

end Sys2Proof.Machine
end

