-- ==== Sys2Proof/Machine/Dispatch.lean ====
section
/-! DEFINITION. One arm per command. -/

namespace Sys2Proof.Machine

def exec (i : Instr) (s : State) : Host.Outcome State Fault Refusal :=
  match i with
  | .placeOrder q => Sys2Proof.Machine.execPlaceOrder q s
  | .amendOrder q => Sys2Proof.Machine.execAmendOrder q s
  | .cancelOrder number => Sys2Proof.Machine.execCancelOrder number s
  | .holdOrder number => Sys2Proof.Machine.execHoldOrder number s
  | .releaseOrder number => Sys2Proof.Machine.execReleaseOrder number s
  | .setFloor floor => Sys2Proof.Machine.execSetFloor floor s
  | .readOrder number first => Sys2Proof.Machine.execReadOrder number first s
  | .setStock q => Sys2Proof.Machine.execSetStock q s
  | .readStock => Sys2Proof.Machine.execReadStock s
  | .setProfile cat mode p fixed => Sys2Proof.Machine.execSetProfile cat mode p fixed s
  | .setRange slot base exponent p => Sys2Proof.Machine.execSetRange slot base exponent p s
  | .dropProfile table slot => Sys2Proof.Machine.execDropProfile table slot s
  | .setPlacement slot => Sys2Proof.Machine.execSetPlacement slot s
  | .readProfileTable table first => Sys2Proof.Machine.execReadProfileTable table first s
  | .readProfileLookup cat => Sys2Proof.Machine.execReadProfileLookup cat s
  | .mapTray entries => Sys2Proof.Machine.execMapTray entries s
  | .readTray first => Sys2Proof.Machine.execReadTray first s
  | .readHead => Sys2Proof.Machine.execReadHead s
  | .loadRoll back roll stock declared => Sys2Proof.Machine.execLoadRoll back roll stock declared s
  | .rewindBack back => Sys2Proof.Machine.execRewindBack back s
  | .unloadBack back => Sys2Proof.Machine.execUnloadBack back s
  | .clearBack back => Sys2Proof.Machine.execClearBack back s
  | .readBack => Sys2Proof.Machine.execReadBack s
  | .startStand => Sys2Proof.Machine.execStartStand s
  | .stopStand => Sys2Proof.Machine.execStopStand s
  | .abortSlide => Sys2Proof.Machine.execAbortSlide s
  | .resetStand => Sys2Proof.Machine.execResetStand s
  | .setStand q => Sys2Proof.Machine.execSetStand q s
  | .readStand => Sys2Proof.Machine.execReadStand s
  | .reportSelections roll entries => Sys2Proof.Machine.execReportSelections roll entries s
  | .closeRoll roll disposition => Sys2Proof.Machine.execCloseRoll roll disposition s
  | .readRoll roll first => Sys2Proof.Machine.execReadRoll roll first s
  | .readFrames roll first => Sys2Proof.Machine.execReadFrames roll first s
  | .printLabels count => Sys2Proof.Machine.execPrintLabels count s
  | .pausePrinter => Sys2Proof.Machine.execPausePrinter s
  | .resumePrinter => Sys2Proof.Machine.execResumePrinter s
  | .relabel roll frame => Sys2Proof.Machine.execRelabel roll frame s
  | .setDate date => Sys2Proof.Machine.execSetDate date s
  | .readLabelsLine first => Sys2Proof.Machine.execReadLabelsLine first s
  | .readLabelsRecord roll frame => Sys2Proof.Machine.execReadLabelsRecord roll frame s
  | .setRates mount threshold surcharge => Sys2Proof.Machine.execSetRates mount threshold surcharge s
  | .setCounter q => Sys2Proof.Machine.execSetCounter q s
  | .lockCounter counter => Sys2Proof.Machine.execLockCounter counter s
  | .adjustAccount account amount => Sys2Proof.Machine.execAdjustAccount account amount s
  | .closePeriod => Sys2Proof.Machine.execClosePeriod s
  | .readCounters first => Sys2Proof.Machine.execReadCounters first s
  | .powerOn strap1Tied strap0Tied traySense gateSense => Sys2Proof.Machine.execPowerOn strap1Tied strap0Tied traySense gateSense s
  | .frameEnd kind body check => Sys2Proof.Machine.execFrameEnd kind body check s
  | .badLengthByte => Sys2Proof.Machine.execBadLengthByte s
  | .gapTimeout kind => Sys2Proof.Machine.execGapTimeout kind s
  | .heldRequestTaken => Sys2Proof.Machine.execHeldRequestTaken s
  | .overrunFrameEnd => Sys2Proof.Machine.execOverrunFrameEnd s
  | .linkBreak => Sys2Proof.Machine.execLinkBreak s
  | .lineFreeSend => Sys2Proof.Machine.execLineFreeSend s
  | .feederOpStart => Sys2Proof.Machine.execFeederOpStart s
  | .feedHomeDone => Sys2Proof.Machine.execFeedHomeDone s
  | .homeComplete => Sys2Proof.Machine.execHomeComplete s
  | .feedComplete => Sys2Proof.Machine.execFeedComplete s
  | .returnComplete => Sys2Proof.Machine.execReturnComplete s
  | .feederTimeout => Sys2Proof.Machine.execFeederTimeout s
  | .trayOut => Sys2Proof.Machine.execTrayOut s
  | .trayIn => Sys2Proof.Machine.execTrayIn s
  | .gateLoaded => Sys2Proof.Machine.execGateLoaded s
  | .gateCleared => Sys2Proof.Machine.execGateCleared s
  | .warmUpEnd lampSense => Sys2Proof.Machine.execWarmUpEnd lampSense s
  | .lampFailure => Sys2Proof.Machine.execLampFailure s
  | .idleTimerExpiry => Sys2Proof.Machine.execIdleTimerExpiry s
  | .meterComplete centre upperLeft upperRight lowerLeft lowerRight => Sys2Proof.Machine.execMeterComplete centre upperLeft upperRight lowerLeft lowerRight s
  | .meterTimeout => Sys2Proof.Machine.execMeterTimeout s
  | .ndSetStart => Sys2Proof.Machine.execNdSetStart s
  | .ndSetComplete => Sys2Proof.Machine.execNdSetComplete s
  | .ndTimeout => Sys2Proof.Machine.execNdTimeout s
  | .advanceStart back => Sys2Proof.Machine.execAdvanceStart back s
  | .advanceComplete back => Sys2Proof.Machine.execAdvanceComplete back s
  | .advanceTimeout back => Sys2Proof.Machine.execAdvanceTimeout back s
  | .filmEnd back => Sys2Proof.Machine.execFilmEnd back s
  | .swapStart => Sys2Proof.Machine.execSwapStart s
  | .swapComplete => Sys2Proof.Machine.execSwapComplete s
  | .swapTimeout => Sys2Proof.Machine.execSwapTimeout s
  | .rewindComplete back => Sys2Proof.Machine.execRewindComplete back s
  | .rewindTimeout back => Sys2Proof.Machine.execRewindTimeout back s
  | .exposeStart => Sys2Proof.Machine.execExposeStart s
  | .shutterTicksEnd => Sys2Proof.Machine.execShutterTicksEnd s
  | .exposeComplete => Sys2Proof.Machine.execExposeComplete s
  | .exposeTimeout => Sys2Proof.Machine.execExposeTimeout s
  | .shutterEarlyClose => Sys2Proof.Machine.execShutterEarlyClose s
  | .printedToken => Sys2Proof.Machine.execPrintedToken s
  | .jammedToken => Sys2Proof.Machine.execJammedToken s
  | .outOfLabelsToken => Sys2Proof.Machine.execOutOfLabelsToken s
  | .formatErrorToken => Sys2Proof.Machine.execFormatErrorToken s
  | .tokenTimeout => Sys2Proof.Machine.execTokenTimeout s
  | .unknownPrinterByte byte => Sys2Proof.Machine.execUnknownPrinterByte byte s
  | .labelFrameSent => Sys2Proof.Machine.execLabelFrameSent s
  | .syncReceived => Sys2Proof.Machine.execSyncReceived s

end Sys2Proof.Machine
end

