-- ==== Sys2Proof/Safety.lean ====
section
/-! DEFINITION. The terms statements are made in: when a request is taken at once, when no choice can run, and what each
block's state must look like for the part to be sound (the invariants of the rules). -/

namespace Sys2Proof.Machine

/-! ## When a request is taken, and when nothing follows it -/

/-- The reply buffer is empty, no request is HELD and no frame is being counted through: the next request is taken at the end
of its frame (R191). -/
abbrev LinkFree (s : State) : Prop := s.link.reply = none ∧ s.link.held = none ∧ s.link.rx ≠ .counting

/-- No choice can run: the stand is not RUNNING, or a cycle is in flight (R10). -/
abbrev Quiet (s : State) : Prop := s.stand.mode ≠ .running ∨ s.stand.cycle.isSome = true

/-- The state with the receiver HUNTING, as the end of a frame leaves it (R190, R191). -/
def hunting (s : State) : State := { s with link := { s.link with rx := .hunting } }

/-- A whole request frame taken and answered: the receiver HUNTING, the effect made, the reply in its buffer (R191, R192). -/
def replied (m : Msg) (effect : State → State) (s : State) : State := placeReply m (effect (hunting s))

/-- A whole request frame refused: nothing but the receiver and the reply buffer is touched (R192). -/
def refusedWith (kind : Nat) (code : Code) (s : State) : State := replied (refusedMsg kind code) id s

/-- A frame rejected with a reason and kind: the receiver HUNTING, the slot filled, or its count raised up to 255 with the
first reason and kind kept (R190). -/
def rejectedWith (reason : RejectReason) (kind : Byte) (s : State) : State :=
  { s with link :=
      { s.link with
        rx := .hunting,
        slot := some (match s.link.slot with
          | none => { reason := reason, kind := kind, count := 1 }
          | some r => { reason := r.reason, kind := r.kind, count := min 255 (r.count + 1) }) } }

/-- A halt of a stand with no cycle in flight: HALTED for the reason, the idle timer stopped, one STAND CHANGED (R110, R113). -/
def haltedWith (reason : HaltReason) (s : State) : State :=
  queueNotice (.standChanged (.halted reason) s.head.lamp s.feeder.present)
    { s with stand := { s.stand with mode := .halted reason }, head := { s.head with idle := none } }

/-- The stand is at work: a halt report halts it (R113). -/
abbrev AtWork (s : State) : Prop := s.stand.mode = .running ∨ s.stand.mode = .stopping

/-! ## Work list -/

/-- The numbers of the live orders are all different (R1). -/
abbrev NumbersDistinct (s : State) : Prop := (s.work.orders.map fun o => o.number).Nodup

/-- The class of a live order by its number, 0 where there is none. -/
def classOf (s : State) (number : Nat) : Nat := ((s.order? number).map fun o => o.cls).getD 0

/-- The work list is sound: at most 24 live orders with different numbers (R1), listed by placement sequence, the oldest first
(R4, R5), a stack of at most 4 live orders whose classes rise strictly from the bottom to the top (R9), a floor of 0..15 (R8) and
a counter of 32 bits (R4). -/
abbrev WorkSound (s : State) : Prop :=
  NumbersDistinct s ∧ s.work.orders.length ≤ 24 ∧ (s.work.orders.Pairwise fun older younger => older.seq ≤ younger.seq)
    ∧ s.work.stack.length ≤ 4
    ∧ (∀ k ∈ s.work.stack, (s.order? k).isSome = true)
    ∧ (s.work.stack.Pairwise fun upper lower => classOf s lower < classOf s upper)
    ∧ s.work.floor ≤ 15 ∧ s.work.placeSeq < 4294967296

/-- The states of the orders agree with the stack (R1, R9): the top is ACTIVE, or FILLING with the former state ACTIVE; those below
it are PREEMPTED, or FILLING with the former state PREEMPTED; an order in no place of the stack is neither ACTIVE nor PREEMPTED, and
FILLING with the former state PENDING alone. -/
abbrev ServiceSound (s : State) : Prop :=
  (∀ k ∈ s.work.stack.head?, ∀ o ∈ s.order? k, o.state = .active ∨ (o.state = .filling ∧ o.former = some .active))
    ∧ (∀ k ∈ s.work.stack.tail, ∀ o ∈ s.order? k, o.state = .preempted ∨ (o.state = .filling ∧ o.former = some .preempted))
    ∧ (∀ o ∈ s.work.orders, o.number ∉ s.work.stack →
        o.state ≠ .active ∧ o.state ≠ .preempted ∧ (o.state = .filling → o.former = some .pending))

/-! ## Profile table -/

/-- A valid original entry is within the ranges of R48: a correction of −24..+24, 0 in a NOLEARN entry (R54), at most 255
uses, a fixed density of 0..400 in a MANUAL entry only. -/
abbrev OriginalEntry.sound (e : OriginalEntry) : Prop :=
  (-24 ≤ e.p ∧ e.p ≤ 24) ∧ (e.mode = .noLearn → e.p = 0) ∧ e.uses ≤ 255
    ∧ (∀ d ∈ e.fixed, e.mode = .manual ∧ d ≤ 400)

/-- A valid range entry is within the ranges of R49. -/
abbrev RangeEntry.sound (r : RangeEntry) : Prop :=
  r.base ≤ 16777215 ∧ 4 ≤ r.exponent ∧ r.exponent ≤ 12 ∧ r.base % 2 ^ r.exponent = 0 ∧ -24 ≤ r.p ∧ r.p ≤ 24

/-- The profile table is sound: every entry within its ranges, a pointer of 0..47 or off (R55), and no catalogue number in
two slots (R48). -/
abbrev ProfilesSound (s : State) : Prop :=
  (∀ k < 48, ∀ e ∈ s.profiles.original? k, e.sound) ∧ (∀ k < 8, ∀ r ∈ s.profiles.range? k, r.sound)
    ∧ (∀ k ∈ s.profiles.pointer, k < 48)
    ∧ (∀ j < 48, ∀ k < 48, ∀ x ∈ s.profiles.original? j, ∀ y ∈ s.profiles.original? k, x.cat = y.cat → j = k)

/-! ## Tray and gate -/

/-- What the tray map holds at a position. -/
def State.mapAt (s : State) (pos : Nat) : Option Nat := (s.feeder.map[pos]?).join

/-- The tray and the gate are sound: the gate record is EMPTY just when the gate-loaded sense is off (R67), the map holds
catalogue numbers, each at most once (R66), and none while the tray is ABSENT (R70). -/
abbrev FeederSound (s : State) : Prop :=
  (s.feeder.gate = .empty ↔ s.feeder.gateSense = false)
    ∧ (∀ p < 80, ∀ x ∈ s.mapAt p, 1 ≤ x ∧ x ≤ 16777215)
    ∧ (∀ p < 80, ∀ q < 80, ∀ x ∈ s.mapAt p, ∀ y ∈ s.mapAt q, x = y → p = q)
    ∧ (s.feeder.present = false → ∀ p < 80, s.mapAt p = none)

/-! ## Rolls -/

/-- The frame log of a roll record is in rising order of frame numbers, all from 1 up and below the next frame number
(R86, R90). -/
abbrev Roll.sound (r : Roll) : Prop :=
  1 ≤ r.next ∧ (∀ f ∈ r.frames, 1 ≤ f.number ∧ f.number < r.next)
    ∧ (r.frames.map fun f => f.number).Pairwise fun a b => a < b

/-- The roll records are sound: every frame log is, no two live records share a roll id (R86), and a back holds a roll record
in every state but EMPTY (R84). -/
abbrev RollsSound (s : State) : Prop :=
  (∀ r ∈ s.allRolls, r.sound) ∧ (s.allRolls.map fun r => r.id).Nodup
    ∧ (s.film.backA.state = .empty ↔ s.film.backA.roll = none) ∧ (s.film.backB.state = .empty ↔ s.film.backB.roll = none)

/-- The group list and frame log of a roll record agree with its next frame number (R90): it is at most F + 1, the groups rise
strictly in their first frames, none above it, and a frame belongs to a group at or below its own number. -/
abbrev Roll.logSound (r : Roll) : Prop :=
  r.next ≤ r.declared + 1 ∧ ((r.groups.map fun g => g.first).Pairwise fun a b => a < b)
    ∧ (∀ g ∈ r.groups, 1 ≤ g.first ∧ g.first ≤ r.next) ∧ (∀ f ∈ r.frames, f.group ≤ f.number)

/-- The cycle in flight is sound (R117): its bracket has a frame, its cause is absent but in ENDING, no group is open before its
plan, and its back holds a roll that is not being rewound, whose next frame number the group's first frame does not exceed. -/
abbrev CycleSound (s : State) (c : Cycle) : Prop :=
  1 ≤ c.n ∧ (c.cause ≠ none ↔ c.phase = .ending) ∧ (c.phase = .loading ∨ c.phase = .metering → c.groupFirst = none)
    ∧ (s.back c.back).state ≠ .empty ∧ (s.back c.back).state ≠ .rewinding ∧ (s.back c.back).state ≠ .rewound
    ∧ ∃ r, (s.back c.back).roll = some r ∧ ∀ first ∈ c.groupFirst, first ≤ r.next

/-- The film log is sound: every roll record's log is; a bracket has a frame; an EXPOSE in flight is that of an EXPOSING cycle on a
READY back with a frame left (R99); a METER of a cycle is that of a METERING one; and a group that still holds no frame number is
INCOMPLETE, or the open group of the EXPOSING cycle (R90). -/
abbrev FilmLogSound (s : State) : Prop :=
  (∀ r ∈ s.allRolls, r.logSound) ∧ (∀ o ∈ s.work.orders, 1 ≤ o.n) ∧ (∀ c ∈ s.stand.cycle, CycleSound s c)
    ∧ (s.stand.expose ≠ none → ∃ c, s.stand.cycle = some c ∧ c.phase = .exposing ∧ (s.back c.back).state = .ready
        ∧ ∃ r, (s.back c.back).roll = some r ∧ r.next ≤ r.declared)
    ∧ (∀ m ∈ s.head.meter, m.ofCycle = true → ∃ c, s.stand.cycle = some c ∧ c.phase = .metering)
    ∧ (∀ r ∈ s.allRolls, ∀ g ∈ r.groups, g.first = r.next → g.completeness = .incomplete
        ∨ ∃ c, s.stand.cycle = some c ∧ c.phase = .exposing ∧ (s.back c.back).roll = some r ∧ c.groupFirst = some g.first
            ∧ g.completeness = .opened ∧ g.exposed < g.n)

/-! ## Counters, settings, labels -/

/-- A tally counter is within the ranges of R173, and its match has no bit set where its mask has it clear. -/
abbrev Counter.sound (c : Counter) : Prop :=
  c.total ≤ Config.maxTotal ∧ c.note ≤ Config.maxTotal ∧ (∀ v ∈ c.ceiling, v ≤ Config.maxTotal)
    ∧ (∀ v ∈ c.level, v ≤ Config.maxTotal) ∧ c.acctMatch &&& ~~~c.acctMask = 0#16

/-- The tally unit is sound: counters, rates (R169) and period number (R183) within their ranges. -/
abbrev TallySound (s : State) : Prop :=
  (∀ k < 16, (counterAt s.tally.counters k).sound) ∧ s.tally.mountRate ≤ 9999 ∧ 8 ≤ s.tally.rushClass
    ∧ s.tally.rushClass ≤ 15 ∧ s.tally.surcharge ≤ 9999 ∧ s.tally.period ≤ 65535

/-- The stand settings are within their ranges (R116), the label queue holds at most 32 labels (R150), the date code fits its
two bytes (R165). -/
abbrev SettingsSound (s : State) : Prop :=
  (1000 ≤ s.stand.settings.feedLimit ∧ s.stand.settings.feedLimit ≤ 20000)
    ∧ (500 ≤ s.stand.settings.advanceLimit ∧ s.stand.settings.advanceLimit ≤ 5000)
    ∧ s.stand.settings.leaderCount ≤ 4 ∧ s.stand.settings.idleMinutes ≤ 60
    ∧ (2000 ≤ s.stand.settings.tokenLimit ∧ s.stand.settings.tokenLimit ≤ 30000)
    ∧ s.labels.queue.length ≤ 32 ∧ s.labels.date ≤ 65535

/-- A label state stands on a KEPT frame with a label record (R148, R149), and on no frame of an UNSELECTED group. -/
abbrev Roll.labelsSound (s : State) (r : Roll) : Prop :=
  (∀ f ∈ r.frames, f.label ≠ none →
      f.selection = .kept ∧ labelRecord? s { roll := r.id, frame := f.number } ≠ none)
    ∧ (∀ g ∈ r.groups, g.outcome = .unselected → ∀ f ∈ r.frames, f.group = g.first → f.label = none)

/-- The label unit is sound: labels stand on kept frames of the register alone; the queue holds exactly the QUEUED labels, none
twice, in register order (R150); a label is WAITING only with the queue full (R151); the head is in the queue; an IDLE line has no
head and nothing to send, an AWAITING or STOPPED one has its head (R152, R155). -/
abbrev LabelsSound (s : State) : Prop :=
  (∀ k < 8, ∀ r ∈ s.slotRoll? k, r.labelsSound s) ∧ (∀ b, ∀ r ∈ (s.back b).roll, ∀ f ∈ r.frames, f.label = none)
    ∧ s.labels.queue.Nodup ∧ (∀ k, k ∈ s.labels.queue ↔ k ∈ labelsWith .queued s)
    ∧ (s.labels.queue.Pairwise fun older younger => labelBefore s older younger = true)
    ∧ (labelsWith .waiting s ≠ [] → 32 ≤ s.labels.queue.length)
    ∧ (∀ k ∈ s.labels.head, k ∈ s.labels.queue)
    ∧ (s.labels.line = .idle → s.labels.head = none ∧ s.labels.queue = [])
    ∧ (s.labels.line = .awaiting ∨ (∃ reason, s.labels.line = .stopped reason) → s.labels.head ≠ none)

/-! ## Desk link -/

/-- The message on the outgoing line is the reply. -/
def Link.sendsReply (l : Link) : Bool := match l.sending with | some m => decide (m.source = .reply) | none => false

/-- The desk link is sound: at most 16 notices (R198), a pending rejection counted 1..255 (R190), a rate of 0..3 (R200), a
request HELD only while a reply waits (R191), and a reply being sent still in its buffer (R191). -/
abbrev LinkSound (s : State) : Prop :=
  s.link.notices.length ≤ 16 ∧ (∀ r ∈ s.link.slot, 1 ≤ r.count ∧ r.count ≤ 255) ∧ s.link.rate ≤ 3
    ∧ (s.link.held.isSome = true → s.link.reply.isSome = true)
    ∧ (s.link.sendsReply = true → s.link.reply.isSome = true)

/-- Every block is sound. -/
abbrev Sound (s : State) : Prop :=
  WorkSound s ∧ ServiceSound s ∧ ProfilesSound s ∧ FeederSound s ∧ RollsSound s ∧ FilmLogSound s ∧ TallySound s
    ∧ SettingsSound s ∧ LabelsSound s ∧ LinkSound s

end Sys2Proof.Machine
end

