-- ==== Sys2Proof/WellFormed.lean ====
section
/-! DEFINITION. Well-formed commands: each raw field of a request fits the bytes its body gives it (R193, R194, R196) and the
body fits one frame (R187); an event carries only what its sense or line can report. The ranges the spec gives a field are
NOT tested here: a value outside its range is a well-formed request that the owning block refuses. -/

namespace Sys2Proof

/-- `v` fits in `bytes` bytes. -/
def fits (bytes v : Nat) : Bool := decide (v < 256 ^ bytes)

/-- `v` fits in `bytes` bytes of two's complement (R193). -/
def fitsInt (bytes : Nat) (v : Int) : Bool :=
  decide (-(128 * 256 ^ (bytes - 1) : Int) ≤ v) && decide (v < 128 * 256 ^ (bytes - 1))

/-- A text has its length in one byte (R193). -/
def fitsText (t : Text) : Bool := decide (t.length ≤ 255)

/-- A list has its count in one byte (R193). -/
def fitsList {α : Type} (l : List α) : Bool := decide (l.length ≤ 255)

/-- A field a mask does not select carries no bytes, so it is left at its default (R194). -/
def maskedOut (mask : BitVec 16) (bit : Nat) (isDefault : Bool) : Bool := mask.getLsbD bit || isDefault

/-- A slide entry fits its fields. -/
def SlideReq.wellFormed (q : SlideReq) : Bool :=
  fits 3 q.cat && (match q.adjust with | some v => fitsInt 1 v | none => true)
    && (match q.caption with | some t => fitsText t | none => true)

/-- A PLACE ORDER fits its fields (R196). -/
def PlaceReq.wellFormed (q : PlaceReq) : Bool :=
  fits 2 q.number && fits 2 q.account && fits 2 q.lecturer && fits 1 q.cls && fits 1 q.stock && fits 1 q.n
    && fits 1 q.spacing && fitsInt 1 q.offset && fits 1 q.magn && fitsText q.title && fitsList q.slides
    && q.slides.all SlideReq.wellFormed

/-- An AMEND ORDER fits its fields (R194). -/
def AmendReq.wellFormed (q : AmendReq) : Bool :=
  fits 2 q.number && fits 1 q.cls && fits 1 q.n && fits 1 q.spacing && fitsInt 1 q.offset && fits 1 q.magn
    && fits 2 q.account && fits 2 q.lecturer && fitsText q.title
    && maskedOut q.mask 0 (q.cls == 0) && maskedOut q.mask 1 (q.n == 0) && maskedOut q.mask 2 (q.spacing == 0)
    && maskedOut q.mask 3 (q.offset == 0) && maskedOut q.mask 4 (q.magn == 0) && maskedOut q.mask 5 (q.account == 0)
    && maskedOut q.mask 6 (q.lecturer == 0) && maskedOut q.mask 7 q.title.isEmpty

/-- A SET STOCK fits its fields. -/
def StockReq.wellFormed (q : StockReq) : Bool :=
  fits 1 q.stock && fits 1 q.enabled && fitsText q.name && fits 1 q.eRef && fits 1 q.k && fits 1 q.filter
    && fits 2 q.rate

/-- A selection entry fits its fields; only KEEP (0) carries a step (R131). -/
def SelectReq.wellFormed (q : SelectReq) : Bool :=
  fits 1 q.first && fits 1 q.outcome && fitsInt 1 q.step && (q.outcome == 0 || q.step == 0)

/-- A SET STAND fits its fields (R116). -/
def StandReq.wellFormed (q : StandReq) : Bool :=
  fits 2 q.feedLimit && fits 2 q.advanceLimit && fits 1 q.leaderCount && fits 1 q.fill && fits 1 q.idleMinutes
    && fits 2 q.tokenLimit
    && maskedOut q.mask 0 (q.feedLimit == 0) && maskedOut q.mask 1 (q.advanceLimit == 0)
    && maskedOut q.mask 2 (q.leaderCount == 0) && maskedOut q.mask 3 (q.fill == 0)
    && maskedOut q.mask 4 (q.idleMinutes == 0) && maskedOut q.mask 5 (q.tokenLimit == 0)

/-- An optional field fits. -/
def fitsOpt (bytes : Nat) : Option Nat → Bool
  | some v => fits bytes v
  | none => true

/-- A SET COUNTER fits its fields (R179). -/
def CounterReq.wellFormed (q : CounterReq) : Bool :=
  fits 1 q.counter && fits 1 q.enabled && fits 1 q.kinds && fits 2 q.acctMatch && fits 2 q.acctMask && fits 1 q.stocks
    && fitsOpt 4 q.ceiling && fitsOpt 4 q.level && fits 4 q.note && fits 4 q.total
    && maskedOut q.mask 0 (q.enabled == 0) && maskedOut q.mask 1 (q.kinds == 0) && maskedOut q.mask 2 (q.acctMatch == 0)
    && maskedOut q.mask 3 (q.acctMask == 0) && maskedOut q.mask 4 (q.stocks == 0) && maskedOut q.mask 5 q.ceiling.isNone
    && maskedOut q.mask 6 q.level.isNone && maskedOut q.mask 7 (q.note == 0) && maskedOut q.mask 8 (q.total == 0)

/-- Every field of a request fits the bytes its body gives it. -/
def Request.fieldsFit : Request → Bool
  | .placeOrder q => q.wellFormed
  | .amendOrder q => q.wellFormed
  | .cancelOrder n => fits 2 n
  | .holdOrder n => fits 2 n
  | .releaseOrder n => fits 2 n
  | .setFloor v => fits 1 v
  | .readOrder n i => fits 2 n && fits 1 i
  | .setStock q => q.wellFormed
  | .readStock => true
  | .setProfile c m p f => fits 3 c && fits 1 m && fitsInt 1 p && fitsOpt 2 f
  | .setRange k b e p => fits 1 k && fits 3 b && fits 1 e && fitsInt 1 p
  | .dropProfile t k => fits 1 t && fits 1 k
  | .setPlacement k => fits 1 k
  | .readProfileTable t k => fits 1 t && fits 1 k
  | .readProfileLookup c => fits 3 c
  | .mapTray es => fitsList es && es.all fun e => fits 1 e.pos && fits 3 e.cat
  | .readTray f => fits 1 f
  | .readHead => true
  | .loadRoll b r k f => fits 1 b && fits 3 r && fits 1 k && fits 1 f
  | .rewindBack b => fits 1 b
  | .unloadBack b => fits 1 b
  | .clearBack b => fits 1 b
  | .readBack => true
  | .startStand => true
  | .stopStand => true
  | .abortSlide => true
  | .resetStand => true
  | .setStand q => q.wellFormed
  | .readStand => true
  | .reportSelections r es => fits 3 r && fitsList es && es.all SelectReq.wellFormed
  | .closeRoll r d => fits 3 r && fits 1 d
  | .readRoll r i => fits 3 r && fits 1 i
  | .readFrames r i => fits 3 r && fits 1 i
  | .printLabels c => fits 1 c
  | .pausePrinter => true
  | .resumePrinter => true
  | .relabel r f => fits 3 r && fits 1 f
  | .setDate d => fits 2 d
  | .readLabelsLine i => fits 1 i
  | .readLabelsRecord r f => fits 3 r && fits 1 f && r != 0
  | .setRates m t c => fits 2 m && fits 1 t && fits 2 c
  | .setCounter q => q.wellFormed
  | .lockCounter c => fits 1 c
  | .adjustAccount a v => fits 2 a && fitsInt 3 v
  | .closePeriod => true
  | .readCounters c => fits 1 c

/-- A well-formed request: its fields fit, and its body fits one frame (R187). -/
def Request.wellFormed (r : Request) : Bool := r.fieldsFit && decide (r.body.length ≤ 249)

/-- The request a request row stands for; the rows of events stand for none. -/
def Instr.request : Instr → Option Request
  | .placeOrder q => some (.placeOrder q)
  | .amendOrder q => some (.amendOrder q)
  | .cancelOrder n => some (.cancelOrder n)
  | .holdOrder n => some (.holdOrder n)
  | .releaseOrder n => some (.releaseOrder n)
  | .setFloor v => some (.setFloor v)
  | .readOrder n i => some (.readOrder n i)
  | .setStock q => some (.setStock q)
  | .readStock => some .readStock
  | .setProfile c m p f => some (.setProfile c m p f)
  | .setRange k b e p => some (.setRange k b e p)
  | .dropProfile t k => some (.dropProfile t k)
  | .setPlacement k => some (.setPlacement k)
  | .readProfileTable t k => some (.readProfileTable t k)
  | .readProfileLookup c => some (.readProfileLookup c)
  | .mapTray es => some (.mapTray es)
  | .readTray f => some (.readTray f)
  | .readHead => some .readHead
  | .loadRoll b r k f => some (.loadRoll b r k f)
  | .rewindBack b => some (.rewindBack b)
  | .unloadBack b => some (.unloadBack b)
  | .clearBack b => some (.clearBack b)
  | .readBack => some .readBack
  | .startStand => some .startStand
  | .stopStand => some .stopStand
  | .abortSlide => some .abortSlide
  | .resetStand => some .resetStand
  | .setStand q => some (.setStand q)
  | .readStand => some .readStand
  | .reportSelections r es => some (.reportSelections r es)
  | .closeRoll r d => some (.closeRoll r d)
  | .readRoll r i => some (.readRoll r i)
  | .readFrames r i => some (.readFrames r i)
  | .printLabels c => some (.printLabels c)
  | .pausePrinter => some .pausePrinter
  | .resumePrinter => some .resumePrinter
  | .relabel r f => some (.relabel r f)
  | .setDate d => some (.setDate d)
  | .readLabelsLine i => some (.readLabelsLine i)
  | .readLabelsRecord r f => some (.readLabelsRecord r f)
  | .setRates m t c => some (.setRates m t c)
  | .setCounter q => some (.setCounter q)
  | .lockCounter c => some (.lockCounter c)
  | .adjustAccount a v => some (.adjustAccount a v)
  | .closePeriod => some .closePeriod
  | .readCounters c => some (.readCounters c)
  | .powerOn _ _ _ _ => none
  | .frameEnd _ _ _ => none
  | .badLengthByte => none
  | .gapTimeout _ => none
  | .heldRequestTaken => none
  | .overrunFrameEnd => none
  | .linkBreak => none
  | .lineFreeSend => none
  | .feederOpStart => none
  | .feedHomeDone => none
  | .homeComplete => none
  | .feedComplete => none
  | .returnComplete => none
  | .feederTimeout => none
  | .trayOut => none
  | .trayIn => none
  | .gateLoaded => none
  | .gateCleared => none
  | .warmUpEnd _ => none
  | .lampFailure => none
  | .idleTimerExpiry => none
  | .meterComplete _ _ _ _ _ => none
  | .meterTimeout => none
  | .ndSetStart => none
  | .ndSetComplete => none
  | .ndTimeout => none
  | .advanceStart _ => none
  | .advanceComplete _ => none
  | .advanceTimeout _ => none
  | .filmEnd _ => none
  | .swapStart => none
  | .swapComplete => none
  | .swapTimeout => none
  | .rewindComplete _ => none
  | .rewindTimeout _ => none
  | .exposeStart => none
  | .shutterTicksEnd => none
  | .exposeComplete => none
  | .exposeTimeout => none
  | .shutterEarlyClose => none
  | .printedToken => none
  | .jammedToken => none
  | .outOfLabelsToken => none
  | .formatErrorToken => none
  | .tokenTimeout => none
  | .unknownPrinterByte _ => none
  | .labelFrameSent => none
  | .syncReceived => none

/-- Well-formed commands. A frame's body has at most 249 bytes (R187), a meter reading is 0..1023 (R80), an unknown printer
byte is none of the four tokens (R153); every other event carries nothing that could be ill-formed. -/
def Instr.wellFormed (i : Instr) : Bool :=
  match i.request with
  | some r => r.wellFormed
  | none =>
    match i with
    | .frameEnd _ body _ => decide (body.length ≤ 249)
    | .meterComplete a b c d e => [a, b, c, d, e].all fun x => decide (x ≤ 1023)
    | .unknownPrinterByte x => x != 0x50#8 && x != 0x4A#8 && x != 0x45#8 && x != 0x46#8
    | _ => true

end Sys2Proof
end

