-- ==== Sys2Proof/Certificates/Slice0/Obligations.lean ====
section
/-! DEFINITION. The statements for the provers. A request statement speaks of a request that is taken at once (`LinkFree`), with
what is taken in other cases said once for all requests by `RequestsTakenHeldOrOverrun`; `eventEnd asked s t` is the end of an
event that began in `s` and has come to `t`: the choice where R10 has it run, then STAND CHANGED, as `EventsEndByTheirRules`
says. -/

open Sys2Proof Sys2Proof.Machine

/-! ## The queue of commands and the desk link -/

/-- A step is the command at the front of the queue on the state with the queue's rest; on an empty queue the part idles. -/
def Obligations.StepTakesFront : Prop :=
  (∀ (c : Instr) (rest : List Instr) (s : State), step (s.withPending (c :: rest)) = exec c (s.withPending rest))
    ∧ (∀ s : State, s.pending = [] → step s = .next s)

/-- A request row is taken at once with the reply buffer empty and none HELD, kept as the HELD request with a reply waiting, and
rejected OVERRUN while one is HELD and when it is the frame being counted through. -/
def Obligations.RequestsTakenHeldOrOverrun : Prop :=
  ∀ (c : Instr) (r : Request) (s : State), c.request = some r →
    (LinkFree s → exec c s = .next (placeReply (answerRequest r (hunting s)).2 (answerRequest r (hunting s)).1))
      ∧ (s.link.held = none → s.link.rx ≠ .counting → s.link.reply.isSome = true →
          exec c s = .next { s with link := { s.link with rx := .hunting, held := some (.read r) } })
      ∧ ((s.link.held.isSome = true ∨ s.link.rx = .counting) → exec c s = .next (rejectedWith .overrun 0#8 s))

/-- Every request is answered in one of two ways: a REFUSED of its kind that leaves the whole state as it was, or an acceptance
of its kind + 80h whose body begins with a flags byte of 0 or 1. -/
def Obligations.AcceptedOrRefused : Prop :=
  ∀ (r : Request) (s : State),
    (∃ code : Code, answerRequest r s = (s, { kind := 0xE0, body := [.u 1 r.kind, .u 1 code.number] }))
      ∨ (∃ (flag : Nat) (fields : List Field), flag ≤ 1 ∧ (answerRequest r s).2 = { kind := r.kind + 0x80, body := .u 1 flag :: fields })

/-- What the desk computer writes for a well-formed request reads back as that request. A field of n bytes is written most
significant byte first, a negative value in two's complement, a text as its length byte and its characters; and every request's
kind and body are spelled field by field, a field that a mask does not select with no bytes. The form byte of READ PROFILE and
roll id 0 for the line form of READ LABELS are the rules' own. -/
def Obligations.BodiesReadBack : Prop :=
  (∀ r : Request, r.wellFormed = true → readIncoming r.kind r.body = .read r)
    ∧ (∀ fields : List Field, bodyBytes fields = fields.flatMap fieldBytes)
    ∧ (∀ n v : Nat, (fieldBytes (.u n v)).length = n
        ∧ ∀ i < n, (fieldBytes (.u n v))[i]? = some (BitVec.ofNat 8 (v / 256 ^ (n - 1 - i))))
    ∧ (∀ (n : Nat) (v : Int), (0 ≤ v → v < 256 ^ n → fieldBytes (.i n v) = fieldBytes (.u n v.toNat))
        ∧ (v < 0 → -256 ^ n ≤ v → fieldBytes (.i n v) = fieldBytes (.u n (v + 256 ^ n).toNat)))
    ∧ (∀ t : Text, fieldBytes (.text t) = BitVec.ofNat 8 t.length :: t)
    ∧ ∀ (sel : BitVec 16 → Nat → List Field → List Field), (∀ m b f, sel m b f = if m.getLsbD b then f else []) →
        ∀ r : Request, (r.kind, r.body) =
          match r with
          | .placeOrder q =>
            (0x10, bodyBytes
              ([.u 2 q.number, .u 2 q.account, .u 2 q.lecturer, .u 1 q.cls, .u 1 q.stock, .u 1 q.n, .u 1 q.spacing, .i 1 q.offset,
                .u 1 q.magn, .text q.title, .u 1 q.slides.length]
                ++ q.slides.flatMap fun x =>
                  [.u 3 x.cat, .u 1 ((if x.caption.isSome then 1 else 0) + (if x.adjust.isSome then 2 else 0))]
                    ++ (match x.adjust with | some v => [.i 1 v] | none => [])
                    ++ (match x.caption with | some t => [.text t] | none => [])))
          | .amendOrder q =>
            (0x11, bodyBytes
              (List.flatten
                [[.u 2 q.number, .u 2 q.mask.toNat], sel q.mask 0 [.u 1 q.cls], sel q.mask 1 [.u 1 q.n], sel q.mask 2 [.u 1 q.spacing],
                 sel q.mask 3 [.i 1 q.offset], sel q.mask 4 [.u 1 q.magn], sel q.mask 5 [.u 2 q.account],
                 sel q.mask 6 [.u 2 q.lecturer], sel q.mask 7 [.text q.title]]))
          | .cancelOrder number => (0x12, bodyBytes [.u 2 number])
          | .holdOrder number => (0x13, bodyBytes [.u 2 number])
          | .releaseOrder number => (0x14, bodyBytes [.u 2 number])
          | .setFloor floor => (0x15, bodyBytes [.u 1 floor])
          | .readOrder number first => (0x16, bodyBytes [.u 2 number, .u 1 first])
          | .setStock q =>
            (0x17, bodyBytes [.u 1 q.stock, .u 1 q.enabled, .text q.name, .u 1 q.eRef, .u 1 q.k, .u 1 q.filter, .u 2 q.rate])
          | .readStock => (0x18, [])
          | .setProfile cat mode p fixed => (0x19, bodyBytes ([.u 3 cat, .u 1 mode, .i 1 p] ++ optU 2 fixed))
          | .setRange slot base exponent p => (0x1A, bodyBytes [.u 1 slot, .u 3 base, .u 1 exponent, .i 1 p])
          | .dropProfile table slot => (0x1B, bodyBytes [.u 1 table, .u 1 slot])
          | .setPlacement slot => (0x1C, bodyBytes [.u 1 slot])
          | .readProfileTable table first => (0x1D, bodyBytes [.u 1 0, .u 1 table, .u 1 first])
          | .readProfileLookup cat => (0x1D, bodyBytes [.u 1 1, .u 3 cat])
          | .mapTray es => (0x1E, bodyBytes (.u 1 es.length :: es.flatMap fun e => [.u 1 e.pos, .u 3 e.cat]))
          | .readTray first => (0x1F, bodyBytes [.u 1 first])
          | .readHead => (0x20, [])
          | .loadRoll back roll stock declared => (0x21, bodyBytes [.u 1 back, .u 3 roll, .u 1 stock, .u 1 declared])
          | .rewindBack back => (0x22, bodyBytes [.u 1 back])
          | .unloadBack back => (0x23, bodyBytes [.u 1 back])
          | .clearBack back => (0x24, bodyBytes [.u 1 back])
          | .readBack => (0x25, [])
          | .startStand => (0x26, [])
          | .stopStand => (0x27, [])
          | .abortSlide => (0x28, [])
          | .resetStand => (0x29, [])
          | .setStand q =>
            (0x2A, bodyBytes
              (List.flatten
                [[.u 2 q.mask.toNat], sel q.mask 0 [.u 2 q.feedLimit], sel q.mask 1 [.u 2 q.advanceLimit],
                 sel q.mask 2 [.u 1 q.leaderCount], sel q.mask 3 [.u 1 q.fill], sel q.mask 4 [.u 1 q.idleMinutes],
                 sel q.mask 5 [.u 2 q.tokenLimit]]))
          | .readStand => (0x2B, [])
          | .reportSelections roll es =>
            (0x2C, bodyBytes ([.u 3 roll, .u 1 es.length]
              ++ es.flatMap fun e => [.u 1 e.first, .u 1 e.outcome] ++ (if e.outcome = 0 then [.i 1 e.step] else [])))
          | .closeRoll roll disposition => (0x2D, bodyBytes [.u 3 roll, .u 1 disposition])
          | .readRoll roll first => (0x2E, bodyBytes [.u 3 roll, .u 1 first])
          | .readFrames roll first => (0x2F, bodyBytes [.u 3 roll, .u 1 first])
          | .printLabels count => (0x30, bodyBytes [.u 1 count])
          | .pausePrinter => (0x31, [])
          | .resumePrinter => (0x32, [])
          | .relabel roll frame => (0x33, bodyBytes [.u 3 roll, .u 1 frame])
          | .setDate date => (0x34, bodyBytes [.u 2 date])
          | .readLabelsLine first => (0x35, bodyBytes [.u 3 0, .u 1 first])
          | .readLabelsRecord roll frame => (0x35, bodyBytes [.u 3 roll, .u 1 frame])
          | .setRates mount threshold surcharge => (0x36, bodyBytes [.u 2 mount, .u 1 threshold, .u 2 surcharge])
          | .setCounter q =>
            (0x37, bodyBytes
              (List.flatten
                [[.u 1 q.counter, .u 2 q.mask.toNat], sel q.mask 0 [.u 1 q.enabled], sel q.mask 1 [.u 1 q.kinds],
                 sel q.mask 2 [.u 2 q.acctMatch], sel q.mask 3 [.u 2 q.acctMask], sel q.mask 4 [.u 1 q.stocks],
                 sel q.mask 5 (optU 4 q.ceiling), sel q.mask 6 (optU 4 q.level), sel q.mask 7 [.u 4 q.note],
                 sel q.mask 8 [.u 4 q.total]]))
          | .lockCounter counter => (0x38, bodyBytes [.u 1 counter])
          | .adjustAccount account amount => (0x39, bodyBytes [.u 2 account, .i 3 amount])
          | .closePeriod => (0x3A, [])
          | .readCounters first => (0x3B, bodyBytes [.u 1 first])

/-- The forms of the fields that acceptances and notices carry: yes-or-no, optional and list fields; every enumeration by its
numbers; the records of the tables; and the kind and the fields of each notice. They are read from R193 by inference (assumption
log entry 13) or, where no rule settles them, chosen (assumption log entry 34). -/
def Obligations.FormsOfFields : Prop :=
  ((∀ b : Bool, yesNo b = .u 1 (if b then 1 else 0))
      ∧ (∀ (n : Nat) (x : Option Nat), optU n x = match x with | none => [.u 1 0] | some v => [.u 1 1, .u n v])
      ∧ (∀ (α : Type) (f : α → List Field) (x : Option α), optFields f x = match x with | none => [.u 1 0] | some v => .u 1 1 :: f v)
      ∧ ∀ (α : Type) (f : α → List Field) (l : List α), listFields f l = .u 1 l.length :: l.flatMap f)
    ∧ ([FormerState.pending, .preempted, .active].map FormerState.number = [0, 1, 2]
      ∧ [SlideOutcome.notShot, .shot, .kept, .reshootDue, .rejected].map SlideOutcome.number = [0, 1, 2, 3, 4]
      ∧ [ProfileMode.learned, .manual, .noLearn].map ProfileMode.number = [0, 1, 2]
      ∧ [Lamp.off, .warming, .ready, .failed].map Lamp.number = [0, 1, 2, 3]
      ∧ [true, false].map presentField = [.u 1 0, .u 1 1] ∧ [BackId.backA, .backB].map backNumber = [0, 1]
      ∧ [GateFrame.fresh, .spent].map GateFrame.number = [0, 1]
      ∧ advanceNumber none = 3
      ∧ (∀ limit ofCycle, [AdvanceCause.leader, .step, .spent].map (fun x => advanceNumber (some ⟨x, limit, ofCycle⟩)) = [0, 1, 2])
      ∧ [Completeness.opened, .complete, .incomplete].map Completeness.number = [0, 1, 2]
      ∧ [UnloadKind.rewound, .cleared].map UnloadKind.number = [0, 1]
      ∧ [HaltReason.feedTimeout, .trayOut, .lampFail, .meterTimeout, .ndTimeout, .swapTimeout, .shutterFault].map HaltReason.number
        = [0, 1, 2, 3, 4, 5, 6]
      ∧ [AbortCause.abortSlide, .reset, .halt .feedTimeout, .halt .trayOut, .halt .lampFail, .halt .meterTimeout, .halt .ndTimeout,
          .halt .swapTimeout, .halt .shutterFault, .advanceTimeout, .filmEnd].map AbortCause.number
        = [0, 1, 2, 3, 4, 5, 6, 7, 8, 9, 10]
      ∧ [LabelState.waiting, .queued, .printed, .failed].map LabelState.number = [0, 1, 2, 3]
      ∧ [some Token.printed, some .jammed, some .outOfLabels, some .formatError, none].map tokenNumber = [0, 1, 2, 3, 4]
      ∧ [PostKind.frame, .mount, .credit, .adjust].map PostKind.number = [0, 1, 2, 3]
      ∧ [CloseCause.automatic, .lost, .abandon].map CloseCause.number = [0, 1, 2]
      ∧ [RejectReason.gap, .check, .kind, .length, .overrun].map RejectReason.number = [1, 2, 3, 4, 5]
      ∧ [Code.busy, .full, .unknown, .duplicate, .range, .state, .locked, .labelsPending, .format].map Code.number
        = [1, 2, 3, 4, 5, 6, 7, 8, 9])
    ∧ ([OrderState.pending, .active, .preempted, .filling, .held .host, .held .original, .held .film, .exposed].map OrderState.fields
        = [[.u 1 0], [.u 1 1], [.u 1 2], [.u 1 3], [.u 1 4, .u 1 0], [.u 1 4, .u 1 1], [.u 1 4, .u 1 2], [.u 1 5]]
      ∧ (∀ k, (OrderState.held (.ceiling k)).fields = [.u 1 4, .u 1 3, .u 1 k])
      ∧ (∀ j, (LastStep.kept j).fields = [.u 1 0, .i 1 j]) ∧ [LastStep.under, .over].map LastStep.fields = [[.u 1 1], [.u 1 2]]
      ∧ (∀ k, (ProfileSource.original k).fields = [.u 1 0, .u 1 k] ∧ (ProfileSource.range k).fields = [.u 1 1, .u 1 k])
      ∧ ProfileSource.miss.fields = [.u 1 2]
      ∧ (∀ k x, (LearnResult.updated k).fields = [.u 1 0, .u 1 k] ∧ (LearnResult.inserted k none).fields = [.u 1 1, .u 1 k, .u 1 0]
          ∧ (LearnResult.inserted k (some x)).fields = [.u 1 1, .u 1 k, .u 1 1, .u 3 x])
      ∧ [LearnResult.unchanged, .dropped].map LearnResult.fields = [[.u 1 2], [.u 1 3]]
      ∧ [Gate.empty, .foreign].map Gate.fields = [[.u 1 0], [.u 1 2]] ∧ (∀ p x, (Gate.holds p x).fields = [.u 1 1, .u 1 p, .u 3 x])
      ∧ [BackState.empty, .leader, .ready, .full, .ended, .rewinding, .rewound, .fault .advanceTimeout, .fault .rewindTimeout].map
          BackState.fields
        = [[.u 1 0], [.u 1 1], [.u 1 2], [.u 1 3], [.u 1 4], [.u 1 5], [.u 1 6], [.u 1 7, .u 1 0], [.u 1 7, .u 1 1]]
      ∧ [Turret.stands .backA, .stands .backB, .turning .backA, .turning .backB, .unknown].map Turret.fields
        = [[.u 1 0], [.u 1 1], [.u 1 2, .u 1 0], [.u 1 2, .u 1 1], [.u 1 3]]
      ∧ (∀ j, (GroupOutcome.kept j).fields = [.u 1 1, .i 1 j])
      ∧ [GroupOutcome.unselected, .rejectUnder, .rejectOver, .reject, .discarded].map GroupOutcome.fields
        = [[.u 1 0], [.u 1 2], [.u 1 3], [.u 1 4], [.u 1 5]]
      ∧ [StandMode.stopped, .running, .stopping].map StandMode.fields = [[.u 1 0], [.u 1 1], [.u 1 2]]
      ∧ (∀ r : HaltReason, (StandMode.halted r).fields = [.u 1 3, .u 1 r.number])
      ∧ [LineState.idle, .awaiting, .paused, .stopped .jammed, .stopped .outOfLabels, .stopped .noToken].map LineState.fields
        = [[.u 1 0], [.u 1 1], [.u 1 2], [.u 1 3, .u 1 0], [.u 1 3, .u 1 1], [.u 1 3, .u 1 2]]
      ∧ [Run.off, .opened].map Run.fields = [[.u 1 0], [.u 1 1]] ∧ ∀ n, (Run.counted n).fields = [.u 1 2, .u 1 n])
    ∧ ((∀ c : Counter, c.fields =
          List.flatten
            [[.u 1 (if c.enabled then 1 else 0), .u 1 c.kinds.toNat, .u 2 c.acctMatch.toNat, .u 2 c.acctMask.toNat,
              .u 1 c.stocks.toNat, .u 4 c.total],
             optU 4 c.ceiling, optU 4 c.level,
             [.u 4 c.note, .u 1 (if c.crossed then 1 else 0), .u 1 (if c.locked then 1 else 0)]])
      ∧ (∀ x : Settings, x.fields =
          [.u 2 x.feedLimit, .u 2 x.advanceLimit, .u 1 x.leaderCount, .u 1 (if x.fill then 1 else 0), .u 1 x.idleMinutes,
           .u 2 x.tokenLimit])
      ∧ (∀ e : StockEntry, e.fields =
          [.u 1 (if e.enabled then 1 else 0), .text e.name, .u 1 e.eRef, .u 1 e.k, .u 1 e.filter, .u 2 e.rate])
      ∧ originalFields none = [.u 1 0] ∧ rangeFields none = [.u 1 0]
      ∧ (∀ e : OriginalEntry, originalFields (some e) =
          List.flatten
            [[.u 1 1, .u 3 e.cat, .u 1 e.mode.number, .i 1 e.p], optU 2 e.fixed, [.u 1 (if e.used then 1 else 0), .u 1 e.uses],
             match e.last with | none => [.u 1 0] | some x => .u 1 1 :: x.fields])
      ∧ ∀ r : RangeEntry, rangeFields (some r) = [.u 1 1, .u 3 r.base, .u 1 r.exponent, .i 1 r.p])
    ∧ ∀ n : Notice, (n.kind, n.fields) =
        match n with
        | .standReady rate => (0xC0, [.u 1 rate])
        | .orderChanged number state => (0xC1, .u 2 number :: state.fields)
        | .orderCancelled number => (0xC2, [.u 2 number, .u 1 0])
        | .orderCompleted number kept rejected => (0xC2, [.u 2 number, .u 1 1, .u 1 kept, .u 1 rejected])
        | .slideFinished order slide cat attempt back roll first cause complete exposed spoilt credits =>
          (0xC3, List.flatten
            [[.u 2 order, .u 1 slide, .u 3 cat, .u 1 attempt, .u 1 (backNumber back), .u 3 roll], optU 1 first,
             match cause with | none => [.u 1 0] | some x => [.u 1 1, .u 1 x.number],
             [.u 1 (if complete then 1 else 2), .u 1 exposed, .u 1 spoilt, .u 1 credits]])
        | .backChanged back state none => (0xC4, .u 1 (backNumber back) :: state.fields)
        | .backChanged back state (some (id, stock, next, remaining)) =>
          (0xC4, .u 1 (backNumber back) :: state.fields ++ [.u 3 id, .u 1 stock, .u 1 next, .u 1 remaining])
        | .standChanged mode lamp present => (0xC5, mode.fields ++ [.u 1 lamp.number, .u 1 (if present then 0 else 1)])
        | .printerChanged line head run last queued waiting =>
          (0xC6, List.flatten
            [line.fields, match head with | none => [.u 1 0] | some k => [.u 1 1, .u 3 k.roll, .u 1 k.frame],
             run.fields, [.u 1 (tokenNumber last), .u 1 queued, .u 2 waiting]])
        | .counterLevel counter note total level kind account =>
          (0xC7, [.u 1 counter, .u 4 note, .u 4 total, .u 4 level, .u 1 kind.number, .u 2 account])
        | .rollClosed roll slot cause kept rejected discarded printed failed =>
          (0xC8, [.u 3 roll, .u 1 slot, .u 1 cause.number, .u 1 kept, .u 1 rejected, .u 1 discarded, .u 1 printed, .u 1 failed])

/-- The frame of a well-formed request, received whole with its CHECK byte and a body of a size its kind allows, does what the
request's own row does. -/
def Obligations.FrameRunsItsRequest : Prop :=
  ∀ (c : Instr) (r : Request) (least : Nat × Bool) (s : State), c.request = some r → r.wellFormed = true →
    bodySize r.kind = some least → sizeOk least r.body.length = true → s.link.rx = .receiving → s.link.held = none →
    exec (.frameEnd (BitVec.ofNat 8 r.kind) r.body (crc8 (frameCore (BitVec.ofNat 8 r.kind) r.body))) s = exec c s

/-- A frame is tested at its end in the order CHECK, KIND, LENGTH; one that passes is taken with the reply buffer empty and HELD
with a reply waiting. The assigned kinds are 10h..3Bh, each with its least body or its one fixed size. -/
def Obligations.FrameTestsInOrder : Prop :=
  (∀ (kind check : Byte) (body : List Byte) (s : State), s.link.rx = .receiving →
    (crc8 (frameCore kind body) ≠ check → exec (.frameEnd kind body check) s = .next (rejectedWith .check 0#8 s))
      ∧ (crc8 (frameCore kind body) = check → bodySize kind.toNat = none →
          exec (.frameEnd kind body check) s = .next (rejectedWith .kind kind s))
      ∧ (∀ least, crc8 (frameCore kind body) = check → bodySize kind.toNat = some least →
          (sizeOk least body.length = false → exec (.frameEnd kind body check) s = .next (rejectedWith .length kind s))
            ∧ (sizeOk least body.length = true → s.link.reply = none →
                exec (.frameEnd kind body check) s = .next (takeRequest (readIncoming kind.toNat body) (hunting s)))
            ∧ (sizeOk least body.length = true → s.link.reply.isSome = true →
                exec (.frameEnd kind body check) s
                  = .next { s with link := { s.link with rx := .hunting, held := some (readIncoming kind.toNat body) } })))
    ∧ (∀ kind : Nat, (bodySize kind).isSome = true ↔ 0x10 ≤ kind ∧ kind ≤ 0x3B)
    ∧ (List.range 44).map (fun i => bodySize (0x10 + i))
        = [some (18, false), some (4, false), some (2, true), some (2, true), some (2, true), some (1, true), some (3, true),
           some (8, false), some (0, true), some (6, false), some (6, true), some (2, true), some (1, true), some (3, false),
           some (5, false), some (1, true), some (0, true), some (6, true), some (1, true), some (1, true), some (1, true),
           some (0, true), some (0, true), some (0, true), some (0, true), some (0, true), some (2, false), some (0, true),
           some (6, false), some (4, true), some (4, true), some (4, true), some (1, true), some (0, true), some (0, true),
           some (4, true), some (2, true), some (4, true), some (5, true), some (3, false), some (1, true), some (5, true),
           some (0, true), some (1, true)]
    ∧ (∀ least size : Nat, ∀ fixed : Bool, sizeOk (least, fixed) size = true ↔ if fixed then size = least else least ≤ size)

/-- The receiver: SYNC starts a frame, or an overrun frame while a request is HELD, and is data inside a frame; a bad LENGTH
byte and the gap timeout reject the frame being received; whatever ends a frame counted through rejects it OVERRUN; a link break
discards the partial frame, the HELD request, the rejection and the notices, and no state of another block. -/
def Obligations.ReceiverEvents : Prop :=
  ∀ s : State,
    (s.link.rx = .hunting → s.link.held = none →
        exec .syncReceived s = .next { s with link := { s.link with rx := .receiving } })
      ∧ (s.link.rx = .hunting → s.link.held.isSome = true →
          exec .syncReceived s = .next { s with link := { s.link with rx := .counting } })
      ∧ (s.link.rx ≠ .hunting → exec .syncReceived s = .next s)
      ∧ (s.link.rx = .receiving → exec .badLengthByte s = .next (rejectedWith .length 0#8 s))
      ∧ (∀ kind : Option Byte, s.link.rx = .receiving →
          exec (.gapTimeout kind) s = .next (rejectedWith .gap (kind.getD 0#8) s))
      ∧ (s.link.rx = .counting →
          exec .overrunFrameEnd s = .next (rejectedWith .overrun 0#8 s)
            ∧ exec .badLengthByte s = .next (rejectedWith .overrun 0#8 s)
            ∧ (∀ kind : Option Byte, exec (.gapTimeout kind) s = .next (rejectedWith .overrun 0#8 s))
            ∧ ∀ (kind check : Byte) (body : List Byte), exec (.frameEnd kind body check) s = .next (rejectedWith .overrun 0#8 s))
      ∧ exec .linkBreak s
          = .next { s with link :=
              { s.link with rx := .hunting, held := none, slot := none, notices := [], overrun := false } }

/-- The outgoing line: when it comes free the reply goes first, then the FRAME REJECTED, then the head notice with the overrun
mark in its status byte and the mark cleared; a reply that has been sent empties its buffer and the HELD request is taken. A
notice joins the queue of at most 16, and one that finds 16 is dropped with the overrun mark set. That LINE FREE SEND also ends
the message being sent, with what follows from that, is the model's choice (assumption log entry 7). The kind and the fields of
each notice are spelled by `FormsOfFields`. -/
def Obligations.OutgoingLine : Prop :=
  (∀ s : State, s.link.sending = none →
    (∀ m, s.link.reply = some m →
        exec .lineFreeSend s
          = .next { s with link := { s.link with sending := some { source := .reply, bytes := m.frame } } })
      ∧ (∀ r, s.link.reply = none → s.link.slot = some r →
          exec .lineFreeSend s
            = .next { s with link :=
                { s.link with
                  slot := none,
                  sending := some
                    { source := .rejection, bytes := frameBytes 0xE1#8 [BitVec.ofNat 8 r.reason.number, r.kind, BitVec.ofNat 8 r.count] } } })
      ∧ (∀ n ns, s.link.reply = none → s.link.slot = none → s.link.notices = n :: ns →
          exec .lineFreeSend s
            = .next { s with link :=
                { s.link with
                  notices := ns, overrun := false,
                  sending := some
                    { source := .notice,
                      bytes := frameBytes (BitVec.ofNat 8 n.kind)
                        ((if s.link.overrun then 1#8 else 0#8) :: bodyBytes n.fields) } } })
      ∧ (s.link.reply = none → s.link.slot = none → s.link.notices = [] → exec .lineFreeSend s = .next s))
    ∧ (∀ (s : State) (m : Sending), s.link.sending = some m → m.source ≠ .reply →
        exec .lineFreeSend s = exec .lineFreeSend { s with link := { s.link with sending := none } })
    ∧ (∀ (s : State) (m : Sending), s.link.sending = some m → m.source = .reply → s.link.held = none →
        exec .lineFreeSend s = exec .lineFreeSend { s with link := { s.link with sending := none, reply := none } })
    ∧ (∀ (s : State) (m : Sending) (inc : Incoming), s.link.sending = some m → m.source = .reply → s.link.held = some inc →
        exec .heldRequestTaken s
            = .next (takeRequest inc { s with link := { s.link with sending := none, reply := none, held := none } })
          ∧ exec .lineFreeSend s
            = exec .lineFreeSend (takeRequest inc { s with link := { s.link with sending := none, reply := none, held := none } }))
    ∧ (∀ (n : Notice) (s : State),
        (s.link.notices.length < 16 →
            queueNotice n s = { s with link := { s.link with notices := s.link.notices ++ [n] } })
          ∧ (16 ≤ s.link.notices.length → queueNotice n s = { s with link := { s.link with overrun := true } }))

/-- The CRC-8 of R188, the frames and the label frames that carry it, every frame sent, and the test of it on a received frame.
The bytes of a label frame are spelled by `PrinterLineEvents`. -/
def Obligations.CheckByteComputation : Prop :=
  crc8 [] = 0#8
    ∧ (∀ (bytes : List Byte) (b : Byte),
        crc8 (bytes ++ [b])
          = (fun r : Byte => if r.getLsbD 7 then (r <<< 1) ^^^ 0x07#8 else r <<< 1)^[8] (crc8 bytes ^^^ b))
    ∧ crc8 [0x31#8, 0x32#8, 0x33#8, 0x34#8, 0x35#8, 0x36#8, 0x37#8, 0x38#8, 0x39#8] = 0xF4#8
    ∧ (∀ (kind : Byte) (body : List Byte),
        frameBytes kind body
          = 0xA5#8 :: BitVec.ofNat 8 (body.length + 1) :: kind :: body
              ++ [crc8 (BitVec.ofNat 8 (body.length + 1) :: kind :: body)])
    ∧ (∀ (s t : State) (m : Sending), exec .lineFreeSend s = .next t → t.link.sending = some m →
        ∃ (kind : Byte) (body : List Byte), m.bytes = frameBytes kind body)
    ∧ (∀ r : LabelRecord, ∃ bytes : List Byte,
        labelFrame r = 0x3C#8 :: BitVec.ofNat 8 bytes.length :: bytes ++ [crc8 (BitVec.ofNat 8 bytes.length :: bytes)])
    ∧ (∀ (kind check : Byte) (body : List Byte) (s : State), s.link.rx = .receiving → crc8 (frameCore kind body) ≠ check →
        exec (.frameEnd kind body check) s = .next (rejectedWith .check 0#8 s))

/-- No byte of a frame can be changed alone without changing its CHECK byte. -/
def Obligations.SingleByteErrorsDetected : Prop :=
  ∀ (before after : List Byte) (a b : Byte), a ≠ b → crc8 (before ++ a :: after) ≠ crc8 (before ++ b :: after)

/-! ## Power-on, and what only certain commands can change -/

/-- What power-on leaves in every block, and that the reset state is a power-on with both straps open, no tray and an empty gate
(those three are the model's choice, assumption log entry 1). -/
def Obligations.PowerOnValues : Prop :=
  (∀ (strap1 strap0 traySense gateSense : Bool) (s : State), ∃ t : State,
    exec (.powerOn strap1 strap0 traySense gateSense) s = .next t
      ∧ t.work = { orders := [], stack := [], floor := 0, placeSeq := 0 }
      ∧ (∀ k < 4, t.stock k = { enabled := false, name := [], eRef := 84, k := 0, filter := 0, rate := 0 })
      ∧ (∀ k < 48, t.profiles.original? k = none) ∧ (∀ k < 8, t.profiles.range? k = none) ∧ t.profiles.pointer = none
      ∧ (∀ p < 80, t.mapAt p = none) ∧ t.feeder.present = traySense ∧ t.feeder.pos = none
      ∧ t.feeder.gateSense = gateSense ∧ t.feeder.gate = (if gateSense then .foreign else .empty)
      ∧ t.feeder.op = none ∧ t.feeder.waiting = [] ∧ t.feeder.feedBusy = []
      ∧ t.head = { lamp := .off, idle := none, nd := none, ndOp := none, ndWaiting := [], meter := none, readings := none }
      ∧ (∀ b, (t.back b).state = .empty ∧ (t.back b).roll = none ∧ (t.back b).gateFrame = .fresh ∧ (t.back b).advance = none
          ∧ (t.back b).waiting = [] ∧ (t.back b).owed = false)
      ∧ t.film.turret = .unknown ∧ t.film.swap = none ∧ t.film.swapWaiting = [] ∧ t.film.loadSeq = 0 ∧ t.film.unloadSeq = 0
      ∧ t.stand.mode = .stopped ∧ t.stand.cycle = none ∧ t.stand.expose = none
      ∧ t.stand.settings = { feedLimit := 6000, advanceLimit := 1500, leaderCount := 2, fill := true, idleMinutes := 10, tokenLimit := 8000 }
      ∧ (∀ k < 8, t.slotRoll? k = none)
      ∧ t.labels.records = [] ∧ t.labels.queue = [] ∧ t.labels.line = .paused ∧ t.labels.head = none ∧ t.labels.timedOut = false
      ∧ t.labels.pausePending = false ∧ t.labels.run = .off ∧ t.labels.lastToken = none ∧ t.labels.date = 0
      ∧ (∀ k < 16, counterAt t.tally.counters k
          = { enabled := false, kinds := 0#4, acctMatch := 0#16, acctMask := 0#16, stocks := 15#4, total := 0, ceiling := none,
              level := none, note := 0, crossed := false, locked := false })
      ∧ t.tally.mountRate = 0 ∧ t.tally.rushClass = 12 ∧ t.tally.surcharge = 0 ∧ t.tally.period = 0
      ∧ t.link = { rate := 2 * strap1.toNat + strap0.toNat, rx := .hunting, held := none, reply := none, slot := none,
                   notices := [.standReady (2 * strap1.toNat + strap0.toNat)], overrun := false, sending := none }
      ∧ t.pending = s.pending)
    ∧ exec (.powerOn false false false false) State.reset = .next State.reset

/-- The reset state is sound in every block. -/
def Obligations.ResetIsSound : Prop := Sound State.reset

/-- Frame of the settings: but for power-on, and for the three link events that can take any request (FRAME END, HELD REQUEST
TAKEN, LINE FREE SEND), the stock table, the floor, the placement sequence counter, the settings, the rates, the period number,
the date, the pointer, the range entries, the tray map, the two roll sequence counters and the count of open values are changed
by their own commands alone, the link rate and the queue of waiting commands by none. The queue of waiting commands, the count
of open values, and RETURN COMPLETE as one of the two rows of the gate-cleared sense are the model's choices (assumption log
entries 2, 4 and 9). -/
def Obligations.OnlyTheirOwnCommandsChange : Prop :=
  ∀ (c : Instr) (s t : State), exec c s = .next t →
    (∀ a b x y, c ≠ .powerOn a b x y) → (∀ kind body check, c ≠ .frameEnd kind body check) → c ≠ .heldRequestTaken →
    c ≠ .lineFreeSend →
      (t.stocks ≠ s.stocks → ∃ q, c = .setStock q)
        ∧ (t.work.floor ≠ s.work.floor → ∃ v, c = .setFloor v)
        ∧ (t.work.placeSeq ≠ s.work.placeSeq → ∃ q, c = .placeOrder q)
        ∧ (t.stand.settings ≠ s.stand.settings → ∃ q, c = .setStand q)
        ∧ ((t.tally.mountRate, t.tally.rushClass, t.tally.surcharge) ≠ (s.tally.mountRate, s.tally.rushClass, s.tally.surcharge) →
            ∃ m h x, c = .setRates m h x)
        ∧ (t.tally.period ≠ s.tally.period → c = .closePeriod)
        ∧ (t.labels.date ≠ s.labels.date → ∃ d, c = .setDate d)
        ∧ (t.profiles.pointer ≠ s.profiles.pointer → ∃ k, c = .setPlacement k)
        ∧ (t.profiles.ranges ≠ s.profiles.ranges → (∃ k b e p, c = .setRange k b e p) ∨ ∃ x k, c = .dropProfile x k)
        ∧ (t.feeder.map ≠ s.feeder.map →
            (∃ es, c = .mapTray es) ∨ c = .trayOut ∨ c = .gateCleared ∨ c = .returnComplete)
        ∧ (t.film.loadSeq ≠ s.film.loadSeq → ∃ b r k f, c = .loadRoll b r k f)
        ∧ (t.film.unloadSeq ≠ s.film.unloadSeq → (∃ b, c = .unloadBack b) ∨ ∃ b, c = .clearBack b)
        ∧ (t.freeIx ≠ s.freeIx → c = .readHead)
        ∧ t.link.rate = s.link.rate ∧ t.pending = s.pending

/-! ## Orders and the work list -/

/-- PLACE ORDER: its four tests in order, the record made, the placement sequence given and counted on, ORDER CHANGED with
PENDING, and then the choice where it may run. Texts are stored cut to their greatest length, "?" for characters outside
20h..7Eh. -/
def Obligations.PlaceOrder : Prop :=
  (∀ (q : PlaceReq) (s : State) (inRange isEnabled isFresh hasRoom : Prop), LinkFree s →
      (inRange ↔ (1 ≤ q.number ∧ q.number ≤ 65535) ∧ (1 ≤ q.account ∧ q.account ≤ 0xFFFE) ∧ q.lecturer ≤ 65535
        ∧ (1 ≤ q.cls ∧ q.cls ≤ 15) ∧ q.stock ≤ 3 ∧ q.n ∈ [1, 3, 5, 7, 9] ∧ q.spacing ∈ [3, 4, 6, 12]
        ∧ (-36 ≤ q.offset ∧ q.offset ≤ 36) ∧ q.magn ≤ 15 ∧ (1 ≤ q.slides.length ∧ q.slides.length ≤ 40)
        ∧ ∀ x ∈ q.slides, 1 ≤ x.cat ∧ x.cat ≤ 16777215 ∧ ∀ v ∈ x.adjust, -12 ≤ v ∧ v ≤ 12) →
      (isEnabled ↔ (s.stock q.stock).enabled = true) →
      (isFresh ↔ ∀ o ∈ s.work.orders, o.number ≠ q.number) →
      (hasRoom ↔ s.work.orders.length < 24) →
        (¬inRange → exec (.placeOrder q) s = .next (refusedWith 0x10 .range s))
          ∧ (inRange → ¬isEnabled → exec (.placeOrder q) s = .next (refusedWith 0x10 .state s))
          ∧ (inRange → isEnabled → ¬isFresh → exec (.placeOrder q) s = .next (refusedWith 0x10 .duplicate s))
          ∧ (inRange → isEnabled → isFresh → ¬hasRoom → exec (.placeOrder q) s = .next (refusedWith 0x10 .full s))
          ∧ (inRange → isEnabled → isFresh → hasRoom →
              exec (.placeOrder q) s = .next
                (replied
                  (acceptedMsg 0x10
                    (decide (32 < q.title.length) || q.slides.any fun x => x.caption.any fun c => decide (32 < c.length))
                    [.u 2 q.number, .u 4 s.work.placeSeq])
                  (fun s => eventEnd true s
                    (queueNotice (.orderChanged q.number .pending)
                      { s with work :=
                          { s.work with
                            orders := insertBy (fun a b => decide (a.seq < b.seq))
                              { number := q.number, seq := s.work.placeSeq, account := q.account, lecturer := q.lecturer,
                                cls := q.cls, stock := q.stock, n := q.n, spacing := q.spacing, offset := q.offset,
                                magn := q.magn, title := storedText 32 q.title,
                                slides := q.slides.map fun x =>
                                  { cat := x.cat, caption := x.caption.map (storedText 32), adjust := x.adjust, shift := 0,
                                    attempts := 0, outcome := .notShot },
                                state := .pending, former := none, cancelPending := false, holdPending := false }
                              s.work.orders,
                            placeSeq := (s.work.placeSeq + 1) % 4294967296 } }))
                  s)))
    ∧ (∀ (max : Nat) (t : Text),
        (storedText max t).length = min max t.length
          ∧ ∀ i < max, ∀ c : Byte, t[i]? = some c →
              (storedText max t)[i]? = some (if 0x20 ≤ c.toNat ∧ c.toNat ≤ 0x7E then c else 0x3F#8))

/-- AMEND ORDER: UNKNOWN, RANGE and STATE in that order with no field changed; on acceptance the selected fields alone change,
an order HELD with reason CEILING whose n or account is selected is released, and the choice runs where it may. That UNKNOWN
comes before RANGE is the model's choice (assumption log entry 32). -/
def Obligations.AmendOrder : Prop :=
  ∀ (q : AmendReq) (s : State) (inRange : Prop), LinkFree s →
    (inRange ↔ q.mask.toNat < 256 ∧ (q.mask.getLsbD 0 = true → 1 ≤ q.cls ∧ q.cls ≤ 15)
      ∧ (q.mask.getLsbD 1 = true → q.n ∈ [1, 3, 5, 7, 9]) ∧ (q.mask.getLsbD 2 = true → q.spacing ∈ [3, 4, 6, 12])
      ∧ (q.mask.getLsbD 3 = true → -36 ≤ q.offset ∧ q.offset ≤ 36) ∧ (q.mask.getLsbD 4 = true → q.magn ≤ 15)
      ∧ (q.mask.getLsbD 5 = true → 1 ≤ q.account ∧ q.account ≤ 0xFFFE) ∧ (q.mask.getLsbD 6 = true → q.lecturer ≤ 65535)) →
      (s.order? q.number = none → exec (.amendOrder q) s = .next (refusedWith 0x11 .unknown s))
        ∧ (∀ o, s.order? q.number = some o →
            (¬inRange → exec (.amendOrder q) s = .next (refusedWith 0x11 .range s))
              ∧ (inRange → q.mask.getLsbD 0 = true → (q.number ∈ s.work.stack ∨ o.state = .filling) →
                  exec (.amendOrder q) s = .next (refusedWith 0x11 .state s))
              ∧ (inRange → ¬(q.mask.getLsbD 0 = true ∧ (q.number ∈ s.work.stack ∨ o.state = .filling)) →
                  exec (.amendOrder q) s = .next
                    (replied (acceptedMsg 0x11 (q.mask.getLsbD 7 && decide (32 < q.title.length)) [])
                      (fun s => eventEnd true s
                        ((if o.state.isCeiling = true ∧ (q.mask.getLsbD 1 = true ∨ q.mask.getLsbD 5 = true)
                            then releaseOne q.number else id)
                          (s.onOrder q.number fun o =>
                            { o with
                              cls := if q.mask.getLsbD 0 then q.cls else o.cls,
                              n := if q.mask.getLsbD 1 then q.n else o.n,
                              spacing := if q.mask.getLsbD 2 then q.spacing else o.spacing,
                              offset := if q.mask.getLsbD 3 then q.offset else o.offset,
                              magn := if q.mask.getLsbD 4 then q.magn else o.magn,
                              account := if q.mask.getLsbD 5 then q.account else o.account,
                              lecturer := if q.mask.getLsbD 6 then q.lecturer else o.lecturer,
                              title := if q.mask.getLsbD 7 then storedText 32 q.title else o.title })))
                      s)))

/-- CANCEL ORDER and HOLD ORDER: UNKNOWN with no live order of the number; a pending mark and AT CYCLE END while the order's
cycle is in flight, else NOW with the effect made at once. A cancel that takes effect discards the order's UNSELECTED groups
with their frames on every roll, takes the order out of the stack, frees it with ORDER FINISHED (CANCELLED), and runs the close
test of each register roll it reached, in register order; it leaves no order of the number, no place in the stack, and no
UNSELECTED group of it. The numbers of AT CYCLE END and NOW are read from R193 (assumption log entry 13), and that the hold's
ORDER CHANGED comes before that of the stack's new top, and the cancel's ORDER FINISHED after it, is the model's reading
(assumption log entry 27). -/
def Obligations.CancelAndHoldOrder : Prop :=
  (∀ (number : Nat) (s : State), LinkFree s →
    (s.order? number = none →
        exec (.cancelOrder number) s = .next (refusedWith 0x12 .unknown s)
          ∧ exec (.holdOrder number) s = .next (refusedWith 0x13 .unknown s))
      ∧ ((s.order? number).isSome = true → (∃ c, s.stand.cycle = some c ∧ c.order = number) →
          exec (.cancelOrder number) s = .next
              (replied (acceptedMsg 0x12 false [.u 1 0])
                (fun s => eventEnd true s (s.onOrder number fun o => { o with cancelPending := true })) s)
            ∧ exec (.holdOrder number) s = .next
              (replied (acceptedMsg 0x13 false [.u 1 0])
                (fun s => eventEnd true s (s.onOrder number fun o => { o with holdPending := true })) s))
      ∧ ((s.order? number).isSome = true → (∀ c, s.stand.cycle = some c → c.order ≠ number) →
          exec (.cancelOrder number) s = .next
              (replied (acceptedMsg 0x12 false [.u 1 1]) (fun s => eventEnd true s (cancelEffect number s)) s)
            ∧ exec (.holdOrder number) s = .next
              (replied (acceptedMsg 0x13 false [.u 1 1])
                (fun s => eventEnd true s (removeFromStack number (setOrderState number (.held .host) none s))) s)))
    ∧ (∀ (number : Nat) (s : State),
        (∀ o ∈ (cancelEffect number s).work.orders, o.number ≠ number)
          ∧ number ∉ (cancelEffect number s).work.stack
          ∧ ∀ r ∈ (cancelEffect number s).allRolls, ∀ g ∈ r.groups, g.order = number → g.outcome ≠ .unselected)
    ∧ (∀ (number : Nat) (s t u : State) (discard : Roll → Roll), (∀ r ∈ s.allRolls, (r.groups.map fun g => g.first).Nodup) →
        (∀ r, discard r =
          { r with
            groups := r.groups.map fun g =>
              if g.order = number ∧ g.outcome = .unselected then { g with outcome := .discarded } else g,
            frames := r.frames.map fun f =>
              if r.groups.any (fun g => g.first == f.group && (g.order == number && decide (g.outcome = .unselected))) then
                { f with selection := .discarded } else f }) →
        t = { s with
              film :=
                { s.film with
                  backA := { s.film.backA with roll := s.film.backA.roll.map discard },
                  backB := { s.film.backB with roll := s.film.backB.roll.map discard } },
              register := s.register.map fun x => x.map discard } →
        u = removeFromStack number t →
        cancelEffect number s
          = ((s.registerOrder.filter fun x => x.2.groups.any fun g => g.order == number && decide (g.outcome = .unselected)).map
              fun x => x.2.id).foldl
              (fun s k => closeTest k s)
              (queueNotice (.orderCancelled number)
                { u with work := { u.work with orders := u.work.orders.filter fun o => o.number != number } }))

/-- RELEASE ORDER and SET FLOOR: a HELD order returns to PENDING, or to EXPOSED with nothing due; a pending hold mark is
cleared; any other order is refused STATE, no order UNKNOWN. A floor of 0..15 is set, one above refused RANGE. A release of all
the orders HELD for a CEILING, for FILM on a stock, or for an ORIGINAL the map now holds returns those and no other. -/
def Obligations.ReleaseOrderAndSetFloor : Prop :=
  (∀ (number : Nat) (s : State), LinkFree s →
    (s.order? number = none → exec (.releaseOrder number) s = .next (refusedWith 0x14 .unknown s))
      ∧ (∀ o, s.order? number = some o →
          ((∃ r, o.state = .held r) →
              exec (.releaseOrder number) s = .next
                (replied (acceptedMsg 0x14 false [])
                  (fun s => eventEnd true s
                    (setOrderState number (if (nextSlide o).isSome then .pending else .exposed) none s)) s))
            ∧ ((∀ r, o.state ≠ .held r) → o.holdPending = true →
                exec (.releaseOrder number) s = .next
                  (replied (acceptedMsg 0x14 false [])
                    (fun s => eventEnd true s (s.onOrder number fun o => { o with holdPending := false })) s))
            ∧ ((∀ r, o.state ≠ .held r) → o.holdPending = false →
                exec (.releaseOrder number) s = .next (refusedWith 0x14 .state s))))
    ∧ (∀ (floor : Nat) (s : State), LinkFree s →
        (floor ≤ 15 →
            exec (.setFloor floor) s = .next
              (replied (acceptedMsg 0x15 false [.u 1 floor])
                (fun s => eventEnd true s { s with work := { s.work with floor := floor } }) s))
          ∧ (15 < floor → exec (.setFloor floor) s = .next (refusedWith 0x15 .range s)))
    ∧ (∀ (s : State) (release : State → State) (test : Order → Prop), NumbersDistinct s →
        (release = releaseCeiling ∧ (∀ o, test o ↔ ∃ k, o.state = .held (.ceiling k))
          ∨ (∃ stock, release = releaseFilm stock ∧ ∀ o, test o ↔ o.state = .held .film ∧ o.stock = stock)
          ∨ release = releaseOriginal
            ∧ (∀ o, test o ↔ o.state = .held .original ∧ ∃ x p, nextCat o = some x ∧ p < 80 ∧ s.mapAt p = some x)) →
          (release s).work.orders.length = s.work.orders.length
            ∧ ∀ (i : Nat) (o : Order), s.work.orders[i]? = some o →
                (test o →
                    (release s).work.orders[i]?
                      = some { o with state := if (nextSlide o).isSome then .pending else .exposed, former := none })
                  ∧ (¬test o → (release s).work.orders[i]? = some o))

/-- The next slide is the lowest NOT_SHOT, else the lowest RESHOOT_DUE, else none; a change of an order's state queues one ORDER
CHANGED just when the state or hold reason changes. An order whose slides are all KEPT or REJECTED is finished and freed with
its counts; an EXPOSED order with a slide due again becomes PENDING. That an order which finishes leaves the stack before its
ORDER FINISHED is queued is read from the order of R24 (assumption log entry 27). -/
def Obligations.NextSlideAndOrderChanged : Prop :=
  (∀ (o : Order) (i : Nat),
    nextSlide o = some i ↔
      (∃ x, o.slides[i]? = some x
        ∧ ((x.outcome = .notShot ∧ ∀ j < i, ∀ y, o.slides[j]? = some y → y.outcome ≠ .notShot)
          ∨ (x.outcome = .reshootDue ∧ (∀ y ∈ o.slides, y.outcome ≠ .notShot)
              ∧ ∀ j < i, ∀ y, o.slides[j]? = some y → y.outcome ≠ .reshootDue))))
    ∧ (∀ o : Order, nextSlide o = none ↔ ∀ x ∈ o.slides, x.outcome ≠ .notShot ∧ x.outcome ≠ .reshootDue)
    ∧ (∀ (number : Nat) (st : OrderState) (former : Option FormerState) (s : State) (o : Order), s.order? number = some o →
        setOrderState number st former s
          = (if o.state = st then id else queueNotice (.orderChanged number st))
              { s with work :=
                  { s.work with orders := s.work.orders.map fun o =>
                      if o.number = number then { o with state := st, former := former } else o } })
    ∧ (∀ (number : Nat) (s : State) (o : Order), s.order? number = some o →
      ((∀ x ∈ o.slides, x.outcome = .kept ∨ x.outcome = .rejected) →
          (∀ p ∈ (takeOutcomeChange number s).work.orders, p.number ≠ number) ∧ number ∉ (takeOutcomeChange number s).work.stack
            ∧ takeOutcomeChange number s
                = queueNotice
                    (.orderCompleted number (o.slides.countP fun x => x.outcome = .kept) (o.slides.countP fun x => x.outcome = .rejected))
                    (freeOrder number (removeFromStack number s)))
        ∧ (¬(∀ x ∈ o.slides, x.outcome = .kept ∨ x.outcome = .rejected) →
            (o.state = .exposed → nextSlide o ≠ none → takeOutcomeChange number s = setOrderState number .pending none s)
              ∧ (¬(o.state = .exposed ∧ nextSlide o ≠ none) → takeOutcomeChange number s = s)))

/-- How every event ends: the choice runs when the stand is RUNNING with no cycle in flight and the event is one of R10's, and
one STAND CHANGED is queued just when the stand state, halt reason, lamp state or tray-present state has changed. That R10's
events are read by comparing the state before with the state after, and that the choice runs before STAND CHANGED is queued, are
the model's readings (assumption log entries 11 and 10). -/
def Obligations.EventsEndByTheirRules : Prop :=
  ∀ (asked : Bool) (s t : State) (event : Prop),
    (event ↔ asked = true ∨ (s.stand.mode ≠ .running ∧ t.stand.mode = .running)
      ∨ (s.stand.cycle.isSome = true ∧ t.stand.cycle = none)
      ∨ (∃ o ∈ s.work.orders, (∀ p ∈ t.work.orders, ¬(p.number = o.number ∧ p.seq = o.seq))
          ∨ ∃ p, (t.work.orders.find? fun p => p.number == o.number && p.seq == o.seq) = some p
              ∧ (((∃ r, o.state = .held r) ∧ ∀ r, p.state ≠ .held r) ∨ (o.state = .exposed ∧ p.state = .pending)))
      ∨ (∃ b, (s.back b).state ≠ .ready ∧ (t.back b).state = .ready)
      ∨ s.stand.settings.fill ≠ t.stand.settings.fill) →
      ∃ u : State,
        u = (if t.stand.mode = .running ∧ t.stand.cycle = none then
              (open Classical in if event then choiceLoop (t.work.orders.length + 3) t else t)
            else t)
          ∧ ((s.stand.mode, s.head.lamp, s.feeder.present) = (u.stand.mode, u.head.lamp, u.feeder.present) →
              eventEnd asked s t = u)
          ∧ ((s.stand.mode, s.head.lamp, s.feeder.present) ≠ (u.stand.mode, u.head.lamp, u.feeder.present) →
              eventEnd asked s t = queueNotice (.standChanged u.stand.mode u.head.lamp u.feeder.present) u)

/-- The test of the stack top's next slide, in the order original, film, fit, ceiling; and the back a bracket goes to: the one
at the camera position when it is READY with a roll of the stock and frames enough, else the other such back. The PENDING order
of highest class, the first in the list (which is kept oldest placement first) among equals, is pushed when its class is above
both the floor and the class of the stack's top and the stack holds fewer than 4: it becomes ACTIVE and the former top
PREEMPTED, or, FILLING, of former state PREEMPTED. Else the stack stays as it is. -/
def Obligations.PushAndTopSlideTests : Prop :=
  (∀ (s : State) (stock n : Nat) (takes : BackId → Prop) (b : BackId),
    (∀ b, takes b ↔ (s.back b).state = .ready
      ∧ ∃ r, (s.back b).roll = some r ∧ r.stock = stock ∧ r.endMark = none ∧ n ≤ r.declared + 1 - r.next) → 0 < n →
      (findBack s stock n = some b ↔ takes b ∧ (b = cameraBack s ∨ ¬takes (cameraBack s))))
    ∧ (∀ (s : State) (o : Order) (x : Nat), nextCat o = some x →
        ((∀ p < 80, s.mapAt p ≠ some x) → testTop s o = .hold .original)
          ∧ ((∃ p < 80, s.mapAt p = some x) →
              (∀ b, ¬((s.back b).state = .ready ∧ ∃ r, (s.back b).roll = some r ∧ r.stock = o.stock)) →
              testTop s o = .hold .film)
          ∧ (∀ b, (∃ p < 80, s.mapAt p = some x) → findBack s o.stock o.n = some b →
              (∀ k, ceilingCheck s o.account o.stock o.cls o.n = some k → testTop s o = .hold (.ceiling k))
                ∧ (ceilingCheck s o.account o.stock o.cls o.n = none → testTop s o = .start o b))
          ∧ (∀ b, (∃ p < 80, s.mapAt p = some x) → findBack s o.stock o.n = none → s.stand.settings.fill = false →
              backToClose s o.stock = some b → testTop s o = .close b)
          ∧ (∀ p b, (∃ p < 80, s.mapAt p = some x) → findBack s o.stock o.n = none → filmTest s o.stock = true →
              s.stand.settings.fill = true → fillCandidate s o.stock = some p → findBack s p.stock p.n = some b →
              testTop s o = .fill p b))
    ∧ (∀ (s : State),
          (∀ c, candidate s = some c → c.state = .pending ∧ (∀ o ∈ s.work.orders, o.state = .pending → o.cls ≤ c.cls)
              ∧ ∃ older younger, s.work.orders = older ++ c :: younger ∧ ∀ o ∈ older, o.state = .pending → o.cls < c.cls)
            ∧ (candidate s = none ↔ ∀ o ∈ s.work.orders, o.state ≠ .pending)
            ∧ (∀ c, candidate s = some c → s.work.floor < c.cls → (∀ top, s.work.stack.head?.bind s.order? = some top → top.cls < c.cls) →
                s.work.stack.length < 4 →
                (pushCandidate s).work.stack = c.number :: s.work.stack
                  ∧ ∀ t : State,
                      t = setOrderState c.number .active none
                        { s with work := { s.work with stack := c.number :: s.work.stack } } →
                        (s.work.stack = [] → pushCandidate s = t)
                          ∧ ∀ top o, s.work.stack.head? = some top → s.order? top = some o → top ≠ c.number →
                              (o.state ≠ .filling → pushCandidate s = setOrderState top .preempted none t)
                                ∧ (o.state = .filling →
                                    pushCandidate s = t.onOrder top fun o => { o with former := some .preempted }))
            ∧ (∀ c, candidate s = some c →
                (c.cls ≤ s.work.floor ∨ (∃ top, s.work.stack.head?.bind s.order? = some top ∧ c.cls ≤ top.cls) ∨ 4 ≤ s.work.stack.length) →
                pushCandidate s = s))

/-- The choice, step by step. A stack top with nothing due is popped and becomes EXPOSED, and an order that leaves the stack
makes the order then at the top ACTIVE, or, FILLING, of former state ACTIVE. With the stack empty nothing starts; a failed test
holds the top and the choice goes on; a passed one starts the slide; with no back that fits, the fill candidate's slide is
started with its former state recorded, or, with FILL off or no candidate, a READY back of the stock is made FULL and the choice
goes on: the one with fewer remaining frames, A when they are equal. The back at the camera position is the one the turret
stands at or turns to, and A while it is UNKNOWN. The loop ends by its own rule: with room for three repetitions more than there
are live orders, further room changes nothing. That a held or popped order's ORDER CHANGED comes before that of the new top is
the model's reading (assumption log entry 27). -/
def Obligations.ChoiceRepeatsFillsAndCloses : Prop :=
  (∀ (n : Nat) (s : State) (top : Nat) (rest : List Nat) (o : Order), s.work.stack = top :: rest → s.order? top = some o →
    (nextSlide o ≠ none → popDone n s = s)
      ∧ (nextSlide o = none → popDone (n + 1) s = popDone n (removeFromStack top (setOrderState top .exposed none s))))
    ∧ (∀ (n : Nat) (s : State), s.work.stack = [] → popDone n s = s)
    ∧ (∀ (number : Nat) (s t : State), t = { s with work := { s.work with stack := s.work.stack.filter fun k => k != number } } →
        (number ∉ s.work.stack → removeFromStack number s = s)
          ∧ (number ∈ s.work.stack → t.work.stack = [] → removeFromStack number s = t)
          ∧ ∀ top o, number ∈ s.work.stack → t.work.stack.head? = some top → t.order? top = some o →
              (o.state ≠ .filling → removeFromStack number s = setOrderState top .active none t)
                ∧ (o.state = .filling → removeFromStack number s = t.onOrder top fun o => { o with former := some .active }))
    ∧ (∀ (n : Nat) (s t : State), t = pushCandidate (popDone s.work.stack.length s) →
        (t.work.stack = [] → choiceLoop (n + 1) s = t)
          ∧ ∀ top o, t.work.stack.head? = some top → t.order? top = some o →
              (∀ reason, testTop t o = .hold reason →
                  choiceLoop (n + 1) s = choiceLoop n (removeFromStack o.number (setOrderState o.number (.held reason) none t)))
                ∧ (∀ p b, testTop t o = .start p b → choiceLoop (n + 1) s = startSlide p b t)
                ∧ (∀ p b, testTop t o = .fill p b →
                    choiceLoop (n + 1) s
                      = startSlide p b
                          (setOrderState p.number .filling (some (if p.state = .preempted then .preempted else .pending)) t))
                ∧ (∀ b, testTop t o = .close b → (t.back b).state = .ready →
                    choiceLoop (n + 1) s = choiceLoop n (setBackState b .full t)))
    ∧ (∀ (s : State) (n : Nat), s.work.orders.length + 3 ≤ n → choiceLoop (n + 1) s = choiceLoop n s)
    ∧ (∀ (s : State) (o : Order) (x : Nat) (b : BackId), nextCat o = some x → (∃ p < 80, s.mapAt p = some x) →
        findBack s o.stock o.n = none → filmTest s o.stock = true → fillCandidate s o.stock = none →
        backToClose s o.stock = some b → testTop s o = .close b)
    ∧ (∀ (s : State) (stock : Nat) (eligible : Order → Prop),
        (∀ o, eligible o ↔ o.stock = stock ∧ (o.state = .pending ∨ o.state = .preempted) ∧ s.work.floor < o.cls
          ∧ (∃ x p, nextCat o = some x ∧ p < 80 ∧ s.mapAt p = some x) ∧ findBack s o.stock o.n ≠ none
          ∧ ceilingCheck s o.account o.stock o.cls o.n = none) →
          (∀ c, fillCandidate s stock = some c → eligible c ∧ (∀ o ∈ s.work.orders, eligible o → o.cls ≤ c.cls)
              ∧ ∃ older younger, s.work.orders = older ++ c :: younger ∧ ∀ o ∈ older, eligible o → o.cls < c.cls)
            ∧ (fillCandidate s stock = none ↔ ∀ o ∈ s.work.orders, ¬eligible o))
    ∧ (∀ (s : State) (stock : Nat) (holds : BackId → Prop) (remaining : BackId → Nat),
        (∀ b, holds b ↔ (s.back b).state = .ready ∧ ∃ r, (s.back b).roll = some r ∧ r.stock = stock) →
        (∀ b r, (s.back b).roll = some r → remaining b = if r.endMark = none then r.declared + 1 - r.next else 0) →
          (backToClose s stock = some .backA ↔ holds .backA ∧ (holds .backB → remaining .backA ≤ remaining .backB))
            ∧ (backToClose s stock = some .backB ↔ holds .backB ∧ (holds .backA → remaining .backB < remaining .backA))
            ∧ (filmTest s stock = true ↔ holds .backA ∨ holds .backB))
    ∧ (∀ (s : State) (b : BackId), ((s.film.turret = .stands b ∨ s.film.turret = .turning b) → cameraBack s = b)
        ∧ (s.film.turret = .unknown → cameraBack s = .backA))

/-- A choice that leaves a cycle in flight has started a slide that passed the original, film, fit and ceiling tests: the tray
map holds its number at the cycle's position, its back is READY with a roll of the stock and frames enough, and no counter
fails. -/
def Obligations.ChoiceStartsTestedSlides : Prop :=
  ∀ (s t : State) (c : Cycle), s.stand.cycle = none → runChoice s = t → t.stand.cycle = some c →
    t.stand.mode = .running ∧ t.mapAt c.pos = some c.cat
      ∧ (t.back c.back).state = .ready
      ∧ (∃ r, (t.back c.back).roll = some r ∧ r.stock = c.stock ∧ c.n ≤ r.remaining)
      ∧ ceilingCheck t c.account c.stock c.cls c.n = none
      ∧ c.phase = .loading ∧ c.plan = none ∧ c.groupFirst = none ∧ c.cause = none

/-! ## Exposure arithmetic -/

/-- The terms of a bracket plan: D from the five readings, in twelfths 2 × D / 5 rounded half up (0..160 for D in 0..400, with
the eight values the rule shows), M the rounded 24 × log2(1 + 0.1 × c), the clamped adjustment term, the centre S as the sum of
its terms, and the n steps in rising j with E_j = S + j × spacing and the DENSE flag on each. -/
def Obligations.BracketPlanTerms : Prop :=
  (∀ c ul ur ll lr : Nat,
      16 * effectiveDensity c ul ur ll lr ≤ 2 * (4 * c + ul + ur + ll + lr) + 8
        ∧ 2 * (4 * c + ul + ur + ll + lr) + 8 < 16 * (effectiveDensity c ul ur ll lr + 1))
    ∧ (∀ d : Nat, 10 * densityTwelfths d ≤ 4 * d + 5 ∧ 4 * d + 5 < 10 * (densityTwelfths d + 1))
    ∧ (∀ d ≤ 400, densityTwelfths d ≤ 160)
    ∧ [0, 1, 2, 8, 30, 111, 112, 400].map densityTwelfths = [0, 0, 1, 3, 12, 44, 45, 160]
    ∧ (∀ c ≤ 15, ∀ m, magnCorrection c = m →
        10 ^ 48 * 4 ^ m ≤ (10 + c) ^ 48 * 2 ∧ (10 + c) ^ 48 < 10 ^ 48 * 2 ^ (2 * m + 1))
    ∧ (∀ adjust shift : Int,
        (adjust + shift < -48 → adjustTerm adjust shift = -48) ∧ (48 < adjust + shift → adjustTerm adjust shift = 48)
          ∧ (-48 ≤ adjust + shift ∧ adjust + shift ≤ 48 → adjustTerm adjust shift = adjust + shift))
    ∧ (∀ (stock : StockEntry) (c : Cycle) (d : Nat) (dense : Bool) (plan : Plan), plan = computePlan stock c d dense →
        plan.d = d ∧ plan.dt = densityTwelfths d ∧ plan.m = magnCorrection c.magn ∧ plan.a = adjustTerm c.adjust c.shift
          ∧ plan.s = (stock.eRef : Int) + plan.dt + plan.m + stock.filter + c.profile.p + c.offset + plan.a
          ∧ ∀ h : Nat, c.n = 2 * h + 1 →
              plan.steps.length = c.n
                ∧ ∀ (i : Nat) (p : PlanStep), plan.steps[i]? = some p →
                    p.j = (i : Int) - h ∧ p.e = plan.s + p.j * c.spacing ∧ p.dense = dense
                      ∧ p.ticks = codeTicks p.code
                      ∧ (p.code, p.nd, p.shortClamp, p.longClamp)
                          = ((realise stock.k p.e).code, (realise stock.k p.e).nd, (realise stock.k p.e).shortClamp,
                              (realise stock.k p.e).longClamp))

/-- Stage 6 on the short side, in the middle, and on the long side with reciprocity, each with its clamp; and every step of
every plan is realised within the shutter and the slider: code 24..180, ND 0, 12, 24 or 36, the ticks of its code, never both
clamp flags. -/
def Obligations.StepRealisation : Prop :=
  (∀ (k : Nat) (e : Int), e < 24 → ∀ stops : Nat, (24 ≤ e + 12 * stops ∧ e + 12 * stops < 36) →
      (12 * stops ≤ 36 →
          realise k e = { code := (e + 12 * stops).toNat, nd := 12 * stops, shortClamp := false, longClamp := false }
            ∧ ((realise k e).code : Int) - (realise k e).nd = e ∧ 24 ≤ (realise k e).code ∧ (realise k e).code ≤ 35)
        ∧ (36 < 12 * stops ↔ e ≤ -13)
        ∧ (36 < 12 * stops → realise k e = { code := 24, nd := 36, shortClamp := true, longClamp := false }))
    ∧ (∀ e : Int, e < 24 → ∃ stops : Nat, 24 ≤ e + 12 * stops ∧ e + 12 * stops < 36)
    ∧ (∀ (k : Nat) (e : Int), 24 ≤ e → e ≤ 120 →
        realise k e = { code := e.toNat, nd := 0, shortClamp := false, longClamp := false })
    ∧ (∀ (k : Nat) (e e' : Int), 120 < e →
        (24 * (e' - e) ≤ 2 * ((e - 120) * k) + 12 ∧ 2 * ((e - 120) * k) + 12 < 24 * (e' - e + 1)) →
        (e' ≤ 180 → realise k e = { code := e'.toNat, nd := 0, shortClamp := false, longClamp := false })
          ∧ (180 < e' → realise k e = { code := 180, nd := 0, shortClamp := false, longClamp := true })
          ∧ (k = 0 → e' = e))
    ∧ (∀ (stock : StockEntry) (c : Cycle) (d : Nat) (dense : Bool), ∀ p ∈ (computePlan stock c d dense).steps,
        24 ≤ p.code ∧ p.code ≤ 180 ∧ p.nd ∈ [0, 12, 24, 36] ∧ p.ticks = codeTicks p.code ∧ 40 ≤ p.ticks ∧ p.ticks ≤ 327680
          ∧ ¬(p.shortClamp = true ∧ p.longClamp = true) ∧ (p.nd ≠ 0 → p.code ≤ 35))

/-- The ticks of a code 12 × q + r: the mantissa of r, which is 1,000 × 2^(r/12) rounded to the nearest whole number, times 2^q,
over 100, rounded half up; 40..327,680 for the codes 24..180, and doubled by each whole stop of the table. -/
def Obligations.ShutterTicks : Prop :=
  (∀ (q r m : Nat), r < 12 →
      (2 * m - 1) ^ 12 < 2 ^ 12 * 1000 ^ 12 * 2 ^ r ∧ 2 ^ 12 * 1000 ^ 12 * 2 ^ r < (2 * m + 1) ^ 12 →
      200 * codeTicks (12 * q + r) ≤ 2 * (m * 2 ^ q) + 100 ∧ 2 * (m * 2 ^ q) + 100 < 200 * (codeTicks (12 * q + r) + 1))
    ∧ (∀ r < 12, ∃ m, (2 * m - 1) ^ 12 < 2 ^ 12 * 1000 ^ 12 * 2 ^ r ∧ 2 ^ 12 * 1000 ^ 12 * 2 ^ r < (2 * m + 1) ^ 12)
    ∧ (∀ code : Nat, 24 ≤ code → code ≤ 180 → 40 ≤ codeTicks code ∧ codeTicks code ≤ 327680)
    ∧ (∀ q : Nat, 2 ≤ q → codeTicks (12 * q) = 10 * 2 ^ q)
    ∧ (List.range 12).map (fun i => codeTicks (24 + i)) = [40, 42, 45, 48, 50, 53, 57, 60, 63, 67, 71, 76]

/-! ## Stock table and profile table -/

/-- The slot a write of a catalogue number goes to: in place, the pointer's slot, or the victim, with what it displaces. -/
def Obligations.SlotForAWrite : Prop :=
  ∀ (t : ProfileTable) (x : Nat) (holds : Nat → Prop),
    (∀ k, holds k ↔ (∃ e, t.original? k = some e ∧ e.cat = x) ∧ ∀ j < k, ∀ e, t.original? j = some e → e.cat ≠ x) →
      (∀ k, holds k → (t.pointer = none ∨ t.pointer = some k) →
          t.choose x = some { slot := k, inPlace := true, table := t, displaced := [] })
        ∧ (∀ p k, holds k → t.pointer = some p → p ≠ k →
            t.choose x = some { slot := p, inPlace := false, table := t.setOriginal k none, displaced := t.catsAt p ++ [x] })
        ∧ (∀ p, (∀ k, ¬holds k) → t.pointer = some p →
            t.choose x = some { slot := p, inPlace := false, table := t, displaced := t.catsAt p })
        ∧ ((∀ k, ¬holds k) → t.pointer = none →
            (∀ k < 48, t.original? k = none → (∀ j < k, t.original? j ≠ none) →
                t.choose x = some { slot := k, inPlace := false, table := t, displaced := [] })
              ∧ (∀ k e, (∀ j < 48, t.original? j ≠ none) → t.original? k = some e → e.mode = .learned → e.used = false →
                  (∀ j < k, ∀ f, t.original? j = some f → f.mode = .learned → f.used = true) →
                  t.choose x = some { slot := k, inPlace := false, table := t, displaced := [e.cat] })
              ∧ (∀ k e, (∀ j < 48, ∃ f, t.original? j = some f ∧ (f.mode = .learned → f.used = true)) → t.original? k = some e →
                  e.mode = .learned → (∀ j < k, ∀ f, t.original? j = some f → f.mode ≠ .learned) →
                  ∃ u : ProfileTable,
                    t.choose x = some { slot := k, inPlace := false, table := u, displaced := [e.cat] }
                      ∧ u.ranges = t.ranges ∧ u.pointer = t.pointer
                      ∧ ∀ j f, t.original? j = some f →
                          u.original? j = some (if f.mode = .learned then { f with used := false } else f))
              ∧ ((∀ j < 48, ∃ f, t.original? j = some f ∧ f.mode ≠ .learned) → t.choose x = none))

/-- SET STOCK, SET PROFILE, SET RANGE, DROP PROFILE and SET PLACEMENT with their tests, what they store and what they carry. SET
STOCK: RANGE, then STATE with a cycle of the stock in flight, then STATE when it disables a stock a live order names or a back
holds a roll of; else the whole entry is stored at once, its name cut to 8 characters. SET PROFILE: RANGE on any value, or on a
fixed density with a mode other than MANUAL, FULL with no slot; else the chosen slot holds the entry: in place it keeps its used
mark and uses, elsewhere it is marked used with none. How EMPTY, the used mark and the displaced numbers are carried is the
model's choice (assumption log entry 34). -/
def Obligations.TableRequests : Prop :=
  (∀ (cat mode : Nat) (p : Int) (fixed : Option Nat) (s : State) (inRange : Prop), LinkFree s →
    (inRange ↔ (1 ≤ cat ∧ cat ≤ 16777215) ∧ mode ≤ 2 ∧ (-24 ≤ p ∧ p ≤ 24) ∧ ∀ d ∈ fixed, d ≤ 400 ∧ mode = 1) →
      (¬inRange → exec (.setProfile cat mode p fixed) s = .next (refusedWith 0x19 .range s))
        ∧ (inRange → s.profiles.choose cat = none → exec (.setProfile cat mode p fixed) s = .next (refusedWith 0x19 .full s))
        ∧ (∀ (c : SlotChoice) (entry : OriginalEntry), inRange → s.profiles.choose cat = some c →
            (∃ m, (mode, m) ∈ [(0, ProfileMode.learned), (1, .manual), (2, .noLearn)]
              ∧ entry.cat = cat ∧ entry.mode = m ∧ entry.p = (if mode = 2 then 0 else p) ∧ entry.fixed = fixed
              ∧ entry.last = none) →
            (∀ old, c.inPlace = true → c.table.original? c.slot = some old → entry.used = old.used ∧ entry.uses = old.uses) →
            ((c.inPlace = false ∨ c.table.original? c.slot = none) → entry.used = true ∧ entry.uses = 0) →
            exec (.setProfile cat mode p fixed) s = .next
              (replied
                (acceptedMsg 0x19 false
                  (.u 1 c.slot :: originalFields (some entry) ++ listFields (fun x => [.u 3 x]) c.displaced))
                (fun s => { s with profiles := c.table.setOriginal c.slot (some entry) }) s)))
    ∧ (∀ s : State, LinkFree s →
        (∀ (slot base exponent : Nat) (p : Int) (ok : Prop),
          (ok ↔ slot ≤ 7 ∧ base ≤ 16777215 ∧ (4 ≤ exponent ∧ exponent ≤ 12) ∧ (-24 ≤ p ∧ p ≤ 24) ∧ base % 2 ^ exponent = 0) →
            (¬ok → exec (.setRange slot base exponent p) s = .next (refusedWith 0x1A .range s))
              ∧ (ok →
                  exec (.setRange slot base exponent p) s = .next
                    (replied
                      (acceptedMsg 0x1A false
                        [.u 1 slot, .u 1 1, .u 3 base, .u 1 exponent, .i 1 p, .u 3 (base + 2 ^ exponent - 1)])
                      (fun s =>
                        { s with profiles :=
                            { s.profiles with
                              ranges := s.profiles.ranges.setIfInBounds slot (some { base := base, exponent := exponent, p := p }) } })
                      s)))
          ∧ (∀ (table slot : Nat) (ok : Prop), (ok ↔ (table = 0 ∧ slot ≤ 47) ∨ (table = 1 ∧ slot ≤ 7)) →
              (¬ok → exec (.dropProfile table slot) s = .next (refusedWith 0x1B .range s))
                ∧ (ok → table = 0 →
                    exec (.dropProfile table slot) s = .next
                      (replied
                        (acceptedMsg 0x1B false
                          (match s.profiles.original? slot with | some e => [.u 1 1, .u 3 e.cat] | none => [.u 1 0]))
                        (fun s => { s with profiles := { s.profiles with originals := s.profiles.originals.setIfInBounds slot none } })
                        s))
                ∧ (ok → table = 1 →
                    exec (.dropProfile table slot) s = .next
                      (replied
                        (acceptedMsg 0x1B false
                          (match s.profiles.range? slot with | some r => [.u 1 1, .u 3 r.base, .u 1 r.exponent] | none => [.u 1 0]))
                        (fun s => { s with profiles := { s.profiles with ranges := s.profiles.ranges.setIfInBounds slot none } }) s)))
          ∧ (∀ slot : Nat,
              (47 < slot → slot ≠ 63 → exec (.setPlacement slot) s = .next (refusedWith 0x1C .range s))
                ∧ (slot ≤ 47 →
                    exec (.setPlacement slot) s = .next
                      (replied (acceptedMsg 0x1C false [.u 1 slot])
                        (fun s => { s with profiles := { s.profiles with pointer := some slot } }) s))
                ∧ (slot = 63 →
                    exec (.setPlacement slot) s = .next
                      (replied (acceptedMsg 0x1C false [.u 1 63])
                        (fun s => { s with profiles := { s.profiles with pointer := none } }) s))))
    ∧ ∀ (q : StockReq) (s : State) (inRange inCycle inUse : Prop) (entry : StockEntry), LinkFree s →
        (inRange ↔ q.stock ≤ 3 ∧ q.enabled ≤ 1 ∧ (24 ≤ q.eRef ∧ q.eRef ≤ 180) ∧ q.k ≤ 6 ∧ q.filter ≤ 36 ∧ q.rate ≤ 9999) →
        (inCycle ↔ ∃ c, s.stand.cycle = some c ∧ c.stock = q.stock) →
        (inUse ↔ (∃ o ∈ s.work.orders, o.stock = q.stock)
          ∨ ∃ b r, (s.back b).state ≠ .empty ∧ (s.back b).roll = some r ∧ r.stock = q.stock) →
        entry = { enabled := decide (q.enabled ≠ 0), name := storedText 8 q.name, eRef := q.eRef, k := q.k, filter := q.filter,
                  rate := q.rate } →
          (¬inRange → exec (.setStock q) s = .next (refusedWith 0x17 .range s))
            ∧ (inRange → inCycle → exec (.setStock q) s = .next (refusedWith 0x17 .state s))
            ∧ (inRange → ¬inCycle → q.enabled = 0 → inUse → exec (.setStock q) s = .next (refusedWith 0x17 .state s))
            ∧ (inRange → ¬inCycle → ¬(q.enabled = 0 ∧ inUse) →
                exec (.setStock q) s = .next
                  (replied (acceptedMsg 0x17 (decide (8 < q.name.length)) (.u 1 q.stock :: entry.fields))
                    (fun s => { s with stocks := s.stocks.setIfInBounds q.stock entry }) s))

/-- The lookup: the LEARNED or MANUAL entry of the number, else the lowest range entry whose span holds it, else a miss; and the
mark it leaves on the original entry that served it. -/
def Obligations.ProfileLookup : Prop :=
  ∀ (t : ProfileTable) (x : Nat),
    (∀ k e, t.original? k = some e → e.cat = x → (∀ j < k, ∀ f, t.original? j = some f → f.cat ≠ x) →
        (e.mode = .learned → t.lookup x = { source := .original k, p := e.p, fixed := none })
          ∧ (e.mode = .manual → t.lookup x = { source := .original k, p := e.p, fixed := e.fixed })
          ∧ t.mark (.original k) = t.setOriginal k (some { e with used := true, uses := if e.uses < 255 then e.uses + 1 else 255 }))
      ∧ ((∀ k e, t.original? k = some e → e.cat = x → e.mode = .noLearn) →
          (∀ k r, t.range? k = some r → (r.base ≤ x ∧ x < r.base + 2 ^ r.exponent) →
              (∀ j < k, ∀ q, t.range? j = some q → ¬(q.base ≤ x ∧ x < q.base + 2 ^ q.exponent)) →
              t.lookup x = { source := .range k, p := r.p, fixed := none })
            ∧ ((∀ k r, t.range? k = some r → ¬(r.base ≤ x ∧ x < r.base + 2 ^ r.exponent)) →
                t.lookup x = { source := .miss, p := 0, fixed := none }))
      ∧ (∀ k, t.mark (.range k) = t) ∧ t.mark .miss = t

/-- Learning: half the distance of the kept step, or of one step beyond the rejected bracket, rounded toward zero; a LEARNED
entry moves by it, a MANUAL or NOLEARN one stays, a number not held is written LEARNED from the group's P used, or dropped. -/
def Obligations.Learning : Prop :=
  (∀ (n spacing : Nat) (j : Int),
    2 * (learnDelta n spacing (.kept j)).natAbs ≤ (j * spacing).natAbs
      ∧ (j * spacing).natAbs ≤ 2 * (learnDelta n spacing (.kept j)).natAbs + 1
      ∧ 0 ≤ learnDelta n spacing (.kept j) * (j * spacing))
    ∧ (∀ (h spacing : Nat),
        2 * learnDelta (2 * h + 1) spacing .under ≤ ((h + 1) * spacing : Nat)
          ∧ ((h + 1) * spacing : Nat) ≤ 2 * learnDelta (2 * h + 1) spacing .under + 1
          ∧ learnDelta (2 * h + 1) spacing .over = -learnDelta (2 * h + 1) spacing .under)
    ∧ (∀ (t : ProfileTable) (x n spacing : Nat) (pUsed : Int) (step : LastStep),
        (∀ k e, t.original? k = some e → e.cat = x → (∀ j < k, ∀ f, t.original? j = some f → f.cat ≠ x) →
            (e.mode = .learned →
                t.learn x n spacing pUsed step
                  = (t.setOriginal k
                      (some { e with p := max (-24) (min 24 (e.p + learnDelta n spacing step)), used := true, last := some step }),
                    .updated k))
              ∧ (e.mode ≠ .learned → t.learn x n spacing pUsed step = (t, .unchanged)))
          ∧ ((∀ k e, t.original? k = some e → e.cat ≠ x) →
              (t.choose x = none → t.learn x n spacing pUsed step = (t, .dropped))
                ∧ ∀ c, t.choose x = some c →
                    t.learn x n spacing pUsed step
                      = (c.table.setOriginal c.slot
                          (some
                            { cat := x, mode := .learned, p := max (-24) (min 24 (pUsed + learnDelta n spacing step)), fixed := none,
                              used := true, uses := 0, last := some step }),
                        .inserted c.slot c.displaced.head?)))

/-! ## Tray, light head, and the reads -/

/-- MAP TRAY: RANGE unless it carries 1..60 entries, STATE with the tray ABSENT; else its entries are taken one at a time, each
with its result RANGE, BUSY, DUPLICATE with the other position, or DONE, and then the ORIGINAL holds its map now serves are
released. -/
def Obligations.MapTray : Prop :=
  (∀ (es : List TrayReq) (s : State), LinkFree s →
    (¬(1 ≤ es.length ∧ es.length ≤ 60) → exec (.mapTray es) s = .next (refusedWith 0x1E .range s))
      ∧ (1 ≤ es.length → es.length ≤ 60 → s.feeder.present = false →
          exec (.mapTray es) s = .next (refusedWith 0x1E .state s))
      ∧ (1 ≤ es.length → es.length ≤ 60 → s.feeder.present = true →
          exec (.mapTray es) s = .next
            (replied (acceptedMsg 0x1E false (listFields TrayResult.fields (mapEntries es s).2))
              (fun s => eventEnd true s (releaseOriginal (mapEntries es s).1)) s)))
    ∧ [TrayResult.range, .busy, .done].map TrayResult.fields = [[.u 1 0], [.u 1 1], [.u 1 3]]
    ∧ (∀ p : Nat, (TrayResult.duplicate p).fields = [.u 1 2, .u 1 p])
    ∧ (∀ s : State, mapEntries [] s = (s, []))
    ∧ (∀ (e : TrayReq) (es : List TrayReq) (s : State) (inRange busy : Prop),
        (inRange ↔ e.pos ≤ 79 ∧ e.cat ≤ 16777215) → (busy ↔ e.pos ∈ s.feeder.feedBusy ∨ ∃ x, s.feeder.gate = .holds e.pos x) →
          (¬inRange → mapEntries (e :: es) s = ((mapEntries es s).1, .range :: (mapEntries es s).2))
            ∧ (inRange → busy → mapEntries (e :: es) s = ((mapEntries es s).1, .busy :: (mapEntries es s).2))
            ∧ (∀ p < 80, inRange → ¬busy → e.cat ≠ 0 → p ≠ e.pos → s.mapAt p = some e.cat →
                (∀ q < p, q ≠ e.pos → s.mapAt q ≠ some e.cat) →
                mapEntries (e :: es) s = ((mapEntries es s).1, .duplicate p :: (mapEntries es s).2))
            ∧ (∀ t : State, inRange → ¬busy → (e.cat = 0 ∨ ∀ p < 80, p ≠ e.pos → s.mapAt p ≠ some e.cat) →
                t = { s with feeder :=
                        { s.feeder with map := s.feeder.map.setIfInBounds e.pos (if e.cat = 0 then none else some e.cat) } } →
                mapEntries (e :: es) s = ((mapEntries es t).1, .done :: (mapEntries es t).2)))

/-- The reads of the tables and units, READ STOCK, READ PROFILE, READ TRAY, READ HEAD, READ BACK, READ STAND, the line form of
READ LABELS and READ COUNTERS: each is answered at once and changes nothing but the reply buffer; READ HEAD also counts the two
open values it reads (the model's choice, assumption log entry 4). Each is refused as its rule says, and its acceptance carries
the fields its rule lists, in that order; the forms named by a function are spelled by `FormsOfFields`. The byte forms (a list
with its count byte but in READ STOCK, presence bytes, the tray's pages, 1 for a mark that is set) are read from R193 and R195
by inference or chosen (assumption log entries 13 and 34), as are which of two busy positions is given (entry 35) and that an
EXPOSE is awaited only with the shutter open (entry 38). -/
def Obligations.ReadsChangeNothing : Prop :=
  ∀ s : State, LinkFree s →
    exec .readStock s = .next
        (replied
          (acceptedMsg 0x18 false
            ((List.range 4).flatMap fun k =>
              [.u 1 (if (s.stock k).enabled then 1 else 0), .text (s.stock k).name, .u 1 (s.stock k).eRef, .u 1 (s.stock k).k,
               .u 1 (s.stock k).filter, .u 2 (s.stock k).rate]))
          id s)
      ∧ (∀ page : BackId → List Field,
          (∀ b, page b =
            List.flatten
              [(s.back b).state.fields,
               [.u 1 (s.back b).gateFrame.number, .u 1 (advanceNumber (s.back b).advance), yesNo (s.back b).owed],
               if (s.back b).state = .leader then [.u 1 (s.back b).leaderLeft] else [],
               [yesNo (s.stand.cycle.any fun c => decide (c.back = b))],
               match (s.back b).roll with
                | none => []
                | some r =>
                  List.flatten
                    [[.u 3 r.id, .u 1 r.stock, .u 1 r.declared, .u 1 r.next,
                      .u 1 (if r.endMark = none then r.declared + 1 - r.next else 0), .u 4 r.loadSeq],
                     optU 1 r.endMark,
                     [.u 1 r.groups.length, .u 1 r.frames.length],
                     match r.groups.getLast? with
                      | none => [.u 1 0]
                      | some g => [.u 1 1, .u 1 g.first, .u 1 g.completeness.number, .u 1 g.exposed]]]) →
          exec .readBack s = .next
            (replied
              (acceptedMsg 0x25 false
                (List.flatten
                  [s.film.turret.fields,
                   match s.film.swap with | none => [.u 1 0] | some o => [.u 1 1, .u 1 (backNumber o.target)],
                   page .backA, page .backB]))
              id s))
      ∧ (∀ (page : List Field) (awaited : Nat),
          (∀ i < 8, awaited.testBit i = true ↔
            i = 0 ∧ ((∃ o ∈ s.feeder.op, o.ofCycle = true ∧ ∃ p x, o.job = .feed p x)
                ∨ ∃ w ∈ s.feeder.waiting, w.ofCycle = true ∧ ∃ p x, w.job = .feed p x)
              ∨ i = 1 ∧ ((∃ o ∈ s.film.swap, o.ofCycle = true) ∨ ∃ w ∈ s.film.swapWaiting, w.ofCycle = true)
              ∨ i = 2 ∧ s.head.lamp = .warming ∧ (∀ c ∈ s.stand.cycle, c.cause = none)
              ∨ i = 3 ∧ (∃ o ∈ s.head.meter, o.ofCycle = true)
              ∨ i = 4 ∧ ((∃ o ∈ s.head.ndOp, o.ofCycle = true) ∨ ∃ w ∈ s.head.ndWaiting, w.ofCycle = true)
              ∨ i = 5 ∧ s.stand.expose ≠ none
              ∨ i = 6 ∧ (∃ c ∈ s.stand.cycle, (∃ a ∈ (s.back c.back).advance, a.ofCycle = true)
                  ∨ ∃ w ∈ (s.back c.back).waiting, w.ofCycle = true)
              ∨ i = 7 ∧ ((∃ o ∈ s.feeder.op, o.ofCycle = true ∧ ∃ p, o.job = .ret p)
                ∨ ∃ w ∈ s.feeder.waiting, w.ofCycle = true ∧ ∃ p, w.job = .ret p)) →
          awaited < 256 →
          (s.stand.cycle = none → page = [.u 1 0]) →
          (∀ (c : Cycle) (stepNumber : Nat → Int), s.stand.cycle = some c →
            (∀ i, stepNumber i = ((c.plan.bind fun p => p.steps[i]?).map fun p => p.j).getD 0) →
            page =
              List.flatten
                [[.u 1 1, .u 2 c.order, .u 1 c.slide, .u 3 c.cat, .u 1 c.attempt, .u 1 (backNumber c.back), .u 1 c.pos],
                 match c.phase with
                  | .loading => [.u 1 0]
                  | .metering => [.u 1 1]
                  | .exposing => [.u 1 2, .i 1 (stepNumber c.nextStep)]
                  | .advancing => [.u 1 3, .i 1 (stepNumber (c.nextStep - 1))]
                  | .finishing => [.u 1 4]
                  | .ending => [.u 1 5],
                 match c.cause with | none => [.u 1 0] | some x => [.u 1 1, .u 1 x.number],
                 optU 1 c.groupFirst,
                 [.u 1 (match cycleGroup s c with | none => 0 | some g => g.exposed),
                  .u 1 ((cycleFrames s c).countP fun f => f.kind = .spoilt), .u 1 awaited]]) →
          exec .readStand s = .next
            (replied (acceptedMsg 0x2B false (List.flatten [s.stand.mode.fields, s.stand.settings.fields, page])) id s))
      ∧ (∃ warm idle : Option Nat,
          (warm.isSome = true ↔ s.head.lamp = .warming) ∧ (∀ ms ∈ warm, ms ≤ 1500) ∧ (idle.isSome = s.head.idle.isSome)
            ∧ (∀ minutes ∈ idle, ∀ set ∈ s.head.idle, 1 ≤ minutes ∧ minutes ≤ max 1 set)
            ∧ exec .readHead s = .next
                (replied
                  (acceptedMsg 0x20 false
                    (List.flatten
                      [[.u 1 s.head.lamp.number], optU 2 warm, optU 1 idle, optU 1 s.head.nd,
                       [yesNo s.head.meter.isSome, yesNo s.head.ndOp.isSome],
                       match s.head.readings with
                        | none => [.u 1 0]
                        | some r =>
                          [.u 1 1, .u 2 r.centre, .u 2 r.upperLeft, .u 2 r.upperRight, .u 2 r.lowerLeft, .u 2 r.lowerRight,
                           yesNo r.dense, .u 3 r.cat]]))
                  (fun s => { s with freeIx := s.freeIx + 2 }) s))
      ∧ (∀ (first : Nat) (busy : Option Nat),
          (∀ p x, s.feeder.gate = .holds p x → busy = some p) →
          ((∀ p x, s.feeder.gate ≠ .holds p x) → busy = s.feeder.feedBusy.head?) →
          (first = 0 ∨ first = 40 →
              exec (.readTray first) s = .next
                (replied
                  (acceptedMsg 0x1F false
                    (List.flatten
                      [[.u 1 (if s.feeder.present then 0 else 1)], optU 1 s.feeder.pos, s.feeder.gate.fields,
                       [.u 1 (match s.feeder.op with
                          | none => 3
                          | some o => match o.job with | .home => 0 | .feed _ _ => 1 | .ret _ => 2)],
                       optU 1 busy, [.u 1 first, .u 1 40],
                       (List.range 40).map fun i => .u 3 ((s.mapAt (first + i)).getD 0)]))
                  id s))
            ∧ (first ≠ 0 → first ≠ 40 → exec (.readTray first) s = .next (refusedWith 0x1F .range s)))
      ∧ (∀ first,
          (first ≤ 31 →
              exec (.readLabelsLine first) s = .next
                (replied
                  (acceptedMsg 0x35 false
                    (List.flatten
                      [s.labels.line.fields,
                       match s.labels.head with
                        | none => [.u 1 0]
                        | some k => [.u 1 1, .u 3 k.roll, .u 1 k.frame, yesNo s.labels.timedOut],
                       [yesNo s.labels.pausePending],
                       s.labels.run.fields,
                       [.u 1 (tokenNumber s.labels.lastToken), .u 2 s.labels.date, .u 1 s.labels.queue.length,
                        .u 2 (labelsWith .waiting s).length, .u 2 (labelsWith .printed s).length,
                        .u 2 (labelsWith .failed s).length, .u 1 first],
                       listFields
                        (fun k : LabelKey =>
                          [.u 3 k.roll, .u 1 k.frame, .u 3 (((labelRecord? s k).map fun r => r.cat).getD 0),
                           .u 2 (((labelRecord? s k).map fun r => r.account).getD 0), yesNo (decide (s.labels.head = some k))])
                        ((s.labels.queue.drop first).take 16)]))
                  id s))
            ∧ (31 < first → exec (.readLabelsLine first) s = .next (refusedWith 0x35 .range s)))
      ∧ (∀ first,
          (first ≤ 15 →
              exec (.readCounters first) s = .next
                (replied
                  (acceptedMsg 0x3B false
                    (List.flatten
                      [[.u 2 s.tally.period, .u 2 s.tally.mountRate, .u 1 s.tally.rushClass, .u 2 s.tally.surcharge, .u 1 first,
                        .u 1 (min 8 (16 - first))],
                       (List.range (min 8 (16 - first))).flatMap fun i =>
                        .u 1 (first + i) :: (counterAt s.tally.counters (first + i)).fields]))
                  id s))
            ∧ (15 < first → exec (.readCounters first) s = .next (refusedWith 0x3B .range s)))
      ∧ (∀ (cat : Nat) (passed : Option Nat),
          (∀ k, passed = some k ↔ k < 48 ∧ (∃ e, s.profiles.original? k = some e ∧ e.cat = cat ∧ e.mode = .noLearn)
            ∧ ∀ j < k, ∀ f, s.profiles.original? j = some f → f.cat ≠ cat) →
          (1 ≤ cat ∧ cat ≤ 16777215 →
              exec (.readProfileLookup cat) s = .next
                (replied
                  (acceptedMsg 0x1D false
                    (List.flatten
                      [(s.profiles.lookup cat).source.fields, [.i 1 (s.profiles.lookup cat).p],
                       optU 2 (s.profiles.lookup cat).fixed, optU 1 passed]))
                  id s))
            ∧ (¬(1 ≤ cat ∧ cat ≤ 16777215) → exec (.readProfileLookup cat) s = .next (refusedWith 0x1D .range s)))
      ∧ (∀ table first,
          (table = 0 ∧ first ≤ 47 →
              exec (.readProfileTable table first) s = .next
                (replied
                  (acceptedMsg 0x1D false
                    (List.flatten
                      [[.u 1 (s.profiles.pointer.getD 63), .u 1 first, .u 1 (min 12 (48 - first))],
                       (List.range (min 12 (48 - first))).flatMap fun i =>
                        .u 1 (first + i) :: originalFields (s.profiles.original? (first + i))]))
                  id s))
            ∧ (table = 1 ∧ first ≤ 7 →
                exec (.readProfileTable table first) s = .next
                  (replied
                    (acceptedMsg 0x1D false
                      (List.flatten
                        [[.u 1 (s.profiles.pointer.getD 63), .u 1 first, .u 1 (8 - first)],
                         (List.range (8 - first)).flatMap fun i =>
                          .u 1 (first + i) :: rangeFields (s.profiles.range? (first + i))]))
                    id s))
            ∧ (¬(table = 0 ∧ first ≤ 47) → ¬(table = 1 ∧ first ≤ 7) →
                exec (.readProfileTable table first) s = .next (refusedWith 0x1D .range s)))

/-- The reads of the records, READ ORDER, READ ROLL, READ FRAMES and the record form of READ LABELS: each is answered at once
and changes nothing but the reply buffer, is refused as its rule says, and carries the fields its rule lists, in that order,
with a page of at most 4 slides, 6 groups or 16 frames. The flags and state bytes of a frame are given bit by bit, and the
register is listed in the order of its unload sequences. The byte forms, 1 for a mark that is set among them, are read from R193
and R195 by inference or chosen (assumption log entries 13 and 34), as is the summary's unread slide index (entry 33). -/
def Obligations.ReadsOfRecords : Prop :=
  ∀ s : State, LinkFree s →
    (∀ first,
          exec (.readOrder 0 first) s = .next
            (replied
              (acceptedMsg 0x16 false
                (List.flatten
                  [[.u 1 s.work.floor, .u 4 s.work.placeSeq], listFields (fun k => [.u 2 k]) s.work.stack.reverse,
                   listFields (fun o : Order => .u 2 o.number :: .u 1 o.cls :: o.state.fields) s.work.orders]))
              id s))
      ∧ (∀ number first, number ≠ 0 →
          (s.order? number = none → exec (.readOrder number first) s = .next (refusedWith 0x16 .unknown s))
            ∧ ∀ o, s.order? number = some o →
                (∀ (former : List Field) (slide : Option Nat),
                    (∀ f, o.state = .filling → o.former = some f → former = [.u 1 f.number]) →
                    ((o.state ≠ .filling ∨ o.former = none) → former = []) →
                    (∀ c, s.stand.cycle = some c → c.order = number → slide = some c.slide) →
                    ((∀ c, s.stand.cycle = some c → c.order ≠ number) → slide = none) →
                    first < o.slides.length →
                    exec (.readOrder number first) s = .next
                      (replied
                        (acceptedMsg 0x16 false
                          (List.flatten
                            [[.u 2 o.number, .u 4 o.seq, .u 2 o.account, .u 2 o.lecturer, .u 1 o.cls, .u 1 o.stock, .u 1 o.n,
                              .u 1 o.spacing, .i 1 o.offset, .u 1 o.magn, .text o.title],
                             o.state.fields, former, [yesNo o.cancelPending, yesNo o.holdPending], optU 1 slide,
                             [.u 1 o.slides.length, .u 1 first],
                             listFields
                              (fun x : Slide =>
                                List.flatten
                                  [[.u 3 x.cat], optFields (fun t => [.text t]) x.caption, optFields (fun v => [.i 1 v]) x.adjust,
                                   [.i 1 x.shift, .u 1 x.attempts, .u 1 x.outcome.number]])
                              ((o.slides.drop first).take 4)]))
                        id s))
                  ∧ (o.slides.length ≤ first → exec (.readOrder number first) s = .next (refusedWith 0x16 .range s)))
      ∧ (∀ roll first,
          ((999999 < roll ∨ 71 < first) → exec (.readRoll roll first) s = .next (refusedWith 0x2E .range s))
            ∧ (roll = 0 → first ≤ 71 →
                exec (.readRoll roll first) s = .next
                  (replied
                    (acceptedMsg 0x2E false
                      (.u 1 (8 - s.registerOrder.length)
                        :: listFields
                            (fun x : Nat × Roll =>
                              [.u 1 x.1, .u 3 x.2.id, .u 1 x.2.stock, .u 4 (x.2.unloadSeq.getD 0),
                               .u 1 ((x.2.unloadKind.map UnloadKind.number).getD 0),
                               .u 1 (x.2.groups.countP fun g => g.outcome = .unselected),
                               .u 1 (x.2.frames.countP fun f => f.selection = .kept ∧ f.label = some .waiting),
                               .u 1 (x.2.frames.countP fun f => f.selection = .kept ∧ f.label = some .queued),
                               .u 1 (x.2.frames.countP fun f => f.selection = .kept ∧ f.label = some .printed),
                               .u 1 (x.2.frames.countP fun f => f.selection = .kept ∧ f.label = some .failed)])
                            s.registerOrder))
                    id s))
            ∧ (1 ≤ roll ∧ roll ≤ 999999 → first ≤ 71 →
                (s.roll? roll = none → exec (.readRoll roll first) s = .next (refusedWith 0x2E .unknown s))
                  ∧ ∀ r, s.roll? roll = some r →
                      (∀ place : List Field,
                          ((∃ q, s.film.backA.roll = some q ∧ q.id = roll) → place = [.u 1 0]) →
                          ((∀ q, s.film.backA.roll = some q → q.id ≠ roll) → (∃ q, s.film.backB.roll = some q ∧ q.id = roll) →
                            place = [.u 1 1]) →
                          (∀ k q, (∀ b p, (s.back b).roll = some p → p.id ≠ roll) → s.slotRoll? k = some q → q.id = roll →
                            (∀ j < k, ∀ p, s.slotRoll? j = some p → p.id ≠ roll) → place = [.u 1 2, .u 1 k]) →
                          (first < r.groups.length ∨ (first = 0 ∧ r.groups = [])) →
                          exec (.readRoll roll first) s = .next
                            (replied
                              (acceptedMsg 0x2E false
                                (List.flatten
                                  [[.u 3 r.id, .u 1 r.stock, .u 1 r.declared, .u 1 r.next, .u 4 r.loadSeq], optU 4 r.unloadSeq,
                                   optFields (fun k => [.u 1 (UnloadKind.number k)]) r.unloadKind, optU 1 r.endMark, place,
                                   [.u 1 r.groups.length, .u 1 r.frames.length, .u 1 first],
                                   listFields
                                    (fun g : Group =>
                                      List.flatten
                                        [[.u 2 g.order, .u 1 g.slide, .u 3 g.cat, .u 1 g.attempt, .u 1 g.first, .u 1 g.n,
                                          .u 1 g.spacing, .i 2 g.s],
                                         g.source.fields, [.i 1 g.pUsed, .u 1 g.exposed, .u 1 g.completeness.number],
                                         g.outcome.fields])
                                    ((r.groups.drop first).take 6)]))
                              id s))
                        ∧ (¬(first < r.groups.length ∨ (first = 0 ∧ r.groups = [])) →
                            exec (.readRoll roll first) s = .next (refusedWith 0x2E .range s))))
      ∧ (∀ roll first,
          (¬((1 ≤ roll ∧ roll ≤ 999999) ∧ 1 ≤ first ∧ first ≤ 72) →
              exec (.readFrames roll first) s = .next (refusedWith 0x2F .range s))
            ∧ ((1 ≤ roll ∧ roll ≤ 999999) ∧ 1 ≤ first ∧ first ≤ 72 →
                (s.roll? roll = none → exec (.readFrames roll first) s = .next (refusedWith 0x2F .unknown s))
                  ∧ ∀ r frames, s.roll? roll = some r → frames = r.frames.filter (fun f => first ≤ f.number) →
                      (first ≤ r.declared →
                          exec (.readFrames roll first) s = .next
                            (replied
                              (acceptedMsg 0x2F false
                                (List.flatten
                                  [[.u 3 r.id, .u 1 r.next, .u 1 (if 16 < frames.length then 1 else 0), .u 1 first],
                                   listFields
                                    (fun f : Frame =>
                                      [.u 1 f.number, .u 1 f.group, .i 1 f.step, .u 1 f.code, .u 1 f.nd, .u 3 f.ticks,
                                       .u 1 f.flagsByte, .u 1 f.stateByte, .u 2 (f.amount.getD 0), .u 2 (f.account.getD 0)])
                                    (frames.take 16)]))
                              id s))
                        ∧ (r.declared < first → exec (.readFrames roll first) s = .next (refusedWith 0x2F .range s))))
      ∧ (∀ roll frame key, key = { roll := roll, frame := frame } →
          (¬((1 ≤ roll ∧ roll ≤ 999999) ∧ 1 ≤ frame ∧ frame ≤ 72) →
              exec (.readLabelsRecord roll frame) s = .next (refusedWith 0x35 .range s))
            ∧ ((1 ≤ roll ∧ roll ≤ 999999) ∧ 1 ≤ frame ∧ frame ≤ 72 →
                (labelRecord? s key = none → exec (.readLabelsRecord roll frame) s = .next (refusedWith 0x35 .unknown s))
                  ∧ ∀ r, labelRecord? s key = some r →
                      exec (.readLabelsRecord roll frame) s = .next
                        (replied
                          (acceptedMsg 0x35 false
                            [.u 3 roll, .u 1 frame, .u 3 r.cat, .text r.caption, .text r.course, .u 2 r.lecturer, .u 2 r.account,
                             .u 2 r.date, .u 1 r.stock, .u 1 (((labelStateOf s key).map LabelState.number).getD 0),
                             yesNo (decide (s.labels.head = some key))])
                          id s)))
      ∧ (∀ f : Frame, ∀ bits : Nat,
          (∀ i, bits.testBit i = true ↔ i = 0 ∧ f.dense = true ∨ i = 1 ∧ f.shortClamp = true ∨ i = 2 ∧ f.longClamp = true) →
            f.flagsByte = bits
              ∧ f.stateByte % 2 = (if f.kind = .spoilt then 1 else 0) ∧ f.stateByte / 2 % 2 = (if f.credited then 1 else 0)
              ∧ f.stateByte / 4 % 4 = (match f.selection with | .unselected => 0 | .kept => 1 | .discarded => 2)
              ∧ f.stateByte / 16
                  = (match f.label with | none => 0 | some .waiting => 1 | some .queued => 2 | some .printed => 3 | some .failed => 4))
      ∧ (∀ k r, (k, r) ∈ s.registerOrder ↔ s.slotRoll? k = some r) ∧ (s.registerOrder.map fun x => x.1).Nodup
      ∧ s.registerOrder.Pairwise fun older younger => older.2.unloadSeq.getD 0 ≤ younger.2.unloadSeq.getD 0

/-! ## Film backs -/

/-- LOAD ROLL: RANGE, STATE unless the back is EMPTY, STATE on a disabled stock, DUPLICATE on a live roll id; else the roll
record is made with the load sequence, and the back is READY at once with a leader count of 0, releasing the FILM holds of the
stock, or LEADER with its first leader ADVANCE asked for. -/
def Obligations.LoadRoll : Prop :=
  ∀ (back roll stock declared : Nat) (s : State) (inRange : Prop), LinkFree s →
    (inRange ↔ (back = 0 ∨ back = 1) ∧ (1 ≤ roll ∧ roll ≤ 999999) ∧ stock ≤ 3 ∧ 12 ≤ declared ∧ declared ≤ 72) →
      (¬inRange → exec (.loadRoll back roll stock declared) s = .next (refusedWith 0x21 .range s))
        ∧ ∀ (b : BackId) (load : State → State), inRange → (back, b) ∈ [(0, BackId.backA), (1, .backB)] →
            (∀ s : State, load s =
              (s.onBack b fun k =>
                { k with
                  roll := some
                    { id := roll, stock := stock, declared := declared, next := 1, loadSeq := s.film.loadSeq, unloadSeq := none,
                      unloadKind := none, endMark := none, groups := [], frames := [] },
                  gateFrame := .fresh, leaderLeft := s.stand.settings.leaderCount }).onFilm
                fun m => { m with loadSeq := (m.loadSeq + 1) % 4294967296 }) →
              ((s.back b).state ≠ .empty → exec (.loadRoll back roll stock declared) s = .next (refusedWith 0x21 .state s))
                ∧ ((s.back b).state = .empty → (s.stock stock).enabled = false →
                    exec (.loadRoll back roll stock declared) s = .next (refusedWith 0x21 .state s))
                ∧ ((s.back b).state = .empty → (s.stock stock).enabled = true → (∃ r ∈ s.allRolls, r.id = roll) →
                    exec (.loadRoll back roll stock declared) s = .next (refusedWith 0x21 .duplicate s))
                ∧ ((s.back b).state = .empty → (s.stock stock).enabled = true → (∀ r ∈ s.allRolls, r.id ≠ roll) →
                    (s.stand.settings.leaderCount = 0 →
                        exec (.loadRoll back roll stock declared) s = .next
                          (replied (acceptedMsg 0x21 false [.u 1 back, .u 3 roll, .u 4 s.film.loadSeq, .u 1 2])
                            (fun s => eventEnd false s (releaseFilm stock (setBackState b .ready (load s)))) s))
                      ∧ (s.stand.settings.leaderCount ≠ 0 →
                        exec (.loadRoll back roll stock declared) s = .next
                          (replied (acceptedMsg 0x21 false [.u 1 back, .u 3 roll, .u 4 s.film.loadSeq, .u 1 1])
                            (fun s => eventEnd false s (askAdvance b .leader false (setBackState b .leader (load s)))) s)))

/-- REWIND BACK, UNLOAD BACK and CLEAR BACK: their tests in order; the rewind starts; the roll record goes to the lowest free
register slot with its unload sequence and kind, the back becomes EMPTY, and the close test runs. A back that takes another
state has one BACK CHANGED queued. That the emptied back has its gate frame FRESH and no leader advances left is the model's
reading (assumption log entry 17). That CLOSED is carried as a yes-or-no byte is its choice (assumption log entry 34). -/
def Obligations.RewindUnloadAndClear : Prop :=
  (∀ (back : Nat) (s : State), LinkFree s → 1 < back →
    exec (.rewindBack back) s = .next (refusedWith 0x22 .range s)
      ∧ exec (.unloadBack back) s = .next (refusedWith 0x23 .range s)
      ∧ exec (.clearBack back) s = .next (refusedWith 0x24 .range s))
    ∧ (∀ (back : Nat) (b : BackId) (s : State) (canRewind inCycle isFault : Prop), LinkFree s →
        (back, b) ∈ [(0, BackId.backA), (1, .backB)] → (inCycle ↔ ∃ c, s.stand.cycle = some c ∧ c.back = b) →
        (isFault ↔ ∃ x, (s.back b).state = .fault x) →
        (canRewind ↔ (s.back b).state = .ready ∨ (s.back b).state = .full ∨ (s.back b).state = .ended ∨ isFault) →
          (¬canRewind → exec (.rewindBack back) s = .next (refusedWith 0x22 .state s))
            ∧ (canRewind → (inCycle ∨ (s.back b).advance.isSome = true ∨ (s.back b).owed = true) →
                exec (.rewindBack back) s = .next (refusedWith 0x22 .busy s))
            ∧ (canRewind → ¬inCycle → (s.back b).advance = none → (s.back b).owed = false →
                exec (.rewindBack back) s = .next
                  (replied (acceptedMsg 0x22 false []) (fun s => eventEnd false s (setBackState b .rewinding s)) s))
            ∧ ((s.back b).state ≠ .rewound → exec (.unloadBack back) s = .next (refusedWith 0x23 .state s))
            ∧ (¬isFault → exec (.clearBack back) s = .next (refusedWith 0x24 .state s))
            ∧ (isFault → inCycle → exec (.clearBack back) s = .next (refusedWith 0x24 .busy s))
            ∧ ((∀ k < 8, s.slotRoll? k ≠ none) →
                ((s.back b).state = .rewound → exec (.unloadBack back) s = .next (refusedWith 0x23 .full s))
                  ∧ (isFault → ¬inCycle → exec (.clearBack back) s = .next (refusedWith 0x24 .full s)))
            ∧ (∀ (k : Nat) (r : Roll) (move : UnloadKind → State → State) (reply : Nat → UnloadKind → Msg),
                k < 8 → s.slotRoll? k = none → (∀ j < k, s.slotRoll? j ≠ none) → (s.back b).roll = some r →
                (∀ kind s, move kind s = closeTest r.id
                  (setBackState b .empty
                    (State.onBack b (fun k => { k with roll := none, gateFrame := .fresh, leaderLeft := 0 })
                      { s with
                        register := s.register.setIfInBounds k
                          (some { r with unloadSeq := some s.film.unloadSeq, unloadKind := some kind }),
                        film := { s.film with unloadSeq := (s.film.unloadSeq + 1) % 4294967296 } }))) →
                (∀ code kind, reply code kind =
                  acceptedMsg code false
                    [.u 1 back, .u 3 r.id, .u 1 k, .u 4 s.film.unloadSeq,
                     .u 1 (if ((move kind (hunting s)).slotRoll? k).isNone then 1 else 0)]) →
                ((s.back b).state = .rewound →
                    exec (.unloadBack back) s = .next
                      (replied (reply 0x23 .rewound) (fun s => eventEnd false s (move .rewound s)) s))
                  ∧ (isFault → ¬inCycle →
                    exec (.clearBack back) s = .next
                      (replied (reply 0x24 .cleared) (fun s => eventEnd false s (move .cleared s)) s))))
    ∧ (∀ (b : BackId) (st : BackState) (s : State),
        setBackState b st s
          = (if (s.back b).state = st then id
              else queueNotice (.backChanged b st ((s.back b).roll.map fun r =>
                (r.id, r.stock, r.next, if r.endMark = none then r.declared + 1 - r.next else 0))))
            (s.onBack b fun k => { k with state := st }))

/-! ## The stand -/

/-- START STAND and STOP STAND: their tests in order and their effects: RUNNING with the start-up operations asked for, the lamp
lit from OFF and the idle timer started; STOPPING with a cycle in flight, else STOPPED with the lamp off. SET STAND: RANGE on a
mask bit above 5 or a selected value out of its range, else the selected settings alone change. -/
def Obligations.StartStopAndSetStand : Prop :=
  (∀ s : State, LinkFree s →
    (s.stand.mode ≠ .stopped → exec .startStand s = .next (refusedWith 0x26 .state s))
      ∧ (s.stand.mode = .stopped → s.stand.cycle.isSome = true → exec .startStand s = .next (refusedWith 0x26 .busy s))
      ∧ (s.stand.mode = .stopped → s.stand.cycle = none → (s.feeder.gate ≠ .empty ∨ s.head.lamp = .failed) →
          exec .startStand s = .next (refusedWith 0x26 .state s))
      ∧ (∀ asked lit : State → State, s.stand.mode = .stopped → s.stand.cycle = none → s.feeder.gate = .empty →
          s.head.lamp ≠ .failed →
          (∀ s : State, asked s =
            (if s.head.nd = none then askNd 0 false else id)
              ((if s.film.turret = .unknown then askSwap .backA false else id)
                ((if s.feeder.pos = none then askJob .home false else id)
                  { s with stand := { s.stand with mode := .running } }))) →
          (∀ s : State, lit s =
            { s with head :=
                { s.head with
                  lamp := if s.head.lamp = .off then .warming else s.head.lamp,
                  idle := if s.stand.settings.idleMinutes = 0 then none else some s.stand.settings.idleMinutes } }) →
          exec .startStand s = .next
            (replied
              (acceptedMsg 0x26 false
                (.u 1 1 :: listFields (fun k => [.u 1 k])
                  ((if s.feeder.pos = none then [0] else []) ++ (if s.film.turret = .unknown then [1] else [])
                    ++ (if s.head.nd = none then [2] else []) ++ [3])))
              (fun s => eventEnd false s (lit (asked s))) s))
      ∧ ((∃ r, s.stand.mode = .halted r) → exec .stopStand s = .next (refusedWith 0x27 .state s))
      ∧ (∀ off : State → State,
          (∀ s : State, off s =
            { s with head := { s.head with lamp := if s.head.lamp = .failed then .failed else .off } }) →
          (s.stand.mode = .running → s.stand.cycle.isSome = true →
              exec .stopStand s = .next
                (replied (acceptedMsg 0x27 false [.u 1 2])
                  (fun s => eventEnd false s
                    { s with stand := { s.stand with mode := .stopping }, head := { s.head with idle := none } }) s))
            ∧ (s.stand.mode = .running → s.stand.cycle = none →
                exec .stopStand s = .next
                  (replied (acceptedMsg 0x27 false [.u 1 0])
                    (fun s => eventEnd false s
                      (off { s with stand := { s.stand with mode := .stopped }, head := { s.head with idle := none } })) s))
            ∧ (s.stand.mode = .stopping →
                exec .stopStand s = .next (replied (acceptedMsg 0x27 false [.u 1 2]) (fun s => eventEnd false s s) s))
            ∧ (s.stand.mode = .stopped →
                exec .stopStand s = .next (replied (acceptedMsg 0x27 false [.u 1 0]) (fun s => eventEnd false s (off s)) s))))
    ∧ (∀ (q : StandReq) (s : State) (inRange : Prop) (new : Settings), LinkFree s →
        (inRange ↔ q.mask.toNat < 64 ∧ (q.mask.getLsbD 0 = true → 1000 ≤ q.feedLimit ∧ q.feedLimit ≤ 20000)
          ∧ (q.mask.getLsbD 1 = true → 500 ≤ q.advanceLimit ∧ q.advanceLimit ≤ 5000)
          ∧ (q.mask.getLsbD 2 = true → q.leaderCount ≤ 4) ∧ (q.mask.getLsbD 3 = true → q.fill ≤ 1)
          ∧ (q.mask.getLsbD 4 = true → q.idleMinutes ≤ 60)
          ∧ (q.mask.getLsbD 5 = true → 2000 ≤ q.tokenLimit ∧ q.tokenLimit ≤ 30000)) →
        new = { feedLimit := if q.mask.getLsbD 0 then q.feedLimit else s.stand.settings.feedLimit,
                advanceLimit := if q.mask.getLsbD 1 then q.advanceLimit else s.stand.settings.advanceLimit,
                leaderCount := if q.mask.getLsbD 2 then q.leaderCount else s.stand.settings.leaderCount,
                fill := if q.mask.getLsbD 3 then decide (q.fill ≠ 0) else s.stand.settings.fill,
                idleMinutes := if q.mask.getLsbD 4 then q.idleMinutes else s.stand.settings.idleMinutes,
                tokenLimit := if q.mask.getLsbD 5 then q.tokenLimit else s.stand.settings.tokenLimit } →
          (¬inRange → exec (.setStand q) s = .next (refusedWith 0x2A .range s))
            ∧ (inRange →
                exec (.setStand q) s = .next
                  (replied (acceptedMsg 0x2A false new.fields)
                    (fun s => eventEnd false s { s with stand := { s.stand with settings := new } }) s)))

/-- ABORT SLIDE, and RESET STAND step by step: the position UNKNOWN and a HOLDS record FOREIGN, the cycle in flight aborted and
ended, operations in flight left stale and of no cycle and those waiting withdrawn, the stack emptied with each of its orders
returned from the top down, the stand STOPPED with no idle timer and the lamp OFF. With no cycle in flight its notices are one
ORDER CHANGED for each order of the stack whose state changes, from the top down, then one STAND CHANGED when the stand or the
lamp changes. It leaves the tables, settings, back states, roll sequences and label unit as they were (the register, the backs,
the counters and the label records too where no cycle or pending cancel is there to change them); with a cycle already ENDING
the acceptance names none (the model's choice, assumption log entry 19, as is NONE as a presence byte, entry 34). -/
def Obligations.AbortSlideAndResetStand : Prop :=
  ∀ s : State, LinkFree s →
    ((¬AtWork s ∨ ∀ c, s.stand.cycle = some c → c.cause ≠ none) → exec .abortSlide s = .next (refusedWith 0x28 .state s))
      ∧ (∀ c, AtWork s → s.stand.cycle = some c → c.cause = none →
          exec .abortSlide s = .next
            (replied (acceptedMsg 0x28 false [.u 2 c.order, .u 1 c.slide])
              (fun s => eventEnd false s (abort .abortSlide (some .stopped) s)) s))
      ∧ (∀ (fields : List Field) (feeder cycle operations stack stand : State → State) (release : State → Nat → State),
          (∀ c, s.stand.cycle = some c → c.cause = none → fields = [.u 1 1, .u 2 c.order, .u 1 c.slide]) →
          ((∀ c, s.stand.cycle = some c → c.cause ≠ none) → fields = [.u 1 0]) →
          (∀ u : State, feeder u =
            { u with feeder :=
                { u.feeder with pos := none, gate := match u.feeder.gate with | .holds _ _ => .foreign | gate => gate } }) →
          (∀ u : State, (u.stand.cycle = none → cycle u = u)
            ∧ ∀ c, u.stand.cycle = some c →
                (c.cause = none → cycle u = abort .reset (some .stopped) u)
                  ∧ (c.cause ≠ none →
                    cycle u
                      = endCycle { u with stand := { u.stand with mode := .stopped }, head := { u.head with idle := none } })) →
          (∀ u : State, operations u =
            { u with
              feeder :=
                { u.feeder with op := u.feeder.op.map fun o => { o with stale := true, ofCycle := false }, waiting := [] },
              head :=
                { u.head with
                  ndOp := u.head.ndOp.map fun o => { o with stale := true, ofCycle := false }, ndWaiting := [],
                  meter := u.head.meter.map fun o => { o with stale := true, ofCycle := false } },
              film :=
                { u.film with swap := u.film.swap.map fun o => { o with stale := true, ofCycle := false }, swapWaiting := [] } }) →
          (∀ (u : State) (k : Nat), (u.order? k = none → release u k = u)
            ∧ ∀ o, u.order? k = some o →
                release u k = setOrderState k (if (nextSlide o).isSome then .pending else .exposed) none u) →
          (∀ u : State, stack u = u.work.stack.foldl release { u with work := { u.work with stack := [] } }) →
          (∀ u : State, stand u =
            { u with stand := { u.stand with mode := .stopped }, head := { u.head with lamp := .off, idle := none } }) →
            exec .resetStand s = .next
              (replied (acceptedMsg 0x29 false fields)
                (fun s => eventEnd false s (stand (stack (operations (cycle (feeder s)))))) s))
      ∧ ∃ t : State, exec .resetStand s = .next t
          ∧ (∀ c, s.stand.cycle = some c → c.cause = none →
              t.link.reply = some (acceptedMsg 0x29 false [.u 1 1, .u 2 c.order, .u 1 c.slide]))
          ∧ ((∀ c, s.stand.cycle = some c → c.cause ≠ none) → t.link.reply = some (acceptedMsg 0x29 false [.u 1 0]))
          ∧ t.stand.mode = .stopped ∧ t.stand.cycle = none ∧ t.head.lamp = .off ∧ t.head.idle = none ∧ t.work.stack = []
          ∧ t.feeder.pos = none ∧ t.feeder.gateSense = s.feeder.gateSense
          ∧ (∀ p x, s.feeder.gate = .holds p x → t.feeder.gate = .foreign)
          ∧ ((∀ p x, s.feeder.gate ≠ .holds p x) → t.feeder.gate = s.feeder.gate) ∧ t.feeder.waiting = []
          ∧ (∀ o ∈ t.feeder.op, o.stale = true ∧ o.ofCycle = false)
          ∧ t.head.ndWaiting = [] ∧ (∀ o ∈ t.head.ndOp, o.stale = true ∧ o.ofCycle = false)
          ∧ (∀ o ∈ t.head.meter, o.stale = true ∧ o.ofCycle = false)
          ∧ t.film.swapWaiting = [] ∧ (∀ o ∈ t.film.swap, o.stale = true ∧ o.ofCycle = false)
          ∧ (s.stand.cycle = none → NumbersDistinct s →
              t.work.orders = s.work.orders.map fun o =>
                if o.number ∈ s.work.stack then
                  { o with state := if (nextSlide o).isSome then .pending else .exposed, former := none }
                else o)
          ∧ (∀ back : Nat → Option OrderState,
              (∀ k, back k = (s.order? k).map fun o => if (nextSlide o).isSome then .pending else .exposed) →
              s.stand.cycle = none → s.work.stack.Nodup → s.link.notices.length + s.work.stack.length < 16 →
              t.link.notices =
                List.flatten
                  [s.link.notices,
                   s.work.stack.flatMap fun k =>
                    match back k with
                    | none => []
                    | some state => if (s.order? k).map (fun o => o.state) = some state then [] else [.orderChanged k state],
                   if s.stand.mode = .stopped ∧ s.head.lamp = .off then []
                   else [.standChanged .stopped .off s.feeder.present]])
          ∧ t.work.floor = s.work.floor ∧ t.work.placeSeq = s.work.placeSeq ∧ t.stocks = s.stocks ∧ t.profiles = s.profiles
          ∧ t.feeder.map = s.feeder.map ∧ t.feeder.present = s.feeder.present ∧ t.head.nd = s.head.nd
          ∧ t.head.readings = s.head.readings ∧ t.film.turret = s.film.turret ∧ t.stand.settings = s.stand.settings
          ∧ t.labels = { s.labels with records := t.labels.records } ∧ t.film.loadSeq = s.film.loadSeq
          ∧ t.film.unloadSeq = s.film.unloadSeq ∧ (∀ b, (t.back b).state = (s.back b).state)
          ∧ ((∀ c o, s.stand.cycle = some c → s.order? c.order = some o → o.cancelPending = false) →
              t.labels = s.labels ∧ t.register = s.register)
          ∧ (s.stand.cycle = none → (∀ b, t.back b = s.back b) ∧ t.tally = s.tally)
          ∧ (t.tally.mountRate, t.tally.rushClass, t.tally.surcharge, t.tally.period)
              = (s.tally.mountRate, s.tally.rushClass, s.tally.surcharge, s.tally.period)

/-- The abort of a cycle: the cause recorded, its waiting operations withdrawn, a SPOILT frame for an exposure in flight, and
the group with fewer than n exposures discarded and credited; a cycle already aborted keeps its cause. Then it ends at once with
the cause RESET, waits on its FEED or RETURN, has its original returned, or ends; the abort of a tray removal starts no RETURN.
An abort is the settling followed by this ending. That a cycle ENDING by another cause keeps its RETURN through a TRAY OUT is
the model's choice (assumption log entry 36). -/
def Obligations.AbortSettlesTheCycle : Prop :=
  (∀ (s t : State) (c : Cycle) (cause : AbortCause) (mode : Option StandMode), s.stand.cycle = some c → c.cause = none →
    abortCycle cause mode s = t →
      t.stand.cycle = some { c with cause := some cause, phase := .ending } ∧ t.stand.expose = none
        ∧ t.stand.mode = mode.getD s.stand.mode
        ∧ t.feeder.waiting = s.feeder.waiting.filter (fun w => !w.ofCycle) ∧ t.feeder.op = s.feeder.op
        ∧ t.head.ndWaiting = s.head.ndWaiting.filter (fun w => !w.ofCycle) ∧ (∀ o ∈ t.head.ndOp, o.ofCycle = false)
        ∧ (∀ o ∈ t.head.meter, o.ofCycle = false)
        ∧ t.film.swapWaiting = s.film.swapWaiting.filter (fun w => !w.ofCycle) ∧ (∀ o ∈ t.film.swap, o.ofCycle = false)
        ∧ (∀ b, (t.back b).waiting = (s.back b).waiting.filter (fun w => !w.ofCycle) ∧ ∀ a ∈ (t.back b).advance, a.ofCycle = false)
        ∧ (s.stand.expose = none → (t.back c.back).owed = (s.back c.back).owed)
        ∧ (∀ (p : PlanStep) (r : Roll), s.stand.expose.isSome = true → c.step? = some p → (s.back c.back).roll = some r →
            ((t.back c.back).roll.map fun r => r.next) = some (r.next + 1) ∧ (t.back c.back).gateFrame = .spent
              ∧ (∃ q f, (t.back c.back).roll = some q ∧ q.frames.getLast? = some f ∧ f.number = r.next ∧ f.kind = .spoilt
                  ∧ f.group = c.groupFirst.getD r.next ∧ f.step = p.j ∧ f.code = p.code ∧ f.nd = p.nd ∧ f.ticks = p.ticks
                  ∧ f.dense = p.dense ∧ f.shortClamp = p.shortClamp ∧ f.longClamp = p.longClamp
                  ∧ f.amount = none ∧ f.account = none)
              ∧ ((s.back c.back).advance = none →
                  (t.back c.back).advance
                    = some { cause := .spent, limit := s.stand.settings.advanceLimit, ofCycle := false })
              ∧ ((s.back c.back).advance.isSome = true → (t.back c.back).owed = true))
        ∧ (∀ g, cycleGroup s c = some g → g.exposed < g.n →
            (∀ q, (t.back c.back).roll = some q →
              (∀ h ∈ q.groups, h.first = g.first → h.outcome = .discarded ∧ h.completeness = .incomplete)
                ∧ ∀ f ∈ q.frames, f.group = g.first → f.selection = .discarded ∧ (f.kind = .exposure → f.credited = true))
              ∧ t.tally.counters = (creditFrames c.stock (cycleFrames s c) s).tally.counters)
        ∧ ((∀ g, cycleGroup s c = some g → ¬g.exposed < g.n) → s.stand.expose = none →
            (t.back c.back).roll = (s.back c.back).roll ∧ t.tally = s.tally))
    ∧ (∀ (s : State) (c : Cycle) (x cause : AbortCause) (mode : StandMode), s.stand.cycle = some c → c.cause = some x →
        (abortCycle cause none s = s ∧ (abortCycle cause (some mode) s).stand.cycle = some c)
          ∧ (x = .reset → tryEndAborted s = endCycle s)
          ∧ ∀ moving : Prop,
              (moving ↔ (∃ o ∈ s.feeder.op, o.ofCycle = true) ∨ ∃ w ∈ s.feeder.waiting, w.ofCycle = true) →
                (x ≠ .reset → moving → tryEndAborted s = s)
                  ∧ (x ≠ .reset → x ≠ .halt .trayOut → ¬moving → s.feeder.gate = .holds c.pos c.cat → s.feeder.pos.isSome = true →
                      s.feeder.present = true → tryEndAborted s = askReturn c.pos s)
                  ∧ (x ≠ .reset → ¬moving →
                      (x = .halt .trayOut ∨ s.feeder.gate ≠ .holds c.pos c.cat ∨ s.feeder.pos = none ∨ s.feeder.present = false) →
                      tryEndAborted s = endCycle s))
    ∧ (∀ (s : State) (cause : AbortCause) (mode : Option StandMode),
        abort cause mode s = tryEndAborted (abortCycle cause mode s) ∧ (s.stand.cycle = none → tryEndAborted s = s)
          ∧ (∀ c, s.stand.cycle = some c → c.cause = none → tryEndAborted s = s))
    ∧ (∀ (s : State) (pos : Nat),
        (s.feeder.op = none → s.feeder.waiting = [] →
            askReturn pos s
              = { s with feeder :=
                    { s.feeder with
                      op := some
                        { job := .ret pos, homing := false, limit := s.stand.settings.feedLimit, stale := false,
                          ofCycle := true } } })
          ∧ ((s.feeder.op ≠ none ∨ s.feeder.waiting ≠ []) →
            askReturn pos s
              = { s with feeder := { s.feeder with waiting := s.feeder.waiting ++ [{ job := .ret pos, ofCycle := true }] } }))

/-! ## Roll register and selections -/

/-- REPORT SELECTIONS: RANGE, UNKNOWN with no live roll, STATE with the roll not in the register; else its entries are taken one
at a time, each an event with its own end (the model's choice of where the choice of the next slide runs, assumption log entry
11): the send of an IDLE line with a label queued, the end of every event, then PRINTER CHANGED just when the line or the
emptiness of its queue has changed (that it comes after a STAND CHANGED of the same event is the model's reading, assumption log
entry 10). The close test of the roll follows. That CLOSED is carried as a yes-or-no byte, and the byte forms of a result, are
its choice (assumption log entry 34). -/
def Obligations.ReportSelections : Prop :=
  (∀ (roll : Nat) (es : List SelectReq) (s : State) (inRange : Prop), LinkFree s →
    (inRange ↔ (1 ≤ roll ∧ roll ≤ 999999) ∧ (1 ≤ es.length ∧ es.length ≤ 12)
      ∧ ∀ e ∈ es, (1 ≤ e.first ∧ e.first ≤ 72) ∧ e.outcome ≤ 3 ∧ (e.outcome = 0 → -4 ≤ e.step ∧ e.step ≤ 4)) →
      (¬inRange → exec (.reportSelections roll es) s = .next (refusedWith 0x2C .range s))
        ∧ (inRange → (∀ r ∈ s.allRolls, r.id ≠ roll) →
            exec (.reportSelections roll es) s = .next (refusedWith 0x2C .unknown s))
        ∧ (inRange → (∃ r ∈ s.allRolls, r.id = roll) → (∀ k < 8, ∀ r, s.slotRoll? k = some r → r.id ≠ roll) →
            exec (.reportSelections roll es) s = .next (refusedWith 0x2C .state s))
        ∧ (∀ k r, inRange → k < 8 → s.slotRoll? k = some r → r.id = roll →
            (∀ j < k, ∀ q, s.slotRoll? j = some q → q.id ≠ roll) →
            exec (.reportSelections roll es) s = .next
              (replied
                (acceptedMsg 0x2C false
                  (.u 3 roll :: listFields EntryResult.fields (takeEntries k es (hunting s)).2
                    ++ [yesNo ((closeTest roll (takeEntries k es (hunting s)).1).slotOf? roll).isNone]))
                (fun s => closeTest roll (takeEntries k es s).1) s)))
    ∧ (∀ (k : Nat) (s : State), takeEntries k [] s = (s, []))
    ∧ (∀ (k : Nat) (e : SelectReq) (es : List SelectReq) (s t : State) (result : EntryResult), applyEntry k e s = (t, result) →
        takeEntries k (e :: es) s
          = ((takeEntries k es (labelEventEnd s t)).1, result :: (takeEntries k es (labelEventEnd s t)).2))
    ∧ (∀ (s t u v : State) (same : Prop),
        (∀ k ks, t.labels.line = .idle → t.labels.queue = k :: ks → u = transmit (t.labels.head.getD k) t) →
        ((t.labels.line ≠ .idle ∨ t.labels.queue = []) → u = t) → v = eventEnd false s u →
        (same ↔ s.labels.line = v.labels.line ∧ s.labels.queue.isEmpty = v.labels.queue.isEmpty) →
          (same → labelEventEnd s t = v)
            ∧ (¬same →
              labelEventEnd s t
                = queueNotice
                    (.printerChanged v.labels.line v.labels.head v.labels.run v.labels.lastToken v.labels.queue.length
                      (labelsWith .waiting v).length) v))
    ∧ [EntryResult.unknown, .incomplete, .already, .range].map EntryResult.fields = [[.u 1 0], [.u 1 1], [.u 1 2], [.u 1 3]]
    ∧ ∀ (outcome : GroupOutcome) (slide : Option Slide) (learned : Option LearnResult) (label : Option (Nat × Option LabelState))
        (finished : Bool),
        (EntryResult.done outcome slide learned label finished).fields =
          List.flatten
            [.u 1 4 :: outcome.fields,
             match slide with | none => [] | some x => [.u 1 x.outcome.number, .u 1 x.attempts, .i 1 x.shift],
             match learned with | none => [.u 1 0] | some x => .u 1 1 :: x.fields,
             match label with
              | none => []
              | some (frame, none) => [.u 1 frame, .u 1 0]
              | some (frame, some st) => [.u 1 frame, .u 1 st.number],
             [.u 1 (if finished then 1 else 0)]]

/-- One selection entry: UNKNOWN, INCOMPLETE, ALREADY and RANGE change nothing; KEEP, REJECT_UNDER, REJECT_OVER and REJECT
settle the group and its frames, teach the profile table (REJECT does not), and give the slide its outcome, its reshoot shift
moved by (n + 1)/2 × spacing while an attempt is left. The work list takes the change, with its notices and no other. A KEEP
makes one label record, QUEUED in its place in register order with room and no older label WAITING, else WAITING. DONE carries
the group's outcome, the slide as it has become, what was learned, the kept frame with its label state, and whether the order
finished. -/
def Obligations.SelectionEntries : Prop :=
  ∀ (k : Nat) (e : SelectReq) (s t : State) (r : Roll) (result : EntryResult), s.slotRoll? k = some r →
    applyEntry k e s = (t, result) →
      ((∀ g ∈ r.groups, g.first ≠ e.first) → result = .unknown ∧ t = s)
        ∧ ∀ g, r.groups.find? (fun g => g.first == e.first) = some g →
            (g.completeness ≠ .complete → result = .incomplete ∧ t = s)
              ∧ (g.completeness = .complete → g.outcome ≠ .unselected → result = .already ∧ t = s)
              ∧ (g.completeness = .complete → g.outcome = .unselected → e.outcome = 0 → (g.n - 1) / 2 < e.step.natAbs →
                  result = .range ∧ t = s)
              ∧ (g.completeness = .complete → g.outcome = .unselected → ¬(e.outcome = 0 ∧ (g.n - 1) / 2 < e.step.natAbs) →
                  ∀ (outcome : GroupOutcome) (teach : Option LastStep) (change : Slide → Slide),
                    ((e.outcome, outcome, teach) = (0, GroupOutcome.kept e.step, some (LastStep.kept e.step))
                        ∧ (∀ x, change x = { x with outcome := .kept })
                      ∨ (e.outcome, outcome, teach) = (1, GroupOutcome.rejectUnder, some LastStep.under)
                        ∧ (∀ x, change x =
                            if x.attempts < 3 then
                              { x with outcome := .reshootDue,
                                       shift := max (-48) (min 48 (x.shift + ((g.n + 1) / 2 * g.spacing : Nat))) }
                            else { x with outcome := .rejected })
                      ∨ (e.outcome, outcome, teach) = (2, GroupOutcome.rejectOver, some LastStep.over)
                        ∧ (∀ x, change x =
                            if x.attempts < 3 then
                              { x with outcome := .reshootDue,
                                       shift := max (-48) (min 48 (x.shift - ((g.n + 1) / 2 * g.spacing : Nat))) }
                            else { x with outcome := .rejected })
                      ∨ (outcome, teach) = (GroupOutcome.reject, none) ∧ 3 ≤ e.outcome
                        ∧ (∀ x, change x = if x.attempts < 3 then { x with outcome := .reshootDue } else { x with outcome := .rejected })) →
                    (∃ label finished,
                        result = .done outcome (((s.order? g.order).bind fun o => o.slides[g.slide]?).map change)
                            (teach.map fun step => (s.profiles.learn g.cat g.n g.spacing g.pUsed step).2) label finished
                          ∧ (finished = true ↔ s.order? g.order ≠ none ∧ t.order? g.order = none)
                          ∧ (e.outcome ≠ 0 → label = none)
                          ∧ ∀ f, e.outcome = 0 →
                              r.frames.find? (fun f => f.group == g.first && (decide (f.step = e.step) && decide (f.kind = .exposure)))
                                = some f →
                              label = some (f.number, labelStateOf t { roll := r.id, frame := f.number }))
                      ∧ t.profiles = (match teach with
                          | some step => (s.profiles.learn g.cat g.n g.spacing g.pUsed step).1
                          | none => s.profiles)
                      ∧ (∀ u : State,
                          u = takeOutcomeChange g.order
                            (s.onOrder g.order fun o => { o with slides := o.slides.modify g.slide change }) →
                            t.work = u.work ∧ t.link = u.link)
                      ∧ (∃ q, t.slotRoll? k = some q
                          ∧ q.groups = r.groups.map (fun h => if h.first = g.first then { h with outcome := outcome } else h)
                          ∧ q.frames.length = r.frames.length
                          ∧ ∀ (i : Nat) (f f' : Frame), r.frames[i]? = some f → q.frames[i]? = some f' →
                              (f'.selection = if f.group = g.first then
                                (if e.outcome = 0 ∧ f.step = e.step ∧ f.kind = .exposure then .kept else .discarded) else f.selection)
                                ∧ (f'.number, f'.kind, f'.group, f'.step, f'.amount, f'.account, f'.credited)
                                    = (f.number, f.kind, f.group, f.step, f.amount, f.account, f.credited)
                                ∧ (e.outcome ≠ 0 → f'.label = f.label))
                      ∧ t.tally = s.tally
                      ∧ (e.outcome ≠ 0 → t.labels = s.labels)
                      ∧ (∀ o x f key, e.outcome = 0 → s.order? g.order = some o → o.slides[g.slide]? = some x →
                          r.frames.find? (fun f => f.group == g.first && (decide (f.step = e.step) && decide (f.kind = .exposure)))
                            = some f →
                          key = { roll := r.id, frame := f.number } →
                            t.labels.records = s.labels.records ++
                                [{ key := key, cat := g.cat, caption := x.caption.getD o.title,
                                   course := o.title, lecturer := o.lecturer, account := o.account, date := s.labels.date,
                                   stock := r.stock }]
                              ∧ ((∀ j < k, ∀ q, s.slotRoll? j = some q → q.id ≠ r.id) →
                                  (∀ f' ∈ r.frames, f'.number = f.number → f' = f) →
                                  (s.labels.queue.length < 32 → (∀ w ∈ labelsWith .waiting s, labelBefore s key w = true) →
                                      labelStateOf t key = some .queued
                                        ∧ t.labels.queue = insertBy (labelBefore s) key s.labels.queue)
                                    ∧ (32 ≤ s.labels.queue.length →
                                      labelStateOf t key = some .waiting ∧ t.labels.queue = s.labels.queue)
                                    ∧ (32 ≤ t.labels.queue.length ∨ labelsWith .waiting t = []
                                        ∨ ∀ w ∈ labelsWith .waiting s, labelBefore s key w = true))))

/-- CLOSE ROLL: RANGE, UNKNOWN, STATE, LABELS PENDING; else every UNSELECTED group is settled in list order, LOST with credits
and the slide due again, ABANDON with the slide rejected, and the roll closes with ROLL CLOSED, its slot and label records
freed. The close test closes a roll with no UNSELECTED group and no kept frame WAITING or QUEUED. That the count and sum of the
credits carry no presence byte is the model's choice (assumption log entry 34). -/
def Obligations.CloseRoll : Prop :=
  (∀ (roll disposition : Nat) (s : State) (inRange : Prop), LinkFree s →
    (inRange ↔ (1 ≤ roll ∧ roll ≤ 999999) ∧ disposition ≤ 1) →
      (¬inRange → exec (.closeRoll roll disposition) s = .next (refusedWith 0x2D .range s))
        ∧ (inRange → (∀ r ∈ s.allRolls, r.id ≠ roll) →
            exec (.closeRoll roll disposition) s = .next (refusedWith 0x2D .unknown s))
        ∧ (inRange → (∃ r ∈ s.allRolls, r.id = roll) → (∀ k < 8, ∀ r, s.slotRoll? k = some r → r.id ≠ roll) →
            exec (.closeRoll roll disposition) s = .next (refusedWith 0x2D .state s))
        ∧ (∀ (k : Nat) (r : Roll) (groups : List Group) (credits : List Frame), inRange → k < 8 → s.slotRoll? k = some r → r.id = roll →
            (∀ q ∈ s.allRolls, q.id = roll → q = r) → (∀ j < k, ∀ q, s.slotRoll? j = some q → q.id ≠ roll) →
            groups = r.groups.filter (fun g => g.outcome = .unselected) →
            credits = groups.flatMap (fun g =>
              (r.frames.filter fun f => f.group = g.first).filter fun f => f.kind = .exposure ∧ f.credited = false) →
              ((∃ f ∈ r.frames, f.selection = .kept ∧ (f.label = some .waiting ∨ f.label = some .queued)) →
                  exec (.closeRoll roll disposition) s = .next (refusedWith 0x2D .labelsPending s))
                ∧ ((∀ f ∈ r.frames, f.selection = .kept → f.label ≠ some .waiting ∧ f.label ≠ some .queued) →
                    (disposition = 0 →
                        exec (.closeRoll roll disposition) s = .next
                          (replied
                            (acceptedMsg 0x2D false
                              [.u 3 roll, .u 1 k, .u 1 groups.length, .u 1 credits.length,
                               .i 3 (-((credits.map fun f => f.amount.getD 0).sum : Nat) : Int)])
                            (fun s => eventEnd false s (closeRoll k .lost (groups.foldl (fun s g => settleLost k g s) s))) s))
                      ∧ (disposition = 1 →
                        exec (.closeRoll roll disposition) s = .next
                          (replied (acceptedMsg 0x2D false [.u 3 roll, .u 1 k, .u 1 groups.length])
                            (fun s => eventEnd false s (closeRoll k .abandon (groups.foldl (fun s g => settleAbandon k g s) s)))
                            s)))))
    ∧ (∀ (k : Nat) (g : Group) (s : State) (r : Roll), s.slotRoll? k = some r →
        (∃ q, (settleLost k g s).slotRoll? k = some q
            ∧ q.groups = r.groups.map (fun h => if h.first = g.first then { h with outcome := .discarded } else h)
            ∧ (∀ f ∈ q.frames, f.group = g.first → f.selection = .discarded ∧ (f.kind = .exposure → f.credited = true)))
          ∧ (settleLost k g s).tally = (creditFrames r.stock (r.frames.filter fun f => f.group == g.first) s).tally
          ∧ (∀ u : State,
              u = takeOutcomeChange g.order
                ((creditFrames r.stock (r.frames.filter fun f => f.group == g.first) s).onOrder g.order fun o =>
                  { o with slides := o.slides.modify g.slide fun x =>
                      { x with outcome := .reshootDue, attempts := x.attempts - 1 } }) →
                (settleLost k g s).work = u.work ∧ (settleLost k g s).link = u.link)
          ∧ (∃ q, (settleAbandon k g s).slotRoll? k = some q
              ∧ q.groups = r.groups.map (fun h => if h.first = g.first then { h with outcome := .reject } else h)
              ∧ ∀ f ∈ q.frames, f.group = g.first → f.selection = .discarded)
          ∧ (settleAbandon k g s).tally = s.tally
          ∧ ∀ u : State,
              u = takeOutcomeChange g.order
                (s.onOrder g.order fun o =>
                  { o with slides := o.slides.modify g.slide fun x => { x with outcome := .rejected } }) →
                (settleAbandon k g s).work = u.work ∧ (settleAbandon k g s).link = u.link)
    ∧ (∀ (k : Nat) (cause : CloseCause) (s : State) (r : Roll), s.slotRoll? k = some r →
        closeRoll k cause s
          = queueNotice
              (.rollClosed r.id k cause (r.groups.countP fun g => g.outcome.isKept)
                (r.groups.countP fun g => g.outcome = .rejectUnder ∨ g.outcome = .rejectOver ∨ g.outcome = .reject)
                (r.groups.countP fun g => g.outcome = .discarded)
                (r.frames.countP fun f => f.selection = .kept ∧ f.label = some .printed)
                (r.frames.countP fun f => f.selection = .kept ∧ f.label = some .failed))
              { s with
                register := s.register.setIfInBounds k none,
                labels := { s.labels with records := s.labels.records.filter fun x => x.key.roll != r.id } })
    ∧ (∀ (k : Nat) (s : State) (r : Roll) (open_ : Prop), s.slotRoll? k = some r →
        (∀ j < k, ∀ q, s.slotRoll? j = some q → q.id ≠ r.id) →
        (open_ ↔ (∃ g ∈ r.groups, g.outcome = .unselected)
          ∨ ∃ f ∈ r.frames, f.selection = .kept ∧ (f.label = some .waiting ∨ f.label = some .queued)) →
          (open_ → closeTest r.id s = s) ∧ (¬open_ → closeTest r.id s = closeRoll k .automatic s))

/-! ## Mount labels -/

/-- The requests of the printer line: PRINT LABELS gives the run and starts or resends on a PAUSED line, PAUSE PRINTER pauses at
once or at the token, RESUME PRINTER resumes a STOPPED line or a PAUSED one with a run, RELABEL returns a FAILED label to
WAITING and fills the queue, SET DATE sets the date; each with its tests. That the acceptance of PAUSE PRINTER gives AT TOKEN as
a yes-or-no byte, and that of PRINT LABELS the stop reason after a STOPPED line state, is the model's choice (assumption log
entry 34). -/
def Obligations.PrinterRequests : Prop :=
  ∀ s : State, LinkFree s →
    (∀ count, 255 < count → exec (.printLabels count) s = .next (refusedWith 0x30 .range s))
      ∧ (∀ u : State,
          (∀ k ks, u.labels.line = .idle → u.labels.queue = k :: ks → sendIfIdle u = transmit (u.labels.head.getD k) u)
            ∧ ((u.labels.line ≠ .idle ∨ u.labels.queue = []) → sendIfIdle u = u))
      ∧ (∀ (count : Nat) (started : State → State) (page : State → List Field), count ≤ 255 →
          (∀ u : State, page u =
            List.flatten
              [u.labels.line.fields, u.labels.run.fields, [.u 1 u.labels.queue.length, .u 2 (labelsWith .waiting u).length]]) →
          (∀ (s u : State), u = { s with labels :=
              { s.labels with run := if count = 0 then .opened else .counted count, pausePending := false } } →
            (s.labels.line = .paused → s.labels.head = none →
                started s = { u with labels := { u.labels with line := .idle } })
              ∧ (∀ k, s.labels.line = .paused → s.labels.head = some k → started s = transmit k u)
              ∧ (s.labels.line ≠ .paused → started s = u)) →
          exec (.printLabels count) s = .next
            (replied (acceptedMsg 0x30 false (page (sendIfIdle (started (hunting s))))) (fun s => printEnd s (started s)) s))
      ∧ (∀ line : LineState → LabelUnit → LabelUnit, (∀ l u, line l u = { u with line := l }) →
          exec .pausePrinter s = .next
            (replied (acceptedMsg 0x31 false [.u 1 (if s.labels.line = .awaiting then 1 else 0)])
              (fun s => printEnd s
                { s with labels :=
                    match s.labels.line with
                    | .idle => line .paused s.labels
                    | .awaiting => { s.labels with pausePending := true }
                    | .paused => s.labels
                    | .stopped _ => line .paused s.labels })
              s))
      ∧ (∀ canResume : Prop,
          (canResume ↔ (∃ r, s.labels.line = .stopped r) ∨ (s.labels.line = .paused ∧ s.labels.run ≠ .off)) →
            (¬canResume → exec .resumePrinter s = .next (refusedWith 0x32 .state s))
              ∧ (canResume → s.labels.head = none →
                  exec .resumePrinter s = .next
                    (replied (acceptedMsg 0x32 false [])
                      (fun s => printEnd s { s with labels := { s.labels with line := .idle } }) s))
              ∧ (∀ k, canResume → s.labels.head = some k →
                  exec .resumePrinter s = .next (replied (acceptedMsg 0x32 false []) (fun s => printEnd s (transmit k s)) s)))
      ∧ (∀ (roll frame : Nat) (inRange : Prop), (inRange ↔ (1 ≤ roll ∧ roll ≤ 999999) ∧ 1 ≤ frame ∧ frame ≤ 72) →
          (¬inRange → exec (.relabel roll frame) s = .next (refusedWith 0x33 .range s))
            ∧ (inRange → (∀ r, s.roll? roll = some r → ∀ f ∈ r.frames, f.number = frame → f.selection ≠ .kept) →
                exec (.relabel roll frame) s = .next (refusedWith 0x33 .unknown s))
            ∧ (∀ r, inRange → s.roll? roll = some r → (∃ f ∈ r.frames, f.number = frame ∧ f.selection = .kept) →
                (labelStateOf s { roll := roll, frame := frame } ≠ some .failed →
                    exec (.relabel roll frame) s = .next (refusedWith 0x33 .state s))
                  ∧ (labelStateOf s { roll := roll, frame := frame } = some .failed →
                    exec (.relabel roll frame) s = .next
                      (replied
                        (acceptedMsg 0x33 false
                          [.u 3 roll, .u 1 frame,
                           .u 1 (((labelStateOf (fillQueue (setLabelState { roll := roll, frame := frame } .waiting (hunting s)))
                              { roll := roll, frame := frame }).map LabelState.number).getD 0)])
                        (fun s => printEnd s (fillQueue (setLabelState { roll := roll, frame := frame } .waiting s))) s))))
      ∧ (∀ date, (65535 < date → exec (.setDate date) s = .next (refusedWith 0x34 .range s))
          ∧ (date ≤ 65535 →
              exec (.setDate date) s = .next
                (replied (acceptedMsg 0x34 false [.u 2 date]) (fun s => { s with labels := { s.labels with date := date } }) s)))

/-! ## Charges and tally counters -/

/-- SET RATES, SET COUNTER, LOCK COUNTER and CLOSE PERIOD with their tests. SET COUNTER: RANGE on a mask bit above 8, a selected
value out of its range, or a match bit outside the mask; LOCKED; else the selected fields alone change, the crossed mark is set
anew with the level or total, and the CEILING holds are released when the ceiling is raised or removed, the total lowered, or a
counter with a ceiling matches otherwise (which of the two ceilings counts is the model's choice, assumption log entry 22, as is
the counter number in front of the acceptance, entry 34). CLOSE PERIOD: the period's totals reported, zeroed, marks and locks
cleared, the period number moved on. SET RATES and CLOSE PERIOD release the CEILING holds. That CLOSE PERIOD lists its 16
counters without a count byte is read from R193 by inference (assumption log entry 13). -/
def Obligations.TallyRequests : Prop :=
  (∀ s : State, LinkFree s →
      (∀ (mount threshold surcharge : Nat) (inRange : Prop),
        (inRange ↔ mount ≤ 9999 ∧ (8 ≤ threshold ∧ threshold ≤ 15) ∧ surcharge ≤ 9999) →
          (¬inRange → exec (.setRates mount threshold surcharge) s = .next (refusedWith 0x36 .range s))
            ∧ (inRange →
                exec (.setRates mount threshold surcharge) s = .next
                  (replied (acceptedMsg 0x36 false [.u 2 mount, .u 1 threshold, .u 2 surcharge])
                    (fun s => eventEnd false s
                      (releaseCeiling
                        { s with tally :=
                            { s.tally with mountRate := mount, rushClass := threshold, surcharge := surcharge } }))
                    s)))
        ∧ (∀ k, (15 < k → exec (.lockCounter k) s = .next (refusedWith 0x38 .range s))
            ∧ (k ≤ 15 →
                exec (.lockCounter k) s = .next
                  (replied (acceptedMsg 0x38 false [.u 1 k])
                    (fun s =>
                      { s with tally :=
                          { s.tally with
                            counters := s.tally.counters.setIfInBounds k { counterAt s.tally.counters k with locked := true } } })
                    s)))
        ∧ ∃ v : Vector Counter 16,
            (∀ k < 16, counterAt v k = { counterAt s.tally.counters k with total := 0, crossed := false, locked := false })
              ∧ exec .closePeriod s = .next
                  (replied
                    (acceptedMsg 0x3A false
                      (.u 2 s.tally.period
                        :: s.tally.counters.toList.flatMap
                          (fun c => [.u 1 (if c.enabled then 1 else 0), .u 4 c.total, .u 1 (if c.crossed then 1 else 0),
                            .u 1 (if c.locked then 1 else 0)])
                        ++ [.u 2 ((s.tally.period + 1) % 65536)]))
                    (fun s => eventEnd false s
                      (releaseCeiling
                        { s with tally := { s.tally with counters := v, period := (s.tally.period + 1) % 65536 } }))
                    s))
    ∧ ∀ (q : CounterReq) (s : State) (inRange eased : Prop) (old new : Counter), LinkFree s →
        old = counterAt s.tally.counters q.counter →
        (inRange ↔ q.counter ≤ 15 ∧ q.mask.toNat < 512 ∧ (q.mask.getLsbD 0 = true → q.enabled ≤ 1)
          ∧ (q.mask.getLsbD 1 = true → q.kinds ≤ 15) ∧ (q.mask.getLsbD 2 = true → q.acctMatch ≤ 65535)
          ∧ (q.mask.getLsbD 3 = true → q.acctMask ≤ 65535) ∧ (q.mask.getLsbD 4 = true → q.stocks ≤ 15)
          ∧ (q.mask.getLsbD 5 = true → ∀ v ∈ q.ceiling, v ≤ 4294967295) ∧ (q.mask.getLsbD 6 = true → ∀ v ∈ q.level, v ≤ 4294967295)
          ∧ (q.mask.getLsbD 7 = true → q.note ≤ 4294967295) ∧ (q.mask.getLsbD 8 = true → q.total ≤ 4294967295)) →
        (new.enabled = if q.mask.getLsbD 0 then decide (q.enabled ≠ 0) else old.enabled) →
        (new.kinds = if q.mask.getLsbD 1 then BitVec.ofNat 4 q.kinds else old.kinds) →
        (new.acctMatch = if q.mask.getLsbD 2 then BitVec.ofNat 16 q.acctMatch else old.acctMatch) →
        (new.acctMask = if q.mask.getLsbD 3 then BitVec.ofNat 16 q.acctMask else old.acctMask) →
        (new.stocks = if q.mask.getLsbD 4 then BitVec.ofNat 4 q.stocks else old.stocks) →
        (new.ceiling = if q.mask.getLsbD 5 then q.ceiling else old.ceiling) →
        (new.level = if q.mask.getLsbD 6 then q.level else old.level) →
        (new.note = if q.mask.getLsbD 7 then q.note else old.note) →
        (new.total = if q.mask.getLsbD 8 then q.total else old.total) →
        ((q.mask.getLsbD 6 = true ∨ q.mask.getLsbD 8 = true) → (new.crossed = true ↔ ∃ l, new.level = some l ∧ l ≤ new.total)) →
        (q.mask.getLsbD 6 = false → q.mask.getLsbD 8 = false → new.crossed = old.crossed) → new.locked = old.locked →
        (eased ↔ (∃ a, old.ceiling = some a ∧ (new.ceiling = none ∨ ∃ b, new.ceiling = some b ∧ a < b)) ∨ new.total < old.total
          ∨ (old.ceiling.isSome = true ∧ ((old.enabled = true ∧ new.enabled = false) ∨ old.kinds ≠ new.kinds
              ∨ old.acctMatch ≠ new.acctMatch ∨ old.acctMask ≠ new.acctMask ∨ old.stocks ≠ new.stocks))) →
          ((¬inRange ∨ new.acctMatch &&& ~~~new.acctMask ≠ 0#16) → exec (.setCounter q) s = .next (refusedWith 0x37 .range s))
            ∧ (inRange → new.acctMatch &&& ~~~new.acctMask = 0#16 → old.locked = true →
                exec (.setCounter q) s = .next (refusedWith 0x37 .locked s))
            ∧ (inRange → new.acctMatch &&& ~~~new.acctMask = 0#16 → old.locked = false →
                ∀ set : State → State,
                  (∀ s, set s = { s with tally := { s.tally with counters := s.tally.counters.setIfInBounds q.counter new } }) →
                    (eased →
                        exec (.setCounter q) s = .next
                          (replied (acceptedMsg 0x37 false (.u 1 q.counter :: new.fields))
                            (fun s => eventEnd false s (releaseCeiling (set s))) s))
                      ∧ (¬eased →
                        exec (.setCounter q) s = .next
                          (replied (acceptedMsg 0x37 false (.u 1 q.counter :: new.fields)) (fun s => eventEnd false s (set s)) s)))

/-- A posting, ADJUST ACCOUNT, and the ceiling check: every matching counter takes the amount, held at 0 and 4,294,967,295; a
level crossed upward queues COUNTER LEVEL once; a lowered total releases the CEILING holds; the credits of frames are one CREDIT
posting of minus the stored amount on the stored account for each EXPOSURE frame not yet credited, in the order of the frames;
and a bracket fails at the lowest counter its n frames would bring above its ceiling. -/
def Obligations.PostingsAndCeilings : Prop :=
  (∀ (kind : PostKind) (account : Nat) (stock : Option Nat) (amount : Int) (s : State), ∃ (v : Vector Counter 16) (ns : List Notice),
    (∀ k < 16, ∀ (c : Counter) (takes : Prop), c = counterAt s.tally.counters k →
      (takes ↔ c.enabled = true ∧ c.kinds.getLsbD kind.number = true ∧ BitVec.ofNat 16 account &&& c.acctMask = c.acctMatch
        ∧ ∀ x ∈ stock, c.stocks.getLsbD x = true) →
        (¬takes → counterAt v k = c)
          ∧ (takes → ∀ total : Nat, (total : Int) = max 0 (min 4294967295 (c.total + amount)) →
              (c.level = none → counterAt v k = { c with total := total })
                ∧ ∀ l, c.level = some l →
                    (c.total < l → l ≤ total → counterAt v k = { c with total := total, crossed := true })
                      ∧ (total < l → counterAt v k = { c with total := total, crossed := false })
                      ∧ (l ≤ c.total → l ≤ total → counterAt v k = { c with total := total })))
      ∧ ns = (List.range 16).filterMap (fun k =>
          match (counterAt s.tally.counters k).level with
          | some l =>
            if (counterAt s.tally.counters k).crossed = false ∧ (counterAt v k).crossed = true then
              some (.counterLevel k (counterAt s.tally.counters k).note (counterAt v k).total l kind account)
            else none
          | none => none)
      ∧ ((∃ k < 16, (counterAt v k).total < (counterAt s.tally.counters k).total) →
          post kind account stock amount s
            = releaseCeiling (queueNotices ns { s with tally := { s.tally with counters := v } }))
      ∧ ((∀ k < 16, ¬(counterAt v k).total < (counterAt s.tally.counters k).total) →
          post kind account stock amount s = queueNotices ns { s with tally := { s.tally with counters := v } }))
    ∧ (∀ (account : Nat) (amount : Int) (s : State) (inRange : Prop), LinkFree s →
        (inRange ↔ (1 ≤ account ∧ account ≤ 0xFFFE) ∧ -99999 ≤ amount ∧ amount ≤ 99999) →
          (¬inRange → exec (.adjustAccount account amount) s = .next (refusedWith 0x39 .range s))
            ∧ (inRange →
                exec (.adjustAccount account amount) s = .next
                  (replied
                    (acceptedMsg 0x39 false
                      (listFields
                        (fun k => [.u 1 k, .u 4 (counterAt (post .adjust account none amount (hunting s)).tally.counters k).total])
                        ((List.range 16).filter fun k =>
                          (counterAt s.tally.counters k).enabled && (counterAt s.tally.counters k).kinds.getLsbD 3
                            && decide (BitVec.ofNat 16 account &&& (counterAt s.tally.counters k).acctMask
                                = (counterAt s.tally.counters k).acctMatch))))
                    (fun s => eventEnd false s (post .adjust account none amount s)) s)))
    ∧ (∀ (s : State) (account stock cls n k : Nat) (fails : Nat → Prop),
        (∀ j, fails j ↔ j < 16 ∧ ∃ c limit, c = counterAt s.tally.counters j ∧ c.enabled = true ∧ c.kinds.getLsbD 0 = true
          ∧ BitVec.ofNat 16 account &&& c.acctMask = c.acctMatch ∧ c.stocks.getLsbD stock = true ∧ c.ceiling = some limit
          ∧ limit < c.total + n * ((s.stock stock).rate + (if s.tally.rushClass ≤ cls then s.tally.surcharge else 0))) →
          (ceilingCheck s account stock cls n = some k ↔ fails k ∧ ∀ j < k, ¬fails j)
            ∧ (ceilingCheck s account stock cls n = none ↔ ∀ j, ¬fails j))
    ∧ (∀ (stock : Nat) (frames : List Frame) (s : State),
        creditFrames stock frames s
          = (frames.filter fun f => decide (f.kind = .exposure) && !f.credited).foldl
              (fun s f => post .credit (f.account.getD 0) (some stock) (-(f.amount.getD 0 : Int)) s) s)

/-! ## Events of the feeder, the tray and the gate -/

/-- The feeder's own events: a waiting operation starts, a FEED homing first from an UNKNOWN position and failing on a gate not
EMPTY; the home sense; the timeout, after which the position is UNKNOWN, the gate as its sense says and no position busy; and
what a halt report does. A FEED that fails as it comes to start ends as by timeout. An event with nothing in flight changes
nothing (the model's choice, assumption log entry 3). Read from the rules by inference: a waiting operation starts by its own
row (entry 8), the two rows of the home sense do what the operation in flight makes of it (entry 9), a FEED keeps its one limit
through its homing (entry 23). That the halt report comes before the end of a cycle already ENDING is the model's choice
(assumption log entry 37). -/
def Obligations.FeederEvents : Prop :=
  ∀ s : State, NumbersDistinct s →
    (∀ (w : FeederWait) (ws : List FeederWait), s.feeder.op = none → s.feeder.waiting = w :: ws →
        ((s.feeder.gate = .empty ∨ ∀ p x, w.job ≠ .feed p x) →
            exec .feederOpStart s = .next
              { s with feeder :=
                  { s.feeder with
                    waiting := ws,
                    op := some
                      { job := w.job, homing := decide (s.feeder.pos = none) && (match w.job with | .feed _ _ => true | _ => false),
                        limit := s.stand.settings.feedLimit, stale := false, ofCycle := w.ofCycle } } })
          ∧ (s.feeder.gate ≠ .empty → (∃ p x, w.job = .feed p x) →
            exec .feederOpStart s = .next
              (eventEnd false s (feederFail false { s with feeder := { s.feeder with waiting := ws } }))))
      ∧ ((s.feeder.op.isSome = true ∨ s.feeder.waiting = []) → exec .feederOpStart s = .next s)
      ∧ (∀ ofCycle : Bool,
          (s.feeder.op = none → s.feeder.waiting = [] →
              askJob .home ofCycle s
                = { s with feeder :=
                      { s.feeder with
                        op := some
                          { job := .home, homing := false, limit := s.stand.settings.feedLimit, stale := false,
                            ofCycle := ofCycle } } })
            ∧ ((s.feeder.op ≠ none ∨ s.feeder.waiting ≠ []) →
              askJob .home ofCycle s
                = { s with feeder := { s.feeder with waiting := s.feeder.waiting ++ [{ job := .home, ofCycle := ofCycle }] } }))
      ∧ (∀ c ∈ [Instr.homeComplete, .feedHomeDone],
          (s.feeder.op = none → exec c s = .next s)
            ∧ ∀ o, s.feeder.op = some o →
                (o.job = .home → exec c s = .next { s with feeder := { s.feeder with op := none, pos := some 0 } })
                  ∧ (o.job ≠ .home → o.homing = true →
                      exec c s = .next { s with feeder := { s.feeder with op := some { o with homing := false }, pos := some 0 } })
                  ∧ (o.job ≠ .home → o.homing = false → exec c s = .next s))
      ∧ (s.feeder.op = none → exec .feederTimeout s = .next s)
      ∧ (∀ (o : FeederOp) (t : State), s.feeder.op = some o →
          t = { s with feeder :=
                  { s.feeder with
                    op := none, pos := none, feedBusy := [], gate := if s.feeder.gateSense then .foreign else .empty } } →
            exec .feederTimeout s = .next (eventEnd false s (tryEndAborted (haltReport .feedTimeout o.stale t)))
              ∧ (s.stand.cycle = none → o.stale = false → AtWork s → exec .feederTimeout s = .next (haltedWith .feedTimeout t))
              ∧ (s.stand.cycle = none → (o.stale = true ∨ ¬AtWork s) → exec .feederTimeout s = .next t))
      ∧ (∀ (stale : Bool) (t : State),
          t = { s with feeder :=
                  { s.feeder with
                    op := none, pos := none, feedBusy := [], gate := if s.feeder.gateSense then .foreign else .empty } } →
            feederFail stale s = tryEndAborted (haltReport .feedTimeout stale t))
      ∧ (∀ (reason : HaltReason) (stale : Bool),
          (stale = false → AtWork s → haltReport reason stale s = abort (.halt reason) (some (.halted reason)) s)
            ∧ ((stale = true ∨ ¬AtWork s) → haltReport reason stale s = s))

/-- The tray and the gate: TRAY OUT empties the map and halts a cycle on the tray, TRAY IN; the gate-loaded sense completes a
FEED with HOLDS, or finds something FOREIGN; the gate-cleared sense completes a RETURN, or loses the original of a HOLDS record
and halts the cycle in flight. Read from the rules by inference: FEED COMPLETE is the gate-loaded sense and RETURN COMPLETE the
gate-cleared one (assumption log entry 9), and the sense completes a FEED also while it is homing (entry 28). A TRAY IN or TRAY
OUT that the sense already shows changes nothing more (the model's choice, assumption log entry 3). -/
def Obligations.TrayAndGateEvents : Prop :=
  ∀ s : State, NumbersDistinct s →
    (∀ (t : State) (onTray : Prop),
      t = { s with feeder := { s.feeder with present := false, map := Vector.replicate 80 none, pos := none } } →
      (onTray ↔ s.stand.cycle.isSome = true
        ∧ ((∃ o, s.feeder.op = some o ∧ o.ofCycle = true) ∨ (∃ w ∈ s.feeder.waiting, w.ofCycle = true)
          ∨ ∃ p x, s.feeder.gate = .holds p x)) →
        (onTray → exec .trayOut s = .next (eventEnd false s (tryEndAborted (haltReport .trayOut false t))))
          ∧ (¬onTray → s.feeder.present = true →
              exec .trayOut s = .next (queueNotice (.standChanged s.stand.mode s.head.lamp false) t))
          ∧ (¬onTray → s.feeder.present = false → exec .trayOut s = .next t))
      ∧ (s.feeder.present = true → exec .trayIn s = .next s)
      ∧ (s.feeder.present = false →
          exec .trayIn s = .next
            (queueNotice (.standChanged s.stand.mode s.head.lamp true) { s with feeder := { s.feeder with present := true } }))
      ∧ (∀ c ∈ [Instr.gateLoaded, .feedComplete],
          ((∀ o p x, s.feeder.op = some o → o.job ≠ .feed p x) →
              exec c s = .next { s with feeder := { s.feeder with gateSense := true, gate := .foreign } })
            ∧ ∀ o p x, s.feeder.op = some o → o.job = .feed p x →
                (o.stale = true →
                    exec c s = .next
                      { s with feeder :=
                          { s.feeder with
                            gateSense := true, op := none, pos := none, gate := .foreign, feedBusy := s.feeder.feedBusy.erase p } })
                  ∧ (o.stale = false →
                    exec c s = .next
                      (eventEnd false s
                        (tryEndAborted
                          (tryPlan
                            { s with feeder :=
                                { s.feeder with
                                  gateSense := true, op := none, pos := some p, gate := .holds p x,
                                  feedBusy := s.feeder.feedBusy.erase p } })))))
      ∧ (∀ c ∈ [Instr.gateCleared, .returnComplete],
          (∀ o p, s.feeder.op = some o → o.job = .ret p →
              exec c s = .next
                (eventEnd false s
                  (tryEndAborted
                    (tryEndNormal { s with feeder := { s.feeder with gateSense := false, op := none, gate := .empty } }))))
            ∧ ((∀ o p, s.feeder.op = some o → o.job ≠ .ret p) →
                ((∀ p x, s.feeder.gate ≠ .holds p x) →
                    exec c s = .next { s with feeder := { s.feeder with gateSense := false, gate := .empty } })
                  ∧ ∀ p x t, s.feeder.gate = .holds p x →
                      t = { s with feeder :=
                              { s.feeder with gateSense := false, gate := .empty, map := s.feeder.map.setIfInBounds p none } } →
                        (s.stand.cycle = none → exec c s = .next t)
                          ∧ (s.stand.cycle.isSome = true →
                              exec c s = .next (eventEnd false s (tryEndAborted (haltReport .trayOut false t))))))

/-! ## Events of the light head -/

/-- The warm-up's end, the loss of the lamp, the idle timer, METER with its readings clamped to 400, the density of them kept
beside them and handed on, and ND SET, which starts when asked for with none in flight or waiting and else waits. An expiry or
sense with nothing in flight changes nothing (the model's choice, assumption log entry 3), a METER of no cycle goes on to the
plan test (assumption log entry 15), and the readings carry the number their METER started with (assumption log entry 16). That
a waiting ND SET starts by its own row is read from the rules by inference (assumption log entry 8). -/
def Obligations.LightHeadEvents : Prop :=
  ∀ s : State, NumbersDistinct s →
    (∀ sense, s.head.lamp ≠ .warming → exec (.warmUpEnd sense) s = .next s)
      ∧ (s.head.lamp = .warming →
          exec (.warmUpEnd true) s = .next (eventEnd false s (tryPlan { s with head := { s.head with lamp := .ready } })))
      ∧ (∀ (c : Instr) (t : State), t = { s with head := { s.head with lamp := .failed } } →
          (c = .warmUpEnd false ∧ s.head.lamp = .warming
            ∨ c = .lampFailure ∧ (s.head.lamp = .warming ∨ s.head.lamp = .ready)) →
            exec c s = .next (eventEnd false s (haltReport .lampFail false t))
              ∧ (s.stand.cycle = none → AtWork s → exec c s = .next (haltedWith .lampFail t)))
      ∧ ((s.head.lamp = .off ∨ s.head.lamp = .failed) → exec .lampFailure s = .next s)
      ∧ (s.head.idle = none → exec .idleTimerExpiry s = .next s)
      ∧ (∀ t : State, s.head.idle.isSome = true → t = { s with head := { s.head with idle := none } } →
          ((s.head.lamp = .off ∨ s.head.lamp = .failed) → exec .idleTimerExpiry s = .next t)
            ∧ ((s.head.lamp = .warming ∨ s.head.lamp = .ready) →
                exec .idleTimerExpiry s = .next
                  (queueNotice (.standChanged s.stand.mode .off s.feeder.present)
                    { t with head := { t.head with lamp := .off } })))
      ∧ (∀ a b c d e : Nat,
          (s.head.meter = none → exec (.meterComplete a b c d e) s = .next s)
            ∧ ∀ (m : MeterOp) (r : Readings) (t : State), s.head.meter = some m →
                (∀ sum, sum = 4 * min 400 a + min 400 b + min 400 c + min 400 d + min 400 e →
                  16 * r.d ≤ 2 * sum + 8 ∧ 2 * sum + 8 < 16 * (r.d + 1)) →
                r = { centre := min 400 a, upperLeft := min 400 b, upperRight := min 400 c, lowerLeft := min 400 d,
                      lowerRight := min 400 e, d := r.d,
                      dense := decide (400 < a ∨ 400 < b ∨ 400 < c ∨ 400 < d ∨ 400 < e), cat := m.cat } →
                t = { s with head := { s.head with meter := none, readings := some r } } →
                  (∀ y, m.ofCycle = true → s.stand.cycle = some y →
                      exec (.meterComplete a b c d e) s = .next (takePlan y r.d r.dense t))
                    ∧ (m.ofCycle = false → exec (.meterComplete a b c d e) s = .next (tryPlan t))
                    ∧ (m.ofCycle = true → s.stand.cycle = none → exec (.meterComplete a b c d e) s = .next t))
      ∧ (s.head.meter = none → exec .meterTimeout s = .next s)
      ∧ (∀ m t, s.head.meter = some m → t = { s with head := { s.head with meter := none } } →
          exec .meterTimeout s = .next (eventEnd false s (tryPlan (haltReport .meterTimeout m.stale t)))
            ∧ (s.stand.cycle = none → m.stale = false → AtWork s → exec .meterTimeout s = .next (haltedWith .meterTimeout t)))
      ∧ (∀ (target : Nat) (ofCycle : Bool),
          (s.head.ndOp = none → s.head.ndWaiting = [] →
              askNd target ofCycle s
                = { s with head :=
                      { s.head with nd := none, ndOp := some { target := target, stale := false, ofCycle := ofCycle } } })
            ∧ ((s.head.ndOp ≠ none ∨ s.head.ndWaiting ≠ []) →
              askNd target ofCycle s
                = { s with head :=
                      { s.head with ndWaiting := s.head.ndWaiting ++ [{ target := target, ofCycle := ofCycle }] } }))
      ∧ ((s.head.ndOp.isSome = true ∨ s.head.ndWaiting = []) → exec .ndSetStart s = .next s)
      ∧ (∀ (w : NdWait) (ws : List NdWait), s.head.ndOp = none → s.head.ndWaiting = w :: ws →
          exec .ndSetStart s = .next
            { s with head :=
                { s.head with
                  nd := none, ndWaiting := ws, ndOp := some { target := w.target, stale := false, ofCycle := w.ofCycle } } })
      ∧ (s.head.ndOp = none → exec .ndSetComplete s = .next s ∧ exec .ndTimeout s = .next s)
      ∧ (∀ o, s.head.ndOp = some o →
          exec .ndSetComplete s = .next { s with head := { s.head with nd := some o.target, ndOp := none } })
      ∧ (∀ o t, s.head.ndOp = some o → t = { s with head := { s.head with nd := none, ndOp := none } } →
          exec .ndTimeout s = .next (eventEnd false s (haltReport .ndTimeout o.stale t))
            ∧ (s.stand.cycle = none → o.stale = false → AtWork s → exec .ndTimeout s = .next (haltedWith .ndTimeout t)))

/-! ## Events of the film transport and the shutter -/

/-- ADVANCE: one of a back at a time, the owed spent-frame advance before the waiting ones; its completion by the state of the
back; its timeout and the film end, which fault or end a back that winds; and what the failure of a cycle's back does. That the
owed advance goes first and that a waiting ADVANCE starts by its own row are read from the rules by inference (assumption log
entries 25 and 8); an event with none in flight changes nothing (the model's choice, assumption log entry 3). -/
def Obligations.AdvanceEvents : Prop :=
  ∀ (b : BackId) (s : State), NumbersDistinct s →
    (((s.back b).advance.isSome = true ∨ ((s.back b).owed = false ∧ (s.back b).waiting = [])) →
        exec (.advanceStart b) s = .next s)
      ∧ ((s.back b).advance = none → (s.back b).owed = true →
          exec (.advanceStart b) s = .next
            (s.onBack b fun k =>
              { k with
                advance := some { cause := .spent, limit := s.stand.settings.advanceLimit, ofCycle := false }, owed := false }))
      ∧ (∀ w ws, (s.back b).advance = none → (s.back b).owed = false → (s.back b).waiting = w :: ws →
          exec (.advanceStart b) s = .next
            (s.onBack b fun k =>
              { k with
                advance := some { cause := w.cause, limit := s.stand.settings.advanceLimit, ofCycle := w.ofCycle }, waiting := ws }))
      ∧ ((s.back b).advance = none →
          exec (.advanceComplete b) s = .next s ∧ exec (.advanceTimeout b) s = .next s ∧ exec (.filmEnd b) s = .next s)
      ∧ (∀ (a : AdvanceOp) (t u : State), (s.back b).advance = some a →
          t = (s.onBack b fun k => { k with advance := none, gateFrame := .fresh }) →
          ((s.back b).state = .leader → 1 < (s.back b).leaderLeft →
            u = (t.onBack b fun k =>
              { k with
                advance := some { cause := .leader, limit := s.stand.settings.advanceLimit, ofCycle := false },
                leaderLeft := k.leaderLeft - 1 })) →
          ((s.back b).state = .leader → (s.back b).leaderLeft ≤ 1 →
            u = (match (s.back b).roll with | some r => releaseFilm r.stock | none => id)
              (setBackState b .ready (t.onBack b fun k => { k with leaderLeft := 0 }))) →
          ((s.back b).state = .ready →
            u = (match (s.back b).roll with
                | some r => if r.next = r.declared + 1 then setBackState b .full else id
                | none => id) t) →
          ((s.back b).state ≠ .leader → (s.back b).state ≠ .ready → u = t) →
            exec (.advanceComplete b) s = .next (eventEnd false s (startOwed b (if a.ofCycle then stepAdvanced u else u))))
      ∧ (∀ (c : Instr) (state : BackState) (cause : AbortCause) (t : State), (s.back b).advance.isSome = true →
          ((c, state, cause) = (.advanceTimeout b, BackState.fault .advanceTimeout, AbortCause.advanceTimeout)
              ∧ t = (s.onBack b fun k => { k with advance := none, owed := false, leaderLeft := 0 })
            ∨ (c, state, cause) = (.filmEnd b, BackState.ended, AbortCause.filmEnd)
              ∧ t = (s.onBack b fun k =>
                { k with
                  advance := none, owed := false, leaderLeft := 0,
                  roll := k.roll.map fun r => { r with endMark := some r.next } })) →
            (((s.back b).state = .leader ∨ (s.back b).state = .ready ∨ (s.back b).state = .full) →
                exec c s = .next (eventEnd false s (backFailed b cause (setBackState b state t))))
              ∧ ((s.back b).state ≠ .leader → (s.back b).state ≠ .ready → (s.back b).state ≠ .full → exec c s = .next t))
      ∧ (∀ cause : AbortCause,
          ((∀ c, s.stand.cycle = some c → c.back = b → c.cause ≠ none) → backFailed b cause s = s)
            ∧ ∀ c, s.stand.cycle = some c → c.back = b → c.cause = none →
                (c.phase = .finishing → backFailed b cause s = tryEndNormal s)
                  ∧ (c.phase ≠ .finishing → backFailed b cause s = abort cause none s))
      ∧ (∀ (cause : AdvanceCause) (ofCycle : Bool),
          ((s.back b).advance = none → (s.back b).waiting = [] →
              askAdvance b cause ofCycle s
                = s.onBack b fun k =>
                    { k with advance := some { cause := cause, limit := s.stand.settings.advanceLimit, ofCycle := ofCycle } })
            ∧ (((s.back b).advance ≠ none ∨ (s.back b).waiting ≠ []) →
              askAdvance b cause ofCycle s
                = s.onBack b fun k => { k with waiting := k.waiting ++ [{ cause := cause, ofCycle := ofCycle }] }))
      ∧ ((s.back b).owed = true → (s.back b).advance = none →
          startOwed b s
            = s.onBack b fun k =>
                { k with
                  advance := some { cause := .spent, limit := s.stand.settings.advanceLimit, ofCycle := false }, owed := false })
      ∧ (((s.back b).owed = false ∨ (s.back b).advance ≠ none) → startOwed b s = s)
      ∧ (∀ c, s.stand.cycle = some c →
          (∀ p, c.step? = some p →
              (s.head.nd = some p.nd → askStepNd s = s) ∧ (s.head.nd ≠ some p.nd → askStepNd s = askNd p.nd true s))
            ∧ (c.step? = none → askStepNd s = s))
      ∧ (∀ c, s.stand.cycle = some c →
          (c.phase = .advancing →
              stepAdvanced s = askStepNd { s with stand := { s.stand with cycle := some { c with phase := .exposing } } })
            ∧ (c.phase ≠ .advancing → stepAdvanced s = tryEndNormal s))

/-- SWAP, asked for or waiting, starts when nothing it waits on is in flight and turns the turret, or completes at once where
the turret stands at its target; its completion and timeout; REWIND's completion and timeout. An event with none in flight
changes nothing (the model's choice, assumption log entry 3); a waiting SWAP starts by its own row (read from the rules by
inference, assumption log entry 8). -/
def Obligations.SwapAndRewindEvents : Prop :=
  ∀ s : State, NumbersDistinct s →
    (∀ (target : BackId) (ofCycle : Bool) (blocked : Prop),
      (blocked ↔ s.film.swap.isSome = true ∨ s.film.swapWaiting ≠ []
        ∨ (s.film.turret ≠ .stands target
          ∧ ∃ k, s.film.turret = .stands k
            ∧ ((s.back k).advance.isSome = true
              ∨ (s.stand.expose.isSome = true ∧ ∃ c, s.stand.cycle = some c ∧ c.back = k)))) →
        (¬blocked → s.film.turret = .stands target → askSwap target ofCycle s = s)
          ∧ (¬blocked → s.film.turret ≠ .stands target →
              askSwap target ofCycle s
                = { s with film :=
                      { s.film with
                        turret := .turning target, swap := some { target := target, stale := false, ofCycle := ofCycle } } })
          ∧ (blocked →
              askSwap target ofCycle s
                = { s with film :=
                      { s.film with swapWaiting := s.film.swapWaiting ++ [{ target := target, ofCycle := ofCycle }] } }))
      ∧ (s.film.swapWaiting = [] → exec .swapStart s = .next s)
      ∧ (∀ (w : SwapWait) (ws : List SwapWait) (blocked : Prop), s.film.swapWaiting = w :: ws →
          (blocked ↔ s.film.swap.isSome = true
            ∨ (s.film.turret ≠ .stands w.target
              ∧ ∃ k, s.film.turret = .stands k
                ∧ ((s.back k).advance.isSome = true
                  ∨ (s.stand.expose.isSome = true ∧ ∃ c, s.stand.cycle = some c ∧ c.back = k)))) →
            (blocked → exec .swapStart s = .next s)
              ∧ (¬blocked → s.film.turret = .stands w.target →
                  exec .swapStart s = .next { s with film := { s.film with swapWaiting := ws } })
              ∧ (¬blocked → s.film.turret ≠ .stands w.target →
                  exec .swapStart s = .next
                    { s with film :=
                        { s.film with
                          swapWaiting := ws, turret := .turning w.target,
                          swap := some { target := w.target, stale := false, ofCycle := w.ofCycle } } }))
      ∧ (s.film.swap = none → exec .swapComplete s = .next s ∧ exec .swapTimeout s = .next s)
      ∧ (∀ o, s.film.swap = some o →
          exec .swapComplete s = .next { s with film := { s.film with turret := .stands o.target, swap := none } })
      ∧ (∀ o t, s.film.swap = some o → t = { s with film := { s.film with turret := .unknown, swap := none } } →
          exec .swapTimeout s = .next (eventEnd false s (haltReport .swapTimeout o.stale t))
            ∧ (s.stand.cycle = none → o.stale = false → AtWork s → exec .swapTimeout s = .next (haltedWith .swapTimeout t)))
      ∧ (∀ b : BackId,
          ((s.back b).state = .rewinding →
              exec (.rewindComplete b) s = .next (setBackState b .rewound s)
                ∧ exec (.rewindTimeout b) s = .next (setBackState b (.fault .rewindTimeout) s))
            ∧ ((s.back b).state ≠ .rewinding → exec (.rewindComplete b) s = .next s ∧ exec (.rewindTimeout b) s = .next s))

/-- The shutter: it opens just when every condition of R120 and R99 holds, closes when the ticks have run, and the
shutter-closed sense then completes the exposure: the FRAME posting, the frame record with the step's values, the group's count,
the step ADVANCE, and after the last step the RETURN; a sense before the close command, or none in time, is a fault. EXPOSE
COMPLETE and SHUTTER EARLY CLOSE are one sense (read from the rules by inference, assumption log entry 9), the next step after
the last exposure is one past the plan (assumption log entry 14), and an event with no EXPOSE in flight changes nothing (the
model's choice, assumption log entry 3). -/
def Obligations.ShutterEvents : Prop :=
  ∀ s : State, NumbersDistinct s →
    (∀ (c : Cycle) (p : PlanStep) (may : Prop), s.stand.cycle = some c → c.step? = some p →
      (may ↔ c.phase = .exposing ∧ c.cause = none ∧ s.stand.expose = none ∧ s.head.nd = some p.nd ∧ s.head.ndOp = none
        ∧ s.head.lamp = .ready ∧ s.feeder.gate = .holds c.pos c.cat ∧ (s.back c.back).state = .ready
        ∧ s.film.turret = .stands c.back ∧ s.film.swap = none ∧ (s.back c.back).gateFrame = .fresh
        ∧ (s.back c.back).advance = none ∧ (s.back c.back).owed = false
        ∧ ∃ r, (s.back c.back).roll = some r ∧ r.next ≤ r.declared) →
        (may → exec .exposeStart s = .next
            { s with stand := { s.stand with expose := some { ticks := p.ticks, closing := false } } })
          ∧ (¬may → exec .exposeStart s = .next s))
      ∧ ((∀ c, s.stand.cycle = some c → c.step? = none) → exec .exposeStart s = .next s)
      ∧ (s.stand.expose = none →
          exec .shutterTicksEnd s = .next s ∧ exec .exposeTimeout s = .next s ∧ exec .exposeComplete s = .next s
            ∧ exec .shutterEarlyClose s = .next s)
      ∧ (∀ e, s.stand.expose = some e →
          exec .shutterTicksEnd s = .next { s with stand := { s.stand with expose := some { e with closing := true } } }
            ∧ exec .exposeTimeout s = .next (eventEnd false s (haltReport .shutterFault false s))
            ∧ (e.closing = false → ∀ c ∈ [Instr.shutterEarlyClose, .exposeComplete],
                exec c s = .next (eventEnd false s (haltReport .shutterFault false s)))
            ∧ (∀ (c : Cycle) (p : PlanStep) (r : Roll) (t : State) (amount : Nat), e.closing = true → s.stand.cycle = some c →
                c.step? = some p → (s.back c.back).roll = some r → exposeDone c p s = t →
                amount = (s.stock c.stock).rate + (if s.tally.rushClass ≤ c.cls then s.tally.surcharge else 0) →
                  (∀ i ∈ [Instr.exposeComplete, .shutterEarlyClose], exec i s = .next (eventEnd false s t))
                    ∧ t.stand.expose = none ∧ t.stand.mode = s.stand.mode
                    ∧ t.tally = (post .frame c.account (some c.stock) amount s).tally
                    ∧ (t.back c.back).gateFrame = .spent
                    ∧ (∃ q, (t.back c.back).roll = some q ∧ q.next = r.next + 1
                        ∧ q.frames = r.frames ++
                          [{ number := r.next, kind := .exposure, group := c.groupFirst.getD r.next, step := p.j, code := p.code,
                             nd := p.nd, ticks := p.ticks, dense := p.dense, shortClamp := p.shortClamp,
                             longClamp := p.longClamp, amount := some amount, account := some c.account, credited := false,
                             selection := .unselected, label := none }]
                        ∧ q.groups = r.groups.map fun g =>
                            if g.first = c.groupFirst.getD 0 then
                              { g with exposed := g.exposed + 1,
                                       completeness := if g.exposed + 1 = g.n then .complete else g.completeness }
                            else g)
                    ∧ ((s.back c.back).advance = none → (s.back c.back).waiting = [] →
                        (t.back c.back).advance
                          = some { cause := .step, limit := s.stand.settings.advanceLimit, ofCycle := true })
                    ∧ (∀ plan, c.plan = some plan →
                        (c.nextStep + 1 < plan.steps.length →
                            t.stand.cycle = some { c with nextStep := c.nextStep + 1, phase := .advancing } ∧ t.feeder = s.feeder)
                          ∧ (plan.steps.length ≤ c.nextStep + 1 →
                            t.stand.cycle = some { c with nextStep := c.nextStep + 1, phase := .finishing }
                              ∧ (s.feeder.op = none → s.feeder.waiting = [] → s.feeder.gate = .holds c.pos c.cat →
                                  t.feeder.op
                                    = some
                                      { job := .ret c.pos, homing := false, limit := s.stand.settings.feedLimit, stale := false,
                                        ofCycle := true })))))

/-! ## Events of the printer line -/

/-- The printer line's tokens, its timeout and its sends: PRINTED completes the head (also late, from NO_TOKEN or PAUSED), posts
the MOUNT at the mount rate to the label record's account and stock, and counts the run; JAMMED and OUT_OF_LABELS stop the line
and keep the head; FORMAT_ERROR fails the label; the token wait starts when the frame has gone; a token nothing awaits, and any
byte that is no token, changes nothing. The fill takes the oldest WAITING label first and keeps the queue in register order. A
label frame carries its fields from ROLL to STOCK between its length and its CHECK. A timeout with no wait running and a frame
sent with none out change nothing (the model's choice, assumption log entry 3); the timed-out mark goes with the head
(assumption log entry 18), and a label frame sent over one still going out takes its place (the model's choice, assumption log
entry 40). -/
def Obligations.PrinterLineEvents : Prop :=
  (∀ s : State,
    (∀ x, x ∉ [0x50#8, 0x4A#8, 0x45#8, 0x46#8] → exec (.unknownPrinterByte x) s = .next s)
      ∧ (∀ (x : Byte) (c : Instr),
          (x, c) ∈ [(0x50#8, Instr.printedToken), (0x4A#8, .jammedToken), (0x45#8, .outOfLabelsToken), (0x46#8, .formatErrorToken)] →
          exec (.unknownPrinterByte x) s = exec c s)
      ∧ (s.labels.head = none → exec .printedToken s = .next s ∧ exec .formatErrorToken s = .next s)
      ∧ (s.labels.line ≠ .awaiting → exec .jammedToken s = .next s ∧ exec .outOfLabelsToken s = .next s
          ∧ exec .formatErrorToken s = .next s ∧ exec .tokenTimeout s = .next s)
      ∧ (∀ (k : LabelKey) (t : State) (late : Prop), s.labels.head = some k →
          (late ↔ s.labels.timedOut = true ∧ (s.labels.line = .stopped .noToken ∨ s.labels.line = .paused)) →
          t = fillQueue
            ((postMount k
              (setLabelState k .printed
                { s with labels :=
                    { s.labels with
                      queue := s.labels.queue.erase k, head := none, waitOn := false, timedOut := false,
                      lastToken := some .printed } })).onLabels
              fun u => { u with run := match u.run with | .counted n => if n ≤ 1 then .off else .counted (n - 1) | run => run }) →
            (s.labels.line = .awaiting →
                exec .printedToken s = .next
                  (printEnd s
                    (closeTest k.roll
                      { t with labels :=
                          if t.labels.pausePending = true ∨ t.labels.run = .off then
                            { t.labels with line := .paused, pausePending := false }
                          else { t.labels with line := .idle } })))
              ∧ (s.labels.line ≠ .awaiting → late →
                exec .printedToken s = .next
                  (printEnd s
                    (closeTest k.roll
                      { t with labels :=
                          { t.labels with
                            line := if t.labels.line = .paused then .paused
                              else if t.labels.run = .off then .paused else .idle } })))
              ∧ (s.labels.line ≠ .awaiting → ¬late → exec .printedToken s = .next s))
      ∧ (∀ (c : Instr) (token : Token) (reason : StopReason), s.labels.line = .awaiting →
          (c, token, reason) ∈ [(.jammedToken, Token.jammed, StopReason.jammed), (.outOfLabelsToken, .outOfLabels, .outOfLabels)] →
          exec c s = .next
            (printEnd s
              { s with labels :=
                  { s.labels with
                    waitOn := false, lastToken := some token, pausePending := false,
                    line := if s.labels.pausePending then .paused else .stopped reason } }))
      ∧ (∀ (k : LabelKey) (t : State), s.labels.line = .awaiting → s.labels.head = some k →
          t = fillQueue
            (setLabelState k .failed
              { s with labels :=
                  { s.labels with
                    queue := s.labels.queue.erase k, head := none, waitOn := false, timedOut := false,
                    lastToken := some .formatError } }) →
          exec .formatErrorToken s = .next
            (printEnd s
              (closeTest k.roll
                { t with labels :=
                    if t.labels.pausePending = true ∨ t.labels.run = .off then
                      { t.labels with line := .paused, pausePending := false }
                    else { t.labels with line := .idle } })))
      ∧ (s.labels.line = .awaiting → s.labels.waitOn = false → exec .tokenTimeout s = .next s)
      ∧ (s.labels.line = .awaiting → s.labels.waitOn = true →
          exec .tokenTimeout s = .next
            (printEnd s
              { s with labels :=
                  { s.labels with
                    waitOn := false, timedOut := true, pausePending := false,
                    line := if s.labels.pausePending then .paused else .stopped .noToken } }))
      ∧ (s.labels.out = none → exec .labelFrameSent s = .next s)
      ∧ (s.labels.out.isSome = true →
          exec .labelFrameSent s = .next
            { s with labels := { s.labels with out := none, waitOn := decide (s.labels.line = .awaiting) } }))
    ∧ (∀ (before s t : State),
        (∀ k ks, s.labels.line = .idle → s.labels.queue = k :: ks → t = transmit (s.labels.head.getD k) s) →
        ((s.labels.line ≠ .idle ∨ s.labels.queue = []) → t = s) →
          ((before.labels.line = t.labels.line ∧ before.labels.queue.isEmpty = t.labels.queue.isEmpty) → printEnd before s = t)
            ∧ (¬(before.labels.line = t.labels.line ∧ before.labels.queue.isEmpty = t.labels.queue.isEmpty) →
                printEnd before s
                  = queueNotice
                      (.printerChanged t.labels.line t.labels.head t.labels.run t.labels.lastToken t.labels.queue.length
                        (labelsWith .waiting t).length) t))
    ∧ (∀ (k : LabelKey) (s : State),
        ((∀ r ∈ s.labels.records, r.key ≠ k) → postMount k s = s)
          ∧ ∀ r, (s.labels.records.find? fun r => r.key = k) = some r →
              postMount k s = post .mount r.account (some r.stock) s.tally.mountRate s)
    ∧ (∀ (k : LabelKey) (s : State),
        transmit k s
          = { s with labels :=
                { s.labels with
                  head := some k, line := .awaiting, timedOut := false, waitOn := false,
                  tokenLimit := s.stand.settings.tokenLimit,
                  out := (s.labels.records.find? fun r => r.key = k).map labelFrame } })
    ∧ (∀ (r : LabelRecord) (body core : List Byte),
        body = bodyBytes
          [.u 3 r.key.roll, .u 1 r.key.frame, .u 3 r.cat, .text r.caption, .text r.course, .u 2 r.lecturer, .u 2 r.account,
           .u 2 r.date, .u 1 r.stock] → core = BitVec.ofNat 8 body.length :: body →
          labelFrame r = 0x3C#8 :: core ++ [crc8 core])
    ∧ (∀ s : State, fillQueue s = fillBy 32 s
        ∧ (32 ≤ (fillQueue s).labels.queue.length ∨ labelsWith .waiting (fillQueue s) = [])
        ∧ (∀ n, (32 ≤ s.labels.queue.length ∨ labelsWith .waiting s = []) → fillBy n s = s)
        ∧ (s.labels.queue.Pairwise (fun x y => labelBefore s x y = true) →
            (fillQueue s).labels.queue.Pairwise fun x y => labelBefore (fillQueue s) x y = true)
        ∧ ∀ (n : Nat) (k : LabelKey) (ks : List LabelKey), s.labels.queue.length < 32 → labelsWith .waiting s = k :: ks →
            (RollsSound s → ∀ w ∈ ks, labelBefore s k w = true)
              ∧ fillBy (n + 1) s
                  = fillBy n
                      ((setLabelState k .queued s).onLabels fun u => { u with queue := insertBy (labelBefore s) k u.queue }))
    ∧ (∀ (s : State) (st : LabelState),
        labelsWith st s
          = s.registerOrder.flatMap fun x =>
              (x.2.frames.filter fun f => f.label = some st).map fun f => { roll := x.2.id, frame := f.number })
    ∧ (∀ (s : State) (k : LabelKey), (∀ j < 8, ∀ r, s.slotRoll? j = some r → r.id ≠ k.roll) →
        labelStateOf s k = none ∧ ∀ st, setLabelState k st s = s)
    ∧ (∀ (s : State) (j : Nat) (r : Roll) (k : LabelKey) (st : LabelState), s.slotRoll? j = some r → r.id = k.roll →
        (∀ i < j, ∀ q, s.slotRoll? i = some q → q.id ≠ k.roll) →
          labelStateOf s k = (r.frames.find? fun f => f.number = k.frame).bind (fun f => f.label)
            ∧ setLabelState k st s
              = { s with
                  register := s.register.setIfInBounds j
                    (some
                      { r with
                        frames := r.frames.map fun f =>
                          if f.number = k.frame ∧ f.selection = .kept then { f with label := some st } else f }) }
            ∧ ∀ (i : Nat) (q : Roll) (x : LabelKey), s.slotRoll? i = some q → q.id = x.roll →
                (∀ h < i, ∀ p, s.slotRoll? h = some p → p.id ≠ x.roll) →
                (labelBefore s k x = true ↔ r.unloadSeq.getD 0 < q.unloadSeq.getD 0
                  ∨ (r.unloadSeq.getD 0 = q.unloadSeq.getD 0 ∧ k.frame ≤ x.frame)))

/-! ## The slide cycle -/

/-- The start of a slide makes the cycle record, marks the profile entry, stops the idle timer, starts the FEED or has it wait
for the feeder, asks for the SWAP and lights the lamp; a FEED that comes to start with the gate not EMPTY fails at once. The
plan opens the group, in place of a frameless INCOMPLETE group at its first frame; a cycle ends normally when its final ADVANCE
and its RETURN have ended, with SLIDE FINISHED; and the end of a cycle gives the slide its outcome, takes the order's marks, and
stops or idles the stand. That a cycle ready to meter waits while a METER is in flight is the model's reading (assumption log
entry 15); that SLIDE FINISHED says INCOMPLETE where no group was opened is its choice (entry 39). -/
def Obligations.SlideStartPlanAndCycleEnd : Prop :=
  (∀ (o : Order) (b : BackId) (s t : State) (i pos : Nat) (x : Slide), nextSlide o = some i → o.slides[i]? = some x →
    pos < 80 → s.mapAt pos = some x.cat → (∀ p < pos, s.mapAt p ≠ some x.cat) →
    t = { s with
          profiles := s.profiles.mark (s.profiles.lookup x.cat).source,
          feeder := { s.feeder with feedBusy := s.feeder.feedBusy ++ [pos] },
          head := { s.head with idle := none },
          stand :=
            { s.stand with
              cycle := some
                { order := o.number, slide := i, cat := x.cat, attempt := x.attempts + 1, back := b, stock := o.stock, n := o.n,
                  spacing := o.spacing, offset := o.offset, magn := o.magn, account := o.account, cls := o.cls,
                  adjust := x.adjust.getD 0, shift := x.shift, pos := pos, profile := s.profiles.lookup x.cat, plan := none,
                  groupFirst := none, nextStep := 0, phase := .loading, cause := none } } } →
      (∀ u : State,
        (s.feeder.op = none ∧ s.feeder.waiting = [] ∧ s.feeder.gate = .empty
            ∧ u = { t with feeder :=
                      { t.feeder with
                        op := some
                          { job := .feed pos x.cat, homing := decide (s.feeder.pos = none), limit := s.stand.settings.feedLimit,
                            stale := false, ofCycle := true } } }
          ∨ (s.feeder.op ≠ none ∨ s.feeder.waiting ≠ [])
            ∧ u = { t with feeder :=
                      { t.feeder with waiting := s.feeder.waiting ++ [{ job := .feed pos x.cat, ofCycle := true }] } }) →
          (s.film.turret = .stands b →
              startSlide o b s
                = { u with head := { u.head with lamp := if s.head.lamp = .off then .warming else s.head.lamp } })
            ∧ (s.film.turret ≠ .stands b →
              startSlide o b s
                = { askSwap b true u with
                    head := { u.head with lamp := if s.head.lamp = .off then .warming else s.head.lamp } }))
        ∧ (AtWork s → s.feeder.op = none → s.feeder.waiting = [] → s.feeder.gate ≠ .empty →
            startSlide o b s = feederFail false t ∧ (startSlide o b s).stand.cycle = none))
    ∧ (∀ (s : State) (c : Cycle) (ready : Prop), s.stand.cycle = some c →
        (ready ↔ c.phase = .loading ∧ c.cause = none ∧ s.feeder.gate = .holds c.pos c.cat ∧ s.head.lamp = .ready) →
          (¬ready → tryPlan s = s)
            ∧ (∀ d, ready → c.profile.fixed = some d → tryPlan s = takePlan c d false s)
            ∧ (ready → c.profile.fixed = none → s.head.meter = none →
                tryPlan s
                  = { s with
                      stand := { s.stand with cycle := some { c with phase := .metering } },
                      head := { s.head with meter := some { cat := c.cat, stale := false, ofCycle := true } } })
            ∧ (ready → c.profile.fixed = none → s.head.meter.isSome = true → tryPlan s = s))
    ∧ (∀ (s : State) (c : Cycle) (d : Nat) (dense : Bool) (r : Roll) (plan : Plan) (p : PlanStep), s.stand.cycle = some c →
        (s.back c.back).roll = some r → plan = computePlan (s.stock c.stock) c d dense → plan.steps[0]? = some p →
        ∃ t : State, takePlan c d dense s = t
          ∧ t.stand.cycle = some { c with plan := some plan, groupFirst := some r.next, nextStep := 0, phase := .exposing }
          ∧ (t.back c.back).roll = some
              { r with
                groups :=
                  (r.groups.filter fun g =>
                    !(g.first == r.next && decide (g.completeness = .incomplete)
                      && (r.frames.filter fun f => f.group == g.first).isEmpty))
                    ++ [{ order := c.order, slide := c.slide, cat := c.cat, attempt := c.attempt, first := r.next, n := c.n,
                          spacing := c.spacing, s := plan.s, source := c.profile.source, pUsed := c.profile.p, exposed := 0,
                          completeness := .opened, outcome := .unselected }] }
          ∧ (s.head.nd = some p.nd → t.head = s.head)
          ∧ (s.head.nd ≠ some p.nd → s.head.ndOp = none → s.head.ndWaiting = [] →
              t.head = { s.head with nd := none, ndOp := some { target := p.nd, stale := false, ofCycle := true } }))
    ∧ (∀ (s : State) (c : Cycle) (first : Nat) (r : Roll), (s.back c.back).roll = some r →
        (c.groupFirst = some first →
            cycleGroup s c = r.groups.find? (fun g => g.first == first)
              ∧ cycleFrames s c = r.frames.filter fun f => f.group == first)
          ∧ (c.groupFirst = none → cycleGroup s c = none ∧ cycleFrames s c = [])
          ∧ ∀ (complete : Bool) (exposed : Nat),
              (complete = true ↔ ∃ g, cycleGroup s c = some g ∧ g.completeness = .complete) →
              (∀ g, cycleGroup s c = some g → exposed = g.exposed) → (cycleGroup s c = none → exposed = 0) →
                slideFinishedNotice s c
                    = .slideFinished c.order c.slide c.cat c.attempt c.back r.id c.groupFirst c.cause complete exposed
                        ((cycleFrames s c).countP fun f => f.kind = .spoilt) ((cycleFrames s c).countP fun f => f.credited)
                  ∧ (slideFinishedNotice s c).fields
                    = List.flatten
                        [[.u 2 c.order, .u 1 c.slide, .u 3 c.cat, .u 1 c.attempt, .u 1 (backNumber c.back), .u 3 r.id],
                         optU 1 c.groupFirst,
                         match c.cause with | none => [.u 1 0] | some x => [.u 1 1, .u 1 x.number],
                         [.u 1 (if complete then 1 else 2), .u 1 exposed,
                          .u 1 ((cycleFrames s c).countP fun f => f.kind = .spoilt),
                          .u 1 ((cycleFrames s c).countP fun f => f.credited)]])
    ∧ (∀ (s : State) (c : Cycle) (ended : Prop), s.stand.cycle = some c →
        (ended ↔ c.phase = .finishing ∧ c.cause = none ∧ (∀ a ∈ (s.back c.back).advance, a.ofCycle = false)
          ∧ (∀ w ∈ (s.back c.back).waiting, w.ofCycle = false) ∧ (∀ o ∈ s.feeder.op, o.ofCycle = false)
          ∧ ∀ w ∈ s.feeder.waiting, w.ofCycle = false) →
          (ended → tryEndNormal s = endCycle s) ∧ (¬ended → tryEndNormal s = s))
    ∧ (∀ (s t : State) (c : Cycle) (complete : Prop), s.stand.cycle = some c → endCycle s = t →
        (complete ↔ ∃ g, cycleGroup s c = some g ∧ g.completeness = .complete) →
          t.stand.cycle = none
            ∧ (s.stand.mode = .stopping → t.stand.mode = .stopped ∧ t.head.idle = none ∧ t.head.lamp ≠ .warming
                ∧ t.head.lamp ≠ .ready)
            ∧ (s.stand.mode = .running → t.stand.mode = .running
                ∧ t.head.idle = if s.stand.settings.idleMinutes = 0 then none else some s.stand.settings.idleMinutes)
            ∧ (s.stand.mode ≠ .stopping → s.stand.mode ≠ .running → t.stand.mode = s.stand.mode)
            ∧ (s.link.notices.length < 16 →
                (s.link.notices ++ [slideFinishedNotice s c]) <+: t.link.notices)
            ∧ (∀ o, NumbersDistinct s → s.order? c.order = some o →
                (o.cancelPending = true → ∀ p ∈ t.work.orders, p.number ≠ c.order)
                  ∧ (o.cancelPending = false → o.holdPending = true →
                      c.order ∉ t.work.stack
                        ∧ ∃ p, t.order? c.order = some p ∧ p.state = .held .host ∧ p.holdPending = false)
                  ∧ (o.cancelPending = false → o.holdPending = false → ∃ p, t.order? c.order = some p
                      ∧ (complete →
                          p.slides = o.slides.modify c.slide fun x => { x with outcome := .shot, attempts := x.attempts + 1 })
                      ∧ (¬complete → p.slides = o.slides)
                      ∧ (o.state ≠ .filling → p.state = o.state)
                      ∧ (o.state = .filling → o.former = some .preempted → p.state = .preempted)
                      ∧ (o.state = .filling → o.former = some .active → p.state = .active)
                      ∧ (o.state = .filling → o.former = some .pending →
                          p.state = if (nextSlide p).isSome then .pending else .exposed))))

/-! ## What every step keeps -/

/-- Every step keeps the desk link, the settings, the label queue, the date and the tally unit within their ranges. -/
def Obligations.LinkSettingsAndTallyKept : Prop :=
  ∀ s t : State, LinkSound s ∧ SettingsSound s ∧ TallySound s → step s = .next t → LinkSound t ∧ SettingsSound t ∧ TallySound t

/-- Every step keeps the gate record EMPTY just when its sense is off, and a tray map with no number twice and none while the
tray is ABSENT. -/
def Obligations.FeederKept : Prop := ∀ s t : State, FeederSound s → step s = .next t → FeederSound t

/-- Every step keeps the profile table sound: entries in their ranges, no catalogue number in two slots. -/
def Obligations.ProfilesKept : Prop := ∀ s t : State, ProfilesSound s → step s = .next t → ProfilesSound t

/-- Every step keeps the work list sound: at most 24 orders with different numbers, listed by placement sequence, a stack of at
most 4 of them whose classes rise strictly to the top. -/
def Obligations.WorkListKept : Prop := ∀ s t : State, WorkSound s → step s = .next t → WorkSound t

/-- Every step keeps the states of the orders in agreement with the stack: the top ACTIVE, or FILLING to become ACTIVE again;
those below it PREEMPTED, or FILLING to become PREEMPTED again; and no other order ACTIVE or PREEMPTED. -/
def Obligations.ServiceStatesKept : Prop :=
  ∀ s t : State, WorkSound s ∧ ServiceSound s → step s = .next t → ServiceSound t

/-- Every step keeps the roll records sound: rising frame numbers below the next one, no roll id twice, a roll in a back just
when the back is not EMPTY. -/
def Obligations.RollsKept : Prop := ∀ s t : State, RollsSound s → step s = .next t → RollsSound t

/-- Every step keeps the film logs sound: the next frame number at most F + 1, the groups of a roll with strictly rising first
frames, a group without a frame INCOMPLETE or the open one of the cycle in flight, the shutter open only on a READY back with a
frame left. -/
def Obligations.FilmLogsKept : Prop :=
  ∀ s t : State, RollsSound s ∧ FilmLogSound s → step s = .next t → FilmLogSound t

/-- Every step keeps the label unit sound: labels on kept frames of the register alone, the queue exactly the QUEUED ones in
register order, a label WAITING only with the queue full, the head in the queue, the line IDLE only with nothing to send. -/
def Obligations.LabelQueueKept : Prop :=
  ∀ s t : State, RollsSound s ∧ LabelsSound s → step s = .next t → LabelsSound t
end

