-- ==== Sys2Proof/Laws/State.lean ====
section
/-! SUPPORT. The fields of the state after the update of one block: one lemma per field per update, each true by definition. -/

namespace Sys2Proof.Machine

variable (s : State)

/-! ### State.onWork -/

@[simp] theorem onWork_work (f : WorkList → WorkList) : (s.onWork f).work = f s.work := rfl
@[simp] theorem onWork_stocks (f : WorkList → WorkList) : (s.onWork f).stocks = s.stocks := rfl
@[simp] theorem onWork_profiles (f : WorkList → WorkList) : (s.onWork f).profiles = s.profiles := rfl
@[simp] theorem onWork_feeder (f : WorkList → WorkList) : (s.onWork f).feeder = s.feeder := rfl
@[simp] theorem onWork_head (f : WorkList → WorkList) : (s.onWork f).head = s.head := rfl
@[simp] theorem onWork_film (f : WorkList → WorkList) : (s.onWork f).film = s.film := rfl
@[simp] theorem onWork_stand (f : WorkList → WorkList) : (s.onWork f).stand = s.stand := rfl
@[simp] theorem onWork_register (f : WorkList → WorkList) : (s.onWork f).register = s.register := rfl
@[simp] theorem onWork_labels (f : WorkList → WorkList) : (s.onWork f).labels = s.labels := rfl
@[simp] theorem onWork_tally (f : WorkList → WorkList) : (s.onWork f).tally = s.tally := rfl
@[simp] theorem onWork_link (f : WorkList → WorkList) : (s.onWork f).link = s.link := rfl
@[simp] theorem onWork_pending (f : WorkList → WorkList) : (s.onWork f).pending = s.pending := rfl
@[simp] theorem onWork_freeIx (f : WorkList → WorkList) : (s.onWork f).freeIx = s.freeIx := rfl

/-! ### State.onStocks -/

@[simp] theorem onStocks_work (f : Vector StockEntry 4 → Vector StockEntry 4) : (s.onStocks f).work = s.work := rfl
@[simp] theorem onStocks_stocks (f : Vector StockEntry 4 → Vector StockEntry 4) : (s.onStocks f).stocks = f s.stocks := rfl
@[simp] theorem onStocks_profiles (f : Vector StockEntry 4 → Vector StockEntry 4) : (s.onStocks f).profiles = s.profiles := rfl
@[simp] theorem onStocks_feeder (f : Vector StockEntry 4 → Vector StockEntry 4) : (s.onStocks f).feeder = s.feeder := rfl
@[simp] theorem onStocks_head (f : Vector StockEntry 4 → Vector StockEntry 4) : (s.onStocks f).head = s.head := rfl
@[simp] theorem onStocks_film (f : Vector StockEntry 4 → Vector StockEntry 4) : (s.onStocks f).film = s.film := rfl
@[simp] theorem onStocks_stand (f : Vector StockEntry 4 → Vector StockEntry 4) : (s.onStocks f).stand = s.stand := rfl
@[simp] theorem onStocks_register (f : Vector StockEntry 4 → Vector StockEntry 4) : (s.onStocks f).register = s.register := rfl
@[simp] theorem onStocks_labels (f : Vector StockEntry 4 → Vector StockEntry 4) : (s.onStocks f).labels = s.labels := rfl
@[simp] theorem onStocks_tally (f : Vector StockEntry 4 → Vector StockEntry 4) : (s.onStocks f).tally = s.tally := rfl
@[simp] theorem onStocks_link (f : Vector StockEntry 4 → Vector StockEntry 4) : (s.onStocks f).link = s.link := rfl
@[simp] theorem onStocks_pending (f : Vector StockEntry 4 → Vector StockEntry 4) : (s.onStocks f).pending = s.pending := rfl
@[simp] theorem onStocks_freeIx (f : Vector StockEntry 4 → Vector StockEntry 4) : (s.onStocks f).freeIx = s.freeIx := rfl

/-! ### State.onProfiles -/

@[simp] theorem onProfiles_work (f : ProfileTable → ProfileTable) : (s.onProfiles f).work = s.work := rfl
@[simp] theorem onProfiles_stocks (f : ProfileTable → ProfileTable) : (s.onProfiles f).stocks = s.stocks := rfl
@[simp] theorem onProfiles_profiles (f : ProfileTable → ProfileTable) : (s.onProfiles f).profiles = f s.profiles := rfl
@[simp] theorem onProfiles_feeder (f : ProfileTable → ProfileTable) : (s.onProfiles f).feeder = s.feeder := rfl
@[simp] theorem onProfiles_head (f : ProfileTable → ProfileTable) : (s.onProfiles f).head = s.head := rfl
@[simp] theorem onProfiles_film (f : ProfileTable → ProfileTable) : (s.onProfiles f).film = s.film := rfl
@[simp] theorem onProfiles_stand (f : ProfileTable → ProfileTable) : (s.onProfiles f).stand = s.stand := rfl
@[simp] theorem onProfiles_register (f : ProfileTable → ProfileTable) : (s.onProfiles f).register = s.register := rfl
@[simp] theorem onProfiles_labels (f : ProfileTable → ProfileTable) : (s.onProfiles f).labels = s.labels := rfl
@[simp] theorem onProfiles_tally (f : ProfileTable → ProfileTable) : (s.onProfiles f).tally = s.tally := rfl
@[simp] theorem onProfiles_link (f : ProfileTable → ProfileTable) : (s.onProfiles f).link = s.link := rfl
@[simp] theorem onProfiles_pending (f : ProfileTable → ProfileTable) : (s.onProfiles f).pending = s.pending := rfl
@[simp] theorem onProfiles_freeIx (f : ProfileTable → ProfileTable) : (s.onProfiles f).freeIx = s.freeIx := rfl

/-! ### State.onFeeder -/

@[simp] theorem onFeeder_work (f : Feeder → Feeder) : (s.onFeeder f).work = s.work := rfl
@[simp] theorem onFeeder_stocks (f : Feeder → Feeder) : (s.onFeeder f).stocks = s.stocks := rfl
@[simp] theorem onFeeder_profiles (f : Feeder → Feeder) : (s.onFeeder f).profiles = s.profiles := rfl
@[simp] theorem onFeeder_feeder (f : Feeder → Feeder) : (s.onFeeder f).feeder = f s.feeder := rfl
@[simp] theorem onFeeder_head (f : Feeder → Feeder) : (s.onFeeder f).head = s.head := rfl
@[simp] theorem onFeeder_film (f : Feeder → Feeder) : (s.onFeeder f).film = s.film := rfl
@[simp] theorem onFeeder_stand (f : Feeder → Feeder) : (s.onFeeder f).stand = s.stand := rfl
@[simp] theorem onFeeder_register (f : Feeder → Feeder) : (s.onFeeder f).register = s.register := rfl
@[simp] theorem onFeeder_labels (f : Feeder → Feeder) : (s.onFeeder f).labels = s.labels := rfl
@[simp] theorem onFeeder_tally (f : Feeder → Feeder) : (s.onFeeder f).tally = s.tally := rfl
@[simp] theorem onFeeder_link (f : Feeder → Feeder) : (s.onFeeder f).link = s.link := rfl
@[simp] theorem onFeeder_pending (f : Feeder → Feeder) : (s.onFeeder f).pending = s.pending := rfl
@[simp] theorem onFeeder_freeIx (f : Feeder → Feeder) : (s.onFeeder f).freeIx = s.freeIx := rfl

/-! ### State.onHead -/

@[simp] theorem onHead_work (f : Head → Head) : (s.onHead f).work = s.work := rfl
@[simp] theorem onHead_stocks (f : Head → Head) : (s.onHead f).stocks = s.stocks := rfl
@[simp] theorem onHead_profiles (f : Head → Head) : (s.onHead f).profiles = s.profiles := rfl
@[simp] theorem onHead_feeder (f : Head → Head) : (s.onHead f).feeder = s.feeder := rfl
@[simp] theorem onHead_head (f : Head → Head) : (s.onHead f).head = f s.head := rfl
@[simp] theorem onHead_film (f : Head → Head) : (s.onHead f).film = s.film := rfl
@[simp] theorem onHead_stand (f : Head → Head) : (s.onHead f).stand = s.stand := rfl
@[simp] theorem onHead_register (f : Head → Head) : (s.onHead f).register = s.register := rfl
@[simp] theorem onHead_labels (f : Head → Head) : (s.onHead f).labels = s.labels := rfl
@[simp] theorem onHead_tally (f : Head → Head) : (s.onHead f).tally = s.tally := rfl
@[simp] theorem onHead_link (f : Head → Head) : (s.onHead f).link = s.link := rfl
@[simp] theorem onHead_pending (f : Head → Head) : (s.onHead f).pending = s.pending := rfl
@[simp] theorem onHead_freeIx (f : Head → Head) : (s.onHead f).freeIx = s.freeIx := rfl

/-! ### State.onFilm -/

@[simp] theorem onFilm_work (f : Film → Film) : (s.onFilm f).work = s.work := rfl
@[simp] theorem onFilm_stocks (f : Film → Film) : (s.onFilm f).stocks = s.stocks := rfl
@[simp] theorem onFilm_profiles (f : Film → Film) : (s.onFilm f).profiles = s.profiles := rfl
@[simp] theorem onFilm_feeder (f : Film → Film) : (s.onFilm f).feeder = s.feeder := rfl
@[simp] theorem onFilm_head (f : Film → Film) : (s.onFilm f).head = s.head := rfl
@[simp] theorem onFilm_film (f : Film → Film) : (s.onFilm f).film = f s.film := rfl
@[simp] theorem onFilm_stand (f : Film → Film) : (s.onFilm f).stand = s.stand := rfl
@[simp] theorem onFilm_register (f : Film → Film) : (s.onFilm f).register = s.register := rfl
@[simp] theorem onFilm_labels (f : Film → Film) : (s.onFilm f).labels = s.labels := rfl
@[simp] theorem onFilm_tally (f : Film → Film) : (s.onFilm f).tally = s.tally := rfl
@[simp] theorem onFilm_link (f : Film → Film) : (s.onFilm f).link = s.link := rfl
@[simp] theorem onFilm_pending (f : Film → Film) : (s.onFilm f).pending = s.pending := rfl
@[simp] theorem onFilm_freeIx (f : Film → Film) : (s.onFilm f).freeIx = s.freeIx := rfl

/-! ### State.onStand -/

@[simp] theorem onStand_work (f : Stand → Stand) : (s.onStand f).work = s.work := rfl
@[simp] theorem onStand_stocks (f : Stand → Stand) : (s.onStand f).stocks = s.stocks := rfl
@[simp] theorem onStand_profiles (f : Stand → Stand) : (s.onStand f).profiles = s.profiles := rfl
@[simp] theorem onStand_feeder (f : Stand → Stand) : (s.onStand f).feeder = s.feeder := rfl
@[simp] theorem onStand_head (f : Stand → Stand) : (s.onStand f).head = s.head := rfl
@[simp] theorem onStand_film (f : Stand → Stand) : (s.onStand f).film = s.film := rfl
@[simp] theorem onStand_stand (f : Stand → Stand) : (s.onStand f).stand = f s.stand := rfl
@[simp] theorem onStand_register (f : Stand → Stand) : (s.onStand f).register = s.register := rfl
@[simp] theorem onStand_labels (f : Stand → Stand) : (s.onStand f).labels = s.labels := rfl
@[simp] theorem onStand_tally (f : Stand → Stand) : (s.onStand f).tally = s.tally := rfl
@[simp] theorem onStand_link (f : Stand → Stand) : (s.onStand f).link = s.link := rfl
@[simp] theorem onStand_pending (f : Stand → Stand) : (s.onStand f).pending = s.pending := rfl
@[simp] theorem onStand_freeIx (f : Stand → Stand) : (s.onStand f).freeIx = s.freeIx := rfl

/-! ### State.onRegister -/

@[simp] theorem onRegister_work (f : Vector (Option Roll) 8 → Vector (Option Roll) 8) : (s.onRegister f).work = s.work := rfl
@[simp] theorem onRegister_stocks (f : Vector (Option Roll) 8 → Vector (Option Roll) 8) : (s.onRegister f).stocks = s.stocks := rfl
@[simp] theorem onRegister_profiles (f : Vector (Option Roll) 8 → Vector (Option Roll) 8) : (s.onRegister f).profiles = s.profiles := rfl
@[simp] theorem onRegister_feeder (f : Vector (Option Roll) 8 → Vector (Option Roll) 8) : (s.onRegister f).feeder = s.feeder := rfl
@[simp] theorem onRegister_head (f : Vector (Option Roll) 8 → Vector (Option Roll) 8) : (s.onRegister f).head = s.head := rfl
@[simp] theorem onRegister_film (f : Vector (Option Roll) 8 → Vector (Option Roll) 8) : (s.onRegister f).film = s.film := rfl
@[simp] theorem onRegister_stand (f : Vector (Option Roll) 8 → Vector (Option Roll) 8) : (s.onRegister f).stand = s.stand := rfl
@[simp] theorem onRegister_register (f : Vector (Option Roll) 8 → Vector (Option Roll) 8) : (s.onRegister f).register = f s.register := rfl
@[simp] theorem onRegister_labels (f : Vector (Option Roll) 8 → Vector (Option Roll) 8) : (s.onRegister f).labels = s.labels := rfl
@[simp] theorem onRegister_tally (f : Vector (Option Roll) 8 → Vector (Option Roll) 8) : (s.onRegister f).tally = s.tally := rfl
@[simp] theorem onRegister_link (f : Vector (Option Roll) 8 → Vector (Option Roll) 8) : (s.onRegister f).link = s.link := rfl
@[simp] theorem onRegister_pending (f : Vector (Option Roll) 8 → Vector (Option Roll) 8) : (s.onRegister f).pending = s.pending := rfl
@[simp] theorem onRegister_freeIx (f : Vector (Option Roll) 8 → Vector (Option Roll) 8) : (s.onRegister f).freeIx = s.freeIx := rfl

/-! ### State.onLabels -/

@[simp] theorem onLabels_work (f : LabelUnit → LabelUnit) : (s.onLabels f).work = s.work := rfl
@[simp] theorem onLabels_stocks (f : LabelUnit → LabelUnit) : (s.onLabels f).stocks = s.stocks := rfl
@[simp] theorem onLabels_profiles (f : LabelUnit → LabelUnit) : (s.onLabels f).profiles = s.profiles := rfl
@[simp] theorem onLabels_feeder (f : LabelUnit → LabelUnit) : (s.onLabels f).feeder = s.feeder := rfl
@[simp] theorem onLabels_head (f : LabelUnit → LabelUnit) : (s.onLabels f).head = s.head := rfl
@[simp] theorem onLabels_film (f : LabelUnit → LabelUnit) : (s.onLabels f).film = s.film := rfl
@[simp] theorem onLabels_stand (f : LabelUnit → LabelUnit) : (s.onLabels f).stand = s.stand := rfl
@[simp] theorem onLabels_register (f : LabelUnit → LabelUnit) : (s.onLabels f).register = s.register := rfl
@[simp] theorem onLabels_labels (f : LabelUnit → LabelUnit) : (s.onLabels f).labels = f s.labels := rfl
@[simp] theorem onLabels_tally (f : LabelUnit → LabelUnit) : (s.onLabels f).tally = s.tally := rfl
@[simp] theorem onLabels_link (f : LabelUnit → LabelUnit) : (s.onLabels f).link = s.link := rfl
@[simp] theorem onLabels_pending (f : LabelUnit → LabelUnit) : (s.onLabels f).pending = s.pending := rfl
@[simp] theorem onLabels_freeIx (f : LabelUnit → LabelUnit) : (s.onLabels f).freeIx = s.freeIx := rfl

/-! ### State.onTally -/

@[simp] theorem onTally_work (f : Tally → Tally) : (s.onTally f).work = s.work := rfl
@[simp] theorem onTally_stocks (f : Tally → Tally) : (s.onTally f).stocks = s.stocks := rfl
@[simp] theorem onTally_profiles (f : Tally → Tally) : (s.onTally f).profiles = s.profiles := rfl
@[simp] theorem onTally_feeder (f : Tally → Tally) : (s.onTally f).feeder = s.feeder := rfl
@[simp] theorem onTally_head (f : Tally → Tally) : (s.onTally f).head = s.head := rfl
@[simp] theorem onTally_film (f : Tally → Tally) : (s.onTally f).film = s.film := rfl
@[simp] theorem onTally_stand (f : Tally → Tally) : (s.onTally f).stand = s.stand := rfl
@[simp] theorem onTally_register (f : Tally → Tally) : (s.onTally f).register = s.register := rfl
@[simp] theorem onTally_labels (f : Tally → Tally) : (s.onTally f).labels = s.labels := rfl
@[simp] theorem onTally_tally (f : Tally → Tally) : (s.onTally f).tally = f s.tally := rfl
@[simp] theorem onTally_link (f : Tally → Tally) : (s.onTally f).link = s.link := rfl
@[simp] theorem onTally_pending (f : Tally → Tally) : (s.onTally f).pending = s.pending := rfl
@[simp] theorem onTally_freeIx (f : Tally → Tally) : (s.onTally f).freeIx = s.freeIx := rfl

/-! ### State.onLink -/

@[simp] theorem onLink_work (f : Link → Link) : (s.onLink f).work = s.work := rfl
@[simp] theorem onLink_stocks (f : Link → Link) : (s.onLink f).stocks = s.stocks := rfl
@[simp] theorem onLink_profiles (f : Link → Link) : (s.onLink f).profiles = s.profiles := rfl
@[simp] theorem onLink_feeder (f : Link → Link) : (s.onLink f).feeder = s.feeder := rfl
@[simp] theorem onLink_head (f : Link → Link) : (s.onLink f).head = s.head := rfl
@[simp] theorem onLink_film (f : Link → Link) : (s.onLink f).film = s.film := rfl
@[simp] theorem onLink_stand (f : Link → Link) : (s.onLink f).stand = s.stand := rfl
@[simp] theorem onLink_register (f : Link → Link) : (s.onLink f).register = s.register := rfl
@[simp] theorem onLink_labels (f : Link → Link) : (s.onLink f).labels = s.labels := rfl
@[simp] theorem onLink_tally (f : Link → Link) : (s.onLink f).tally = s.tally := rfl
@[simp] theorem onLink_link (f : Link → Link) : (s.onLink f).link = f s.link := rfl
@[simp] theorem onLink_pending (f : Link → Link) : (s.onLink f).pending = s.pending := rfl
@[simp] theorem onLink_freeIx (f : Link → Link) : (s.onLink f).freeIx = s.freeIx := rfl

/-! ### State.useFree -/

@[simp] theorem useFree_work : s.useFree.work = s.work := rfl
@[simp] theorem useFree_stocks : s.useFree.stocks = s.stocks := rfl
@[simp] theorem useFree_profiles : s.useFree.profiles = s.profiles := rfl
@[simp] theorem useFree_feeder : s.useFree.feeder = s.feeder := rfl
@[simp] theorem useFree_head : s.useFree.head = s.head := rfl
@[simp] theorem useFree_film : s.useFree.film = s.film := rfl
@[simp] theorem useFree_stand : s.useFree.stand = s.stand := rfl
@[simp] theorem useFree_register : s.useFree.register = s.register := rfl
@[simp] theorem useFree_labels : s.useFree.labels = s.labels := rfl
@[simp] theorem useFree_tally : s.useFree.tally = s.tally := rfl
@[simp] theorem useFree_link : s.useFree.link = s.link := rfl
@[simp] theorem useFree_pending : s.useFree.pending = s.pending := rfl
@[simp] theorem useFree_freeIx : s.useFree.freeIx = s.freeIx + 1 := rfl

/-! ### State.withPending -/

@[simp] theorem withPending_work (q : List Instr) : (s.withPending q).work = s.work := rfl
@[simp] theorem withPending_stocks (q : List Instr) : (s.withPending q).stocks = s.stocks := rfl
@[simp] theorem withPending_profiles (q : List Instr) : (s.withPending q).profiles = s.profiles := rfl
@[simp] theorem withPending_feeder (q : List Instr) : (s.withPending q).feeder = s.feeder := rfl
@[simp] theorem withPending_head (q : List Instr) : (s.withPending q).head = s.head := rfl
@[simp] theorem withPending_film (q : List Instr) : (s.withPending q).film = s.film := rfl
@[simp] theorem withPending_stand (q : List Instr) : (s.withPending q).stand = s.stand := rfl
@[simp] theorem withPending_register (q : List Instr) : (s.withPending q).register = s.register := rfl
@[simp] theorem withPending_labels (q : List Instr) : (s.withPending q).labels = s.labels := rfl
@[simp] theorem withPending_tally (q : List Instr) : (s.withPending q).tally = s.tally := rfl
@[simp] theorem withPending_link (q : List Instr) : (s.withPending q).link = s.link := rfl
@[simp] theorem withPending_pending (q : List Instr) : (s.withPending q).pending = q := rfl
@[simp] theorem withPending_freeIx (q : List Instr) : (s.withPending q).freeIx = s.freeIx := rfl

/-! ### hunting and placeReply -/

@[simp] theorem hunting_work : (hunting s).work = s.work := rfl
@[simp] theorem hunting_stocks : (hunting s).stocks = s.stocks := rfl
@[simp] theorem hunting_profiles : (hunting s).profiles = s.profiles := rfl
@[simp] theorem hunting_feeder : (hunting s).feeder = s.feeder := rfl
@[simp] theorem hunting_head : (hunting s).head = s.head := rfl
@[simp] theorem hunting_film : (hunting s).film = s.film := rfl
@[simp] theorem hunting_stand : (hunting s).stand = s.stand := rfl
@[simp] theorem hunting_register : (hunting s).register = s.register := rfl
@[simp] theorem hunting_labels : (hunting s).labels = s.labels := rfl
@[simp] theorem hunting_tally : (hunting s).tally = s.tally := rfl
@[simp] theorem hunting_pending : (hunting s).pending = s.pending := rfl
@[simp] theorem hunting_freeIx : (hunting s).freeIx = s.freeIx := rfl
@[simp] theorem hunting_link : (hunting s).link = { s.link with rx := .hunting } := rfl
@[simp] theorem placeReply_work (m : Msg) : (placeReply m s).work = s.work := rfl
@[simp] theorem placeReply_stocks (m : Msg) : (placeReply m s).stocks = s.stocks := rfl
@[simp] theorem placeReply_profiles (m : Msg) : (placeReply m s).profiles = s.profiles := rfl
@[simp] theorem placeReply_feeder (m : Msg) : (placeReply m s).feeder = s.feeder := rfl
@[simp] theorem placeReply_head (m : Msg) : (placeReply m s).head = s.head := rfl
@[simp] theorem placeReply_film (m : Msg) : (placeReply m s).film = s.film := rfl
@[simp] theorem placeReply_stand (m : Msg) : (placeReply m s).stand = s.stand := rfl
@[simp] theorem placeReply_register (m : Msg) : (placeReply m s).register = s.register := rfl
@[simp] theorem placeReply_labels (m : Msg) : (placeReply m s).labels = s.labels := rfl
@[simp] theorem placeReply_tally (m : Msg) : (placeReply m s).tally = s.tally := rfl
@[simp] theorem placeReply_pending (m : Msg) : (placeReply m s).pending = s.pending := rfl
@[simp] theorem placeReply_freeIx (m : Msg) : (placeReply m s).freeIx = s.freeIx := rfl
@[simp] theorem placeReply_link (m : Msg) : (placeReply m s).link = { s.link with reply := some m } := rfl

end Sys2Proof.Machine
end

