-- ==== Sys2Proof/Laws/Moves.lean ====
section
/-! SUPPORT. What the shared operations can do, said once. `Move` is one elementary change of a block that the part makes by
itself, with the guard it is made under; every shared operation (the choice, the abort, the ends of a cycle, postings, the
label queue, selections, the close of a roll) is a chain of such moves. A property of the state that each move keeps is kept by
all of them: `Moves.keeps`. -/

namespace Sys2Proof.Machine

/-- What the part changes of the feeder by itself: never the map, the tray-present state or a sense; the gate record only as a
timeout or a reset leaves it. -/
def FeederKept (x y : Feeder) : Prop :=
  y.map = x.map ∧ y.present = x.present ∧ y.gateSense = x.gateSense
    ∧ ((y.gate = .empty ↔ x.gate = .empty) ∨ y.gate = gateAfterTimeout x.gateSense)

/-- What the part changes of a roll record without exposing a frame: never its identity, its next frame number or the numbers
of its frames. -/
def RollKept (r r' : Roll) : Prop :=
  r'.id = r.id ∧ r'.stock = r.stock ∧ r'.declared = r.declared ∧ r'.next = r.next ∧ r'.loadSeq = r.loadSeq
    ∧ (r'.frames.map fun f => f.number) = r.frames.map fun f => f.number

/-- What the part changes of a back that keeps its roll. -/
def BackKept (k k' : Back) : Prop := k'.roll = k.roll ∧ (k'.state = .empty ↔ k.state = .empty)

/-- What the part changes of the label unit by itself: never the date; the queue grows by one label at a time, and only with
room. -/
def LabelsKept (u u' : LabelUnit) : Prop :=
  u'.date = u.date
    ∧ (u'.queue.length ≤ u.queue.length ∨ (u.queue.length < Config.maxLabels ∧ u'.queue.length = u.queue.length + 1))

/-- An elementary change of one block. -/
inductive Move : State → State → Prop where
  | notice (n : Notice) (s : State) : Move s (queueNotice n s)
  | order (number : Nat) (f : Order → Order) (s : State)
      (h : ∀ o, (f o).number = o.number ∧ (f o).cls = o.cls ∧ (f o).seq = o.seq) : Move s (s.onOrder number f)
  | unstack (test : Nat → Bool) (s : State) : Move s (s.onWork fun w => { w with stack := w.stack.filter test })
  | free (number : Nat) (s : State) (h : number ∉ s.work.stack) : Move s (freeOrder number s)
  | push (o : Order) (s : State) (h : o ∈ s.work.orders) (hc : currentPriority s < o.cls)
      (hl : s.work.stack.length < Config.maxStack) :
      Move s (s.onWork fun w => { w with stack := o.number :: w.stack })
  | mark (source : ProfileSource) (s : State) : Move s (s.onProfiles fun t => t.mark source)
  | learn (x n spacing : Nat) (p : Int) (step : LastStep) (s : State) :
      Move s (s.onProfiles fun _ => (s.profiles.learn x n spacing p step).1)
  | feeder (f : Feeder → Feeder) (s : State) (h : FeederKept s.feeder (f s.feeder)) : Move s (s.onFeeder f)
  | head (f : Head → Head) (s : State) : Move s (s.onHead f)
  | turret (f : Film → Film) (s : State)
      (h : (f s.film).backA = s.film.backA ∧ (f s.film).backB = s.film.backB ∧ (f s.film).loadSeq = s.film.loadSeq
        ∧ (f s.film).unloadSeq = s.film.unloadSeq) : Move s (s.onFilm f)
  | back (b : BackId) (f : Back → Back) (s : State) (h : BackKept (s.back b) (f (s.back b))) : Move s (s.onBack b f)
  | backRoll (b : BackId) (g : Roll → Roll) (s : State) (h : ∀ r, RollKept r (g r)) : Move s (s.onBackRoll b g)
  | frame (b : BackId) (f : Roll → Frame) (s : State) (h : ∀ r, (f r).number = r.next) : Move s (writeFrame b f s)
  | stand (f : Stand → Stand) (s : State) (h : (f s.stand).settings = s.stand.settings) : Move s (s.onStand f)
  | slot (k : Nat) (g : Roll → Roll) (s : State) (h : ∀ r, RollKept r (g r)) : Move s (s.onSlot k g)
  | slots (g : Roll → Roll) (s : State) (h : ∀ r, RollKept r (g r)) :
      Move s (s.onRegister fun v => mapVec (fun x => x.map g) v)
  | slotFree (k : Nat) (s : State) : Move s (s.onRegister fun v => v.setIfInBounds k none)
  | labels (f : LabelUnit → LabelUnit) (s : State) (h : LabelsKept s.labels (f s.labels)) : Move s (s.onLabels f)
  | post (kind : PostKind) (account : Nat) (stock : Option Nat) (amount : Int) (s : State) :
      Move s (s.onTally fun t => { t with counters := mapVec (postCounter kind account stock amount) t.counters })

/-- A chain of moves. -/
def Moves : State → State → Prop := Relation.ReflTransGen Move

/-- A property each move keeps is kept by a chain of them. -/
theorem Moves.keeps {P : State → Prop} (hP : ∀ a b, Move a b → P a → P b) {s t : State} (h : Moves s t) (hs : P s) : P t := by
  induction h with
  | refl => exact hs
  | tail _ hm ih => exact hP _ _ hm ih

theorem Moves.refl (s : State) : Moves s s := Relation.ReflTransGen.refl

theorem Moves.trans {a b c : State} (h : Moves a b) (k : Moves b c) : Moves a c := Relation.ReflTransGen.trans h k

theorem Move.one {a b : State} (h : Move a b) : Moves a b := Relation.ReflTransGen.single h

theorem Moves.foldl {α : Type} (f : State → α → State) (h : ∀ s x, Moves s (f s x)) (l : List α) (s : State) :
    Moves s (l.foldl f s) := by
  induction l generalizing s with
  | nil => exact .refl s
  | cons x xs ih => exact (h s x).trans (ih _)

/-! ## Rolls -/

theorem RollKept.refl (r : Roll) : RollKept r r := ⟨rfl, rfl, rfl, rfl, rfl, rfl⟩

theorem RollKept.trans {a b c : Roll} (h : RollKept a b) (k : RollKept b c) : RollKept a c :=
  ⟨k.1.trans h.1, k.2.1.trans h.2.1, k.2.2.1.trans h.2.2.1, k.2.2.2.1.trans h.2.2.2.1, k.2.2.2.2.1.trans h.2.2.2.2.1,
    k.2.2.2.2.2.trans h.2.2.2.2.2⟩

theorem onGroup_kept (r : Roll) (first : Nat) (f : Group → Group) : RollKept r (r.onGroup first f) := .refl r

theorem onFramesOf_kept (r : Roll) (first : Nat) (f : Frame → Frame) (h : ∀ x, (f x).number = x.number) :
    RollKept r (r.onFramesOf first f) := by
  refine ⟨rfl, rfl, rfl, rfl, rfl, ?_⟩
  simp only [Roll.onFramesOf, List.map_map]
  refine List.map_congr_left fun x _ => ?_
  simp only [Function.comp_apply]
  split <;> simp [h]

theorem discardGroup_kept (r : Roll) (first : Nat) (outcome : GroupOutcome) : RollKept r (r.discardGroup first outcome) :=
  (onGroup_kept r first _).trans (onFramesOf_kept _ first _ fun _ => rfl)

theorem markCredited_number (f : Frame) : f.markCredited.number = f.number := by unfold Frame.markCredited; split <;> rfl

theorem keepStep_kept (r : Roll) (first : Nat) (j : Int) : RollKept r (r.keepStep first j) :=
  (onGroup_kept r first _).trans (onFramesOf_kept _ first _ fun _ => rfl)

theorem cancelOrder_kept (r : Roll) (number : Nat) : RollKept r (r.cancelOrder number) := by
  unfold Roll.cancelOrder
  generalize List.filter _ _ = l
  induction l generalizing r with
  | nil => exact .refl r
  | cons g gs ih => exact (discardGroup_kept r g.first .discarded).trans (ih _)

/-! ## Backs -/

@[simp] theorem onBack_same (b : BackId) (f : Back → Back) (s : State) : (s.onBack b f).back b = f (s.back b) := by
  cases b <;> rfl

theorem onBack_other (b c : BackId) (f : Back → Back) (s : State) (h : c ≠ b) : (s.onBack b f).back c = s.back c := by
  cases b <;> cases c <;> first | rfl | exact absurd rfl h

@[simp] theorem queueNotice_back (n : Notice) (s : State) (b : BackId) : (queueNotice n s).back b = s.back b := by cases b <;> rfl

/-- A back takes a state: EMPTY stays EMPTY, and no other state becomes EMPTY, is all the guard there is. -/
theorem setBackState_moves (b : BackId) (st : BackState) (s : State) (h : st = .empty ↔ (s.back b).state = .empty) :
    Moves s (setBackState b st s) := by
  have h1 : Move s (s.onBack b fun k => { k with state := st }) := .back b _ s ⟨rfl, h⟩
  unfold setBackState
  simp only
  split
  · exact h1.one
  · exact h1.one.trans (Move.notice _ _).one

theorem makeFull_moves (b : BackId) (s : State) : Moves s (makeFull b s) := by
  unfold makeFull
  split
  · rename_i h; exact setBackState_moves b _ s (by simp [h])
  · exact .refl s

theorem startAdvance_moves (b : BackId) (cause : AdvanceCause) (c : Bool) (s : State) : Moves s (startAdvance b cause c s) :=
  (Move.back b _ s ⟨rfl, Iff.rfl⟩).one

theorem askAdvance_moves (b : BackId) (cause : AdvanceCause) (c : Bool) (s : State) : Moves s (askAdvance b cause c s) := by
  unfold askAdvance
  split
  · exact startAdvance_moves b cause c s
  · exact (Move.back b _ s ⟨rfl, Iff.rfl⟩).one

theorem spentAdvance_moves (b : BackId) (s : State) : Moves s (spentAdvance b s) := by
  unfold spentAdvance
  split
  · exact startAdvance_moves b _ _ s
  · exact (Move.back b _ s ⟨rfl, Iff.rfl⟩).one

theorem startOwed_moves (b : BackId) (s : State) : Moves s (startOwed b s) := by
  unfold startOwed
  split
  · exact (startAdvance_moves b _ _ s).trans (Move.back b _ _ ⟨rfl, Iff.rfl⟩).one
  · exact .refl s

theorem beginSwap_moves (b : BackId) (c : Bool) (s : State) : Moves s (beginSwap b c s) := by
  unfold beginSwap
  split
  · exact .refl s
  · exact (Move.turret _ s ⟨rfl, rfl, rfl, rfl⟩).one

theorem askSwap_moves (b : BackId) (c : Bool) (s : State) : Moves s (askSwap b c s) := by
  unfold askSwap
  split
  · exact beginSwap_moves b c s
  · exact (Move.turret _ s ⟨rfl, rfl, rfl, rfl⟩).one

/-! ## Orders and the stack -/

theorem queueNotices_moves (ns : List Notice) (s : State) : Moves s (queueNotices ns s) :=
  Moves.foldl _ (fun s n => (Move.notice n s).one) ns s

theorem setOrderState_moves (number : Nat) (st : OrderState) (former : Option FormerState) (s : State) :
    Moves s (setOrderState number st former s) := by
  unfold setOrderState
  split
  · exact .refl s
  · have h1 : Move s (s.onOrder number fun o => { o with state := st, former := former }) := .order number _ s fun _ => ⟨rfl, rfl, rfl⟩
    simp only
    split
    · exact h1.one
    · exact h1.one.trans (Move.notice _ _).one

theorem promoteTop_moves (s : State) : Moves s (promoteTop s) := by
  unfold promoteTop
  split
  · exact .refl s
  · split
    · exact .refl s
    · split
      · exact (Move.order _ _ _ (by exact fun _ => ⟨rfl, rfl, rfl⟩)).one
      · exact setOrderState_moves _ _ _ s

theorem removeFromStack_moves (number : Nat) (s : State) : Moves s (removeFromStack number s) := by
  unfold removeFromStack
  split
  · exact (Move.unstack _ s).one.trans (promoteTop_moves _)
  · exact .refl s

@[simp] theorem queueNotice_work (n : Notice) (s : State) : (queueNotice n s).work = s.work := rfl

@[simp] theorem onOrder_stack (number : Nat) (f : Order → Order) (s : State) : (s.onOrder number f).work.stack = s.work.stack := rfl

@[simp] theorem setOrderState_stack (number : Nat) (st : OrderState) (former : Option FormerState) (s : State) :
    (setOrderState number st former s).work.stack = s.work.stack := by
  unfold setOrderState
  split
  · rfl
  · simp only; split <;> simp

@[simp] theorem promoteTop_stack (s : State) : (promoteTop s).work.stack = s.work.stack := by
  unfold promoteTop
  split
  · rfl
  · split
    · rfl
    · split <;> simp

theorem removeFromStack_stack (number : Nat) (s : State) :
    (removeFromStack number s).work.stack = s.work.stack.filter fun k => k != number := by
  unfold removeFromStack
  split
  · simp
  · rename_i h
    refine (List.filter_eq_self.2 fun k hk => ?_).symm
    by_contra hc
    simp only [bne_iff_ne, ne_eq, Decidable.not_not] at hc
    exact h (by simpa [hc] using hk)

theorem removeFromStack_out (number : Nat) (s : State) : number ∉ (removeFromStack number s).work.stack := by
  simp [removeFromStack_stack]

theorem holdWith_moves (number : Nat) (r : HoldReason) (s : State) : Moves s (holdWith number r s) :=
  (setOrderState_moves _ _ _ s).trans (removeFromStack_moves _ _)

theorem releaseOne_moves (number : Nat) (s : State) : Moves s (releaseOne number s) := by
  unfold releaseOne
  split
  · exact .refl s
  · exact setOrderState_moves _ _ _ s

theorem releaseWhere_moves (test : Order → Bool) (s : State) : Moves s (releaseWhere test s) :=
  Moves.foldl _ (fun s k => releaseOne_moves k s) _ s

theorem releaseCeiling_moves (s : State) : Moves s (releaseCeiling s) := releaseWhere_moves _ s
theorem releaseFilm_moves (k : Nat) (s : State) : Moves s (releaseFilm k s) := releaseWhere_moves _ s
theorem releaseOriginal_moves (s : State) : Moves s (releaseOriginal s) := releaseWhere_moves _ s

theorem onSlide_moves (number index : Nat) (f : Slide → Slide) (s : State) : Moves s (onSlide number index f s) :=
  (Move.order number _ s (by exact fun _ => ⟨rfl, rfl, rfl⟩)).one

theorem finish_moves (number : Nat) (n : Notice) (s : State) :
    Moves s (queueNotice n (freeOrder number (removeFromStack number s))) :=
  ((removeFromStack_moves number s).trans (Move.free number _ (removeFromStack_out number s)).one).trans (Move.notice n _).one

theorem takeOutcomeChange_moves (number : Nat) (s : State) : Moves s (takeOutcomeChange number s) := by
  unfold takeOutcomeChange
  split
  · exact .refl s
  · split
    · exact finish_moves number _ s
    · split
      · exact setOrderState_moves _ _ _ s
      · exact .refl s

/-! ## The stand and the light head -/

theorem onCycle_moves (f : Cycle → Cycle) (s : State) : Moves s (onCycle f s) := (Move.stand _ s rfl).one
theorem stopIdle_moves (s : State) : Moves s (stopIdle s) := (Move.head _ s).one
theorem lampOff_moves (s : State) : Moves s (lampOff s) := (Move.head _ s).one
theorem lampLight_moves (s : State) : Moves s (lampLight s) := (Move.head _ s).one
theorem startIdle_moves (s : State) : Moves s (startIdle s) := (Move.head _ s).one

theorem setStandMode_moves (m : StandMode) (s : State) : Moves s (setStandMode m s) := by
  have h1 : Move s (s.onStand fun t => { t with mode := m }) := .stand _ s rfl
  unfold setStandMode
  simp only
  split
  · exact h1.one
  · exact h1.one.trans (Move.head _ _).one

theorem setModeIf_moves (m : Option StandMode) (s : State) : Moves s (setModeIf m s) := by
  unfold setModeIf
  split
  · exact setStandMode_moves _ s
  · exact .refl s

theorem beginNd_moves (target : Nat) (c : Bool) (s : State) : Moves s (beginNd target c s) := (Move.head _ s).one

theorem askNd_moves (target : Nat) (c : Bool) (s : State) : Moves s (askNd target c s) := by
  unfold askNd
  split
  · exact beginNd_moves _ _ s
  · exact (Move.head _ s).one

theorem askStepNd_moves (s : State) : Moves s (askStepNd s) := by
  unfold askStepNd
  split
  · exact .refl s
  · split
    · exact .refl s
    · exact askNd_moves _ _ s

/-! ## Postings -/

theorem post_moves (kind : PostKind) (account : Nat) (stock : Option Nat) (amount : Int) (s : State) :
    Moves s (post kind account stock amount s) := by
  have h1 := (Move.post kind account stock amount s).one
  unfold post
  simp only
  split
  · exact (h1.trans (queueNotices_moves _ _)).trans (releaseCeiling_moves _)
  · exact h1.trans (queueNotices_moves _ _)

theorem creditFrames_moves (stock : Nat) (fs : List Frame) (s : State) : Moves s (creditFrames stock fs s) := by
  induction fs generalizing s with
  | nil => exact .refl s
  | cons f fs ih =>
    unfold creditFrames
    split
    · exact (post_moves _ _ _ _ s).trans (ih _)
    · exact ih s

/-! ## Labels and the register -/

theorem setLabelState_moves (k : LabelKey) (st : LabelState) (s : State) : Moves s (setLabelState k st s) := by
  unfold setLabelState
  split
  · exact .refl s
  · refine Move.one (.slot _ _ s ?_)
    refine fun r => ⟨rfl, rfl, rfl, rfl, rfl, ?_⟩
    simp only [List.map_map]
    refine List.map_congr_left fun x _ => ?_
    simp only [Function.comp_apply]
    split <;> rfl

@[simp] theorem onSlot_labels (k : Nat) (g : Roll → Roll) (s : State) : (s.onSlot k g).labels = s.labels := rfl

@[simp] theorem setLabelState_labels (k : LabelKey) (st : LabelState) (s : State) : (setLabelState k st s).labels = s.labels := by
  unfold setLabelState
  split <;> rfl

theorem insertBy_length {α : Type} (le : α → α → Bool) (x : α) (l : List α) : (insertBy le x l).length = l.length + 1 := by
  induction l with
  | nil => rfl
  | cons y ys ih => unfold insertBy; split <;> simp [ih]

/-- A label enters the queue only with room for it. -/
theorem enqueue_moves (k : LabelKey) (s : State) (h : s.labels.queue.length < Config.maxLabels) : Moves s (enqueue k s) :=
  (setLabelState_moves k .queued s).trans
    (Move.labels _ _ ⟨rfl, .inr ⟨by simpa using h, by simp [insertBy_length]⟩⟩).one

theorem fillBy_moves (n : Nat) (s : State) : Moves s (fillBy n s) := by
  induction n generalizing s with
  | zero => exact .refl s
  | succ n ih =>
    unfold fillBy
    split
    · split
      · exact .refl s
      · rename_i h _ _ _ _; exact (enqueue_moves _ s h).trans (ih _)
    · exact .refl s

theorem fillQueue_moves (s : State) : Moves s (fillQueue s) := fillBy_moves _ s

theorem labels_same_queue (f : LabelUnit → LabelUnit) (s : State)
    (h : (f s.labels).date = s.labels.date ∧ (f s.labels).queue = s.labels.queue) : Moves s (s.onLabels f) :=
  (Move.labels f s ⟨h.1, .inl (by rw [h.2])⟩).one

theorem transmit_moves (k : LabelKey) (s : State) : Moves s (transmit k s) := labels_same_queue _ s ⟨rfl, rfl⟩

theorem sendIfIdle_moves (s : State) : Moves s (sendIfIdle s) := by
  unfold sendIfIdle
  split
  · exact transmit_moves _ s
  · exact .refl s

theorem dropHead_moves (k : LabelKey) (token : Token) (s : State) : Moves s (dropHead k token s) :=
  (Move.labels _ s ⟨rfl, .inl List.length_erase_le⟩).one

theorem postMount_moves (k : LabelKey) (s : State) : Moves s (postMount k s) := by
  unfold postMount
  split
  · exact post_moves _ _ _ _ s
  · exact .refl s

theorem completeHead_moves (k : LabelKey) (s : State) : Moves s (completeHead k s) :=
  ((((dropHead_moves k .printed s).trans (setLabelState_moves k .printed _)).trans (postMount_moves k _)).trans
    (labels_same_queue _ _ ⟨rfl, rfl⟩)).trans (fillQueue_moves _)

theorem lineAfterHead_moves (s : State) : Moves s (lineAfterHead s) := by
  refine labels_same_queue _ s ?_
  by_cases h : s.labels.pausePending = true ∨ s.labels.run = .off <;> simp [h]

theorem lineAfterLate_moves (s : State) : Moves s (lineAfterLate s) := by
  refine labels_same_queue _ s ?_
  split <;> simp

theorem stopLine_moves (reason : StopReason) (s : State) : Moves s (stopLine reason s) := by
  refine labels_same_queue _ s ?_
  by_cases h : s.labels.pausePending = true <;> simp [h]

theorem closeRoll_moves (slot : Nat) (cause : CloseCause) (s : State) : Moves s (closeRoll slot cause s) := by
  unfold closeRoll
  split
  · exact .refl s
  · exact (((Move.notice _ s).one.trans (Move.slotFree slot _).one).trans (labels_same_queue _ _ ⟨rfl, rfl⟩))

theorem closeTest_moves (roll : Nat) (s : State) : Moves s (closeTest roll s) := by
  unfold closeTest
  split
  · exact .refl s
  · split
    · split
      · exact closeRoll_moves _ _ s
      · exact .refl s
    · exact .refl s

theorem printerEnd_moves (before s : State) : Moves s (printerEnd before s) := by
  unfold printerEnd
  split
  · exact (Move.notice _ s).one
  · exact .refl s

theorem printEnd_moves (before s : State) : Moves s (printEnd before s) :=
  (sendIfIdle_moves s).trans (printerEnd_moves before _)

theorem makeLabel_moves (rec : LabelRecord) (s : State) : Moves s (makeLabel rec s) := by
  have h1 : Moves s (s.onLabels fun u => { u with records := u.records ++ [rec] }) := labels_same_queue _ s ⟨rfl, rfl⟩
  unfold makeLabel
  simp only
  split
  · rename_i hq
    refine h1.trans (enqueue_moves _ _ ?_)
    unfold newLabelState at hq
    by_contra hc
    rw [if_neg (fun h => hc h.1)] at hq
    cases hq
  · exact (h1.trans (setLabelState_moves _ _ _)).trans (fillQueue_moves _)

/-! ## Selections and settlements -/

theorem learnFrom_moves (g : Group) (step : LastStep) (s : State) : Moves s (learnFrom g step s).1 :=
  (Move.learn g.cat g.n g.spacing g.pUsed step s).one

theorem applyKeep_moves (slot : Nat) (r : Roll) (g : Group) (j : Int) (s : State) : Moves s (applyKeep slot r g j s).1 := by
  have h1 : Moves s (s.onSlot slot fun r => r.keepStep g.first j) := (Move.slot slot _ s fun r => keepStep_kept r g.first j).one
  unfold applyKeep
  simp only
  refine Moves.trans ?_ (takeOutcomeChange_moves _ _)
  refine Moves.trans ?_ (onSlide_moves _ _ _ _)
  refine Moves.trans ?_ (learnFrom_moves g _ _)
  split
  · exact h1.trans (makeLabel_moves _ _)
  · exact h1

theorem applyRejectExposure_moves (slot : Nat) (g : Group) (d : Bool) (s : State) :
    Moves s (applyRejectExposure slot g d s).1 := by
  unfold applyRejectExposure
  simp only
  refine Moves.trans ?_ (takeOutcomeChange_moves _ _)
  refine Moves.trans ?_ (onSlide_moves _ _ _ _)
  exact (Move.slot slot _ s fun r => discardGroup_kept r _ _).one.trans (learnFrom_moves g _ _)

theorem applyReject_moves (slot : Nat) (g : Group) (s : State) : Moves s (applyReject slot g s) :=
  ((Move.slot slot _ s fun r => discardGroup_kept r _ _).one.trans (onSlide_moves _ _ _ _)).trans (takeOutcomeChange_moves _ _)

theorem applyEntry_moves (slot : Nat) (e : SelectReq) (s : State) : Moves s (applyEntry slot e s).1 := by
  unfold applyEntry
  split
  · exact .refl s
  · split
    · exact .refl s
    · split
      · exact .refl s
      · split
        · exact .refl s
        · split
          · split
            · exact .refl s
            · exact applyKeep_moves _ _ _ _ s
          · exact applyRejectExposure_moves _ _ _ s
          · exact applyRejectExposure_moves _ _ _ s
          · exact applyReject_moves _ _ s

theorem settleLost_moves (slot : Nat) (g : Group) (s : State) : Moves s (settleLost slot g s) := by
  unfold settleLost
  split
  · exact .refl s
  · refine Moves.trans ?_ (takeOutcomeChange_moves _ _)
    refine Moves.trans ?_ (onSlide_moves _ _ _ _)
    refine Moves.trans ?_ (creditFrames_moves _ _ _)
    exact (Move.slot slot _ s fun r => (discardGroup_kept r _ _).trans (onFramesOf_kept _ _ _ markCredited_number)).one

theorem settleAbandon_moves (slot : Nat) (g : Group) (s : State) : Moves s (settleAbandon slot g s) :=
  ((Move.slot slot _ s fun r => discardGroup_kept r _ _).one.trans (onSlide_moves _ _ _ _)).trans (takeOutcomeChange_moves _ _)

theorem settleGroups_moves (d slot : Nat) (s : State) : Moves s (settleGroups d slot s) := by
  refine Moves.foldl _ (fun s g => ?_) _ s
  split
  · exact settleLost_moves slot g s
  · exact settleAbandon_moves slot g s

theorem cancelEffect_moves (number : Nat) (s : State) : Moves s (cancelEffect number s) := by
  unfold cancelEffect
  refine Moves.trans ?_ (Moves.foldl _ (fun s k => closeTest_moves k s) _ _)
  refine Moves.trans ?_ (finish_moves number _ _)
  exact ((Move.backRoll .backA _ s fun r => cancelOrder_kept r number).one.trans
    (Move.backRoll .backB _ _ fun r => cancelOrder_kept r number).one).trans
    (Move.slots _ _ fun r => cancelOrder_kept r number).one

/-! ## Feeder operations -/

theorem feederSame_moves (f : Feeder → Feeder) (s : State)
    (h : (f s.feeder).map = s.feeder.map ∧ (f s.feeder).present = s.feeder.present
      ∧ (f s.feeder).gateSense = s.feeder.gateSense ∧ (f s.feeder).gate = s.feeder.gate) : Moves s (s.onFeeder f) :=
  (Move.feeder f s ⟨h.1, h.2.1, h.2.2.1, .inl (by rw [h.2.2.2])⟩).one

theorem beginJob_moves (job : FeederJob) (c : Bool) (s : State) : Moves s (beginJob job c s) :=
  feederSame_moves _ s ⟨rfl, rfl, rfl, rfl⟩

theorem waitJob_moves (job : FeederJob) (c : Bool) (s : State) : Moves s (waitJob job c s) :=
  feederSame_moves _ s ⟨rfl, rfl, rfl, rfl⟩

theorem askReturn_moves (p : Nat) (s : State) : Moves s (askReturn p s) := by
  unfold askReturn
  split
  · exact beginJob_moves _ _ s
  · exact waitJob_moves _ _ s

theorem freePosition_moves (c : Cycle) (s : State) : Moves s (freePosition c s) := by
  unfold freePosition
  split
  · split
    · exact .refl s
    · exact feederSame_moves _ s ⟨rfl, rfl, rfl, rfl⟩
  · exact feederSame_moves _ s ⟨rfl, rfl, rfl, rfl⟩

/-! ## The cycle: its plan, its ends, its abort -/

theorem openGroup_kept (r : Roll) (g : Group) : RollKept r (r.openGroup g) := ⟨rfl, rfl, rfl, rfl, rfl, rfl⟩

theorem takePlan_moves (c : Cycle) (d : Nat) (dense : Bool) (s : State) : Moves s (takePlan c d dense s) := by
  unfold takePlan
  split
  · exact .refl s
  · exact ((Move.backRoll _ _ s fun r => openGroup_kept r _).one.trans (onCycle_moves _ _)).trans (askStepNd_moves _)

theorem tryPlan_moves (s : State) : Moves s (tryPlan s) := by
  unfold tryPlan
  split
  · exact .refl s
  · split
    · split
      · exact takePlan_moves _ _ _ s
      · split
        · exact (Move.head _ s).one.trans (onCycle_moves _ _)
        · exact .refl s
    · exact .refl s

theorem returnFilling_moves (o : Order) (s : State) : Moves s (returnFilling o s) := by
  unfold returnFilling
  split <;> exact setOrderState_moves _ _ _ s

theorem takeMarks_moves (number : Nat) (s : State) : Moves s (takeMarks number s) := by
  unfold takeMarks
  split
  · exact .refl s
  · split
    · exact cancelEffect_moves _ s
    · split
      · exact (Moves.trans (Move.order _ _ _ (by exact fun _ => ⟨rfl, rfl, rfl⟩)).one (holdWith_moves _ _ _))
      · split
        · exact returnFilling_moves _ s
        · exact .refl s

theorem takeReport_moves (c : Cycle) (complete : Bool) (s : State) : Moves s (takeReport c complete s) := by
  unfold takeReport
  refine Moves.trans ?_ (takeMarks_moves _ _)
  split
  · exact onSlide_moves _ _ _ s
  · exact .refl s

theorem standAfterCycle_moves (s : State) : Moves s (standAfterCycle s) := by
  unfold standAfterCycle
  split
  · exact (setStandMode_moves _ s).trans (lampOff_moves _)
  · exact startIdle_moves s
  · exact .refl s

theorem endCycle_moves (s : State) : Moves s (endCycle s) := by
  unfold endCycle
  split
  · exact .refl s
  · refine Moves.trans ?_ (standAfterCycle_moves _)
    refine Moves.trans ?_ (takeReport_moves _ _ _)
    refine Moves.trans ?_ (freePosition_moves _ _)
    exact (Move.notice _ s).one.trans (Move.stand _ _ rfl).one

theorem tryEndAborted_moves (s : State) : Moves s (tryEndAborted s) := by
  unfold tryEndAborted
  split
  · exact .refl s
  · split
    · exact .refl s
    · exact endCycle_moves s
    · split
      · exact .refl s
      · split
        · exact askReturn_moves _ s
        · exact endCycle_moves s

theorem tryEndNormal_moves (s : State) : Moves s (tryEndNormal s) := by
  unfold tryEndNormal
  split
  · exact .refl s
  · split
    · exact endCycle_moves s
    · exact .refl s

theorem releaseOps_moves (s : State) : Moves s (releaseOps s) := by
  unfold releaseOps
  simp only
  refine Moves.trans ?_ (Move.back .backB _ _ ⟨rfl, Iff.rfl⟩).one
  refine Moves.trans ?_ (Move.back .backA _ _ ⟨rfl, Iff.rfl⟩).one
  refine Moves.trans ?_ (Move.turret _ _ ⟨rfl, rfl, rfl, rfl⟩).one
  exact (feederSame_moves _ s ⟨rfl, rfl, rfl, rfl⟩).trans (Move.head _ _).one

theorem spoilFrame_moves (c : Cycle) (s : State) : Moves s (spoilFrame c s) := by
  unfold spoilFrame
  split
  · split
    · exact (Move.stand _ s rfl).one
    · exact ((Move.stand _ s rfl).one.trans (Move.frame _ _ _ fun _ => rfl).one).trans (spentAdvance_moves _ _)
  · exact .refl s

theorem settleGroup_moves (c : Cycle) (s : State) : Moves s (settleGroup c s) := by
  unfold settleGroup
  split
  · exact .refl s
  · split
    · refine Moves.trans ?_ (creditFrames_moves _ _ _)
      exact (Move.backRoll _ _ s fun r => ((discardGroup_kept r _ _).trans (onGroup_kept _ _ _)).trans
        (onFramesOf_kept _ _ _ markCredited_number)).one
    · exact .refl s

theorem abortCycle_moves (cause : AbortCause) (mode : Option StandMode) (s : State) : Moves s (abortCycle cause mode s) := by
  unfold abortCycle
  split
  · exact setModeIf_moves _ s
  · split
    · exact setModeIf_moves _ s
    · exact (((onCycle_moves _ s).trans (releaseOps_moves _)).trans (spoilFrame_moves _ _)).trans
        ((settleGroup_moves _ _).trans (setModeIf_moves _ _))

theorem abort_moves (cause : AbortCause) (mode : Option StandMode) (s : State) : Moves s (abort cause mode s) :=
  (abortCycle_moves cause mode s).trans (tryEndAborted_moves _)

theorem haltReport_moves (reason : HaltReason) (stale : Bool) (s : State) : Moves s (haltReport reason stale s) := by
  unfold haltReport
  split
  · exact .refl s
  · split
    · exact abort_moves _ _ s
    · exact abort_moves _ _ s
    · exact .refl s
    · exact .refl s

theorem backFailed_moves (b : BackId) (cause : AbortCause) (s : State) : Moves s (backFailed b cause s) := by
  unfold backFailed
  split
  · exact .refl s
  · split
    · split
      · exact tryEndNormal_moves s
      · exact abort_moves _ _ s
    · exact .refl s

theorem feederFail_moves (stale : Bool) (s : State) : Moves s (feederFail stale s) := by
  unfold feederFail
  refine Moves.trans ?_ (tryEndAborted_moves _)
  refine Moves.trans ?_ (haltReport_moves _ _ _)
  exact (Move.feeder _ s ⟨rfl, rfl, rfl, .inr rfl⟩).one

theorem startJob_moves (job : FeederJob) (c : Bool) (s : State) : Moves s (startJob job c s) := by
  unfold startJob
  split
  · split
    · exact beginJob_moves _ _ s
    · exact feederFail_moves _ s
  · exact beginJob_moves _ _ s
  · exact beginJob_moves _ _ s

theorem askJob_moves (job : FeederJob) (c : Bool) (s : State) : Moves s (askJob job c s) := by
  unfold askJob
  split
  · exact startJob_moves _ _ s
  · exact waitJob_moves _ _ s

theorem startWaitingJob_moves (s : State) : Moves s (startWaitingJob s) := by
  unfold startWaitingJob
  split
  · exact (feederSame_moves _ s ⟨rfl, rfl, rfl, rfl⟩).trans (startJob_moves _ _ _)
  · exact .refl s

/-! ## The choice -/

theorem popDone_moves (n : Nat) (s : State) : Moves s (popDone n s) := by
  induction n generalizing s with
  | zero => exact .refl s
  | succ n ih =>
    unfold popDone
    split
    · exact .refl s
    · split
      · exact .refl s
      · split
        · exact ((setOrderState_moves _ _ _ s).trans (removeFromStack_moves _ _)).trans (ih _)
        · exact .refl s

theorem preempt_moves (number : Nat) (s : State) : Moves s (preempt number s) := by
  unfold preempt
  split
  · exact .refl s
  · split
    · exact (Move.order _ _ _ (by exact fun _ => ⟨rfl, rfl, rfl⟩)).one
    · exact setOrderState_moves _ _ _ s

theorem highestOf_mem (l : List Order) (o : Order) (h : highestOf l = some o) : o ∈ l := by
  induction l generalizing o with
  | nil => simp [highestOf] at h
  | cons x xs ih =>
    cases hp : highestOf xs with
    | none => simp only [highestOf, hp, Option.some.injEq] at h; simp [h]
    | some p =>
      simp only [highestOf, hp] at h
      split at h
      · cases h; exact List.mem_cons_of_mem _ (ih _ hp)
      · cases h; exact List.mem_cons_self

theorem pushCandidate_moves (s : State) : Moves s (pushCandidate s) := by
  unfold pushCandidate
  split
  · exact .refl s
  · rename_i c hc
    split
    · rename_i hg
      have hm : c ∈ s.work.orders := List.mem_of_mem_filter (highestOf_mem _ _ hc)
      unfold push
      have h1 := (Move.push c s hm hg.1 hg.2).one.trans (setOrderState_moves c.number .active none _)
      simp only
      split
      · exact h1
      · exact h1.trans (preempt_moves _ _)
    · exact .refl s

theorem makeCycle_moves (c : Cycle) (s : State) : Moves s (makeCycle c s) := by
  unfold makeCycle
  simp only
  refine Moves.trans ?_ (stopIdle_moves _)
  refine Moves.trans ?_ (feederSame_moves _ _ ⟨rfl, rfl, rfl, rfl⟩)
  exact (Move.stand _ s rfl).one.trans (Move.mark _ _).one

theorem askTurretAndLamp_moves (b : BackId) (s : State) : Moves s (askTurretAndLamp b s) := by
  unfold askTurretAndLamp
  split
  · exact .refl s
  · split
    · exact .refl s
    · refine Moves.trans ?_ (lampLight_moves _)
      split
      · exact .refl s
      · exact askSwap_moves _ _ s

theorem startSlide_moves (o : Order) (b : BackId) (s : State) : Moves s (startSlide o b s) := by
  unfold startSlide
  split
  · exact .refl s
  · split
    · exact .refl s
    · exact ((makeCycle_moves _ s).trans (askJob_moves _ _ _)).trans (askTurretAndLamp_moves _ _)

theorem choiceLoop_moves (n : Nat) (s : State) : Moves s (choiceLoop n s) := by
  induction n generalizing s with
  | zero => exact .refl s
  | succ n ih =>
    unfold choiceLoop
    have h1 : Moves s (pushCandidate (popDone s.work.stack.length s)) := (popDone_moves _ s).trans (pushCandidate_moves _)
    simp only
    split
    · exact h1
    · split
      · exact (h1.trans (holdWith_moves _ _ _)).trans (ih _)
      · exact h1.trans (startSlide_moves _ _ _)
      · exact (h1.trans (setOrderState_moves _ _ _ _)).trans (startSlide_moves _ _ _)
      · exact (h1.trans (makeFull_moves _ _)).trans (ih _)
      · exact h1

theorem runChoice_moves (s : State) : Moves s (runChoice s) := by
  unfold runChoice
  split
  · exact choiceLoop_moves _ s
  · exact .refl s

theorem standEnd_moves (before s : State) : Moves s (standEnd before s) := by
  unfold standEnd
  split
  · exact .refl s
  · exact (Move.notice _ s).one

theorem eventEnd_moves (asked : Bool) (before s : State) : Moves s (eventEnd asked before s) := by
  unfold eventEnd
  refine Moves.trans ?_ (standEnd_moves _ _)
  split
  · exact runChoice_moves s
  · exact .refl s

theorem labelEventEnd_moves (before s : State) : Moves s (labelEventEnd before s) :=
  ((sendIfIdle_moves s).trans (eventEnd_moves _ _ _)).trans (printerEnd_moves _ _)

/-! ## Events whose every change is the part's own -/

theorem tokenTimeoutEvent_moves (s : State) : Moves s (tokenTimeoutEvent s) := by
  unfold tokenTimeoutEvent
  split
  · exact ((labels_same_queue _ s ⟨rfl, rfl⟩).trans (stopLine_moves _ _)).trans (printEnd_moves _ _)
  · exact .refl s

theorem stopTokenEvent_moves (token : Token) (reason : StopReason) (s : State) : Moves s (stopTokenEvent token reason s) := by
  unfold stopTokenEvent
  split
  · exact ((labels_same_queue _ s ⟨rfl, rfl⟩).trans (stopLine_moves _ _)).trans (printEnd_moves _ _)
  · exact .refl s

theorem printedEvent_moves (s : State) : Moves s (printedEvent s) := by
  unfold printedEvent
  split
  · exact .refl s
  · split
    · exact (((completeHead_moves _ s).trans (lineAfterHead_moves _)).trans (closeTest_moves _ _)).trans (printEnd_moves _ _)
    · split
      · exact (((completeHead_moves _ s).trans (lineAfterLate_moves _)).trans (closeTest_moves _ _)).trans (printEnd_moves _ _)
      · exact .refl s

theorem formatErrorEvent_moves (s : State) : Moves s (formatErrorEvent s) := by
  unfold formatErrorEvent
  split
  · exact .refl s
  · split
    · exact (((((dropHead_moves _ _ s).trans (setLabelState_moves _ _ _)).trans (fillQueue_moves _)).trans
        (lineAfterHead_moves _)).trans (closeTest_moves _ _)).trans (printEnd_moves _ _)
    · exact .refl s

theorem tokenEvent_moves (token : Token) (s : State) : Moves s (tokenEvent token s) := by
  cases token
  · exact printedEvent_moves s
  · exact stopTokenEvent_moves _ _ s
  · exact stopTokenEvent_moves _ _ s
  · exact formatErrorEvent_moves s

theorem printerByteEvent_moves (x : Byte) (s : State) : Moves s (printerByteEvent x s) := by
  unfold printerByteEvent
  cases tokenOf? x with
  | none => exact .refl s
  | some token => exact tokenEvent_moves token s

theorem labelSentEvent_moves (s : State) : Moves s (labelSentEvent s) := by
  refine labels_same_queue _ s ?_
  by_cases h : s.labels.out.isSome <;> simp [h]

theorem homeSenseEvent_moves (s : State) : Moves s (homeSenseEvent s) := by
  unfold homeSenseEvent
  split
  · exact feederSame_moves _ s ⟨rfl, rfl, rfl, rfl⟩
  · split
    · exact feederSame_moves _ s ⟨rfl, rfl, rfl, rfl⟩
    · exact .refl s
  · exact .refl s

theorem feederTimeoutEvent_moves (s : State) : Moves s (feederTimeoutEvent s) := by
  unfold feederTimeoutEvent
  split
  · exact .refl s
  · exact feederFail_moves _ s

theorem lampFail_moves (s : State) : Moves s (lampFail s) := (Move.head _ s).one.trans (haltReport_moves _ _ _)

theorem lampFailureEvent_moves (s : State) : Moves s (lampFailureEvent s) := by
  unfold lampFailureEvent
  split
  · exact lampFail_moves s
  · exact .refl s

theorem idleExpiryEvent_moves (s : State) : Moves s (idleExpiryEvent s) := by
  unfold idleExpiryEvent
  split
  · exact (lampOff_moves s).trans (stopIdle_moves _)
  · exact .refl s

theorem warmUpEvent_moves (sense : Bool) (s : State) : Moves s (warmUpEvent sense s) := by
  unfold warmUpEvent
  split
  · split
    · exact (Move.head _ s).one.trans (tryPlan_moves _)
    · exact lampFail_moves s
  · exact .refl s

theorem meterEvent_moves (r : Nat → Readings) (s : State) : Moves s (meterEvent r s) := by
  unfold meterEvent
  split
  · exact .refl s
  · simp only
    split
    · split
      · exact (Move.head _ s).one.trans (takePlan_moves _ _ _ _)
      · exact (Move.head _ s).one
    · exact (Move.head _ s).one.trans (tryPlan_moves _)

theorem meterTimeoutEvent_moves (s : State) : Moves s (meterTimeoutEvent s) := by
  unfold meterTimeoutEvent
  split
  · exact .refl s
  · exact ((Move.head _ s).one.trans (haltReport_moves _ _ _)).trans (tryPlan_moves _)

theorem startWaitingNd_moves (s : State) : Moves s (startWaitingNd s) := by
  unfold startWaitingNd
  split
  · exact (Move.head _ s).one.trans (beginNd_moves _ _ _)
  · exact .refl s

theorem ndCompleteEvent_moves (s : State) : Moves s (ndCompleteEvent s) := by
  unfold ndCompleteEvent
  split
  · exact .refl s
  · exact (Move.head _ s).one

theorem ndTimeoutEvent_moves (s : State) : Moves s (ndTimeoutEvent s) := by
  unfold ndTimeoutEvent
  split
  · exact .refl s
  · exact (Move.head _ s).one.trans (haltReport_moves _ _ _)

theorem startWaitingAdvance_moves (b : BackId) (s : State) : Moves s (startWaitingAdvance b s) := by
  unfold startWaitingAdvance
  split
  · exact .refl s
  · split
    · exact startOwed_moves b s
    · split
      · exact (Move.back b _ s ⟨rfl, Iff.rfl⟩).one.trans (startAdvance_moves b _ _ _)
      · exact .refl s

theorem leaderStep_moves (b : BackId) (s : State) (h : (s.back b).state = .leader) : Moves s (leaderStep b s) := by
  unfold leaderStep
  split
  · exact (Move.back b _ s ⟨rfl, Iff.rfl⟩).one.trans (startAdvance_moves b _ _ _)
  · have h1 : Moves s (setBackState b .ready (s.onBack b fun k => { k with leaderLeft := 0 })) :=
      (Move.back b _ s ⟨rfl, Iff.rfl⟩).one.trans (setBackState_moves b _ _ (by simp [h]))
    simp only
    split
    · exact h1.trans (releaseFilm_moves _ _)
    · exact h1

theorem fullWhenUsed_moves (b : BackId) (s : State) (h : (s.back b).state = .ready) : Moves s (fullWhenUsed b s) := by
  unfold fullWhenUsed
  split
  · split
    · exact setBackState_moves b _ s (by simp [h])
    · exact .refl s
  · exact .refl s

theorem stepAdvanced_moves (s : State) : Moves s (stepAdvanced s) := by
  unfold stepAdvanced
  split
  · exact .refl s
  · split
    · exact (onCycle_moves _ s).trans (askStepNd_moves _)
    · exact tryEndNormal_moves s

theorem advanceCompleteEvent_moves (b : BackId) (s : State) : Moves s (advanceCompleteEvent b s) := by
  unfold advanceCompleteEvent
  split
  · exact .refl s
  · rename_i a _
    have h1 : Moves s (s.onBack b fun k => { k with advance := none, gateFrame := .fresh }) :=
      (Move.back b _ s ⟨rfl, Iff.rfl⟩).one
    simp only
    refine Moves.trans ?_ (startOwed_moves b _)
    split
    · refine Moves.trans ?_ (stepAdvanced_moves _)
      split
      · rename_i hl; exact h1.trans (leaderStep_moves b _ (by simpa using hl))
      · rename_i hr; exact h1.trans (fullWhenUsed_moves b _ (by simpa using hr))
      · exact h1
    · split
      · rename_i hl; exact h1.trans (leaderStep_moves b _ (by simpa using hl))
      · rename_i hr; exact h1.trans (fullWhenUsed_moves b _ (by simpa using hr))
      · exact h1

theorem advanceFails_moves (b : BackId) (st : BackState) (cause : AbortCause) (s : State) (hst : st ≠ .empty) :
    Moves s (advanceFails b st cause s) := by
  have h1 : Moves s (s.onBack b fun k => { k with advance := none, owed := false, leaderLeft := 0 }) :=
    (Move.back b _ s ⟨rfl, Iff.rfl⟩).one
  unfold advanceFails
  simp only
  split
  · rename_i hw
    refine (h1.trans (setBackState_moves b st _ ?_)).trans (backFailed_moves b cause _)
    simp only [Back.winds, Bool.or_eq_true, decide_eq_true_eq] at hw
    rcases hw with (hw | hw) | hw <;> simp [hst, hw]
  · exact h1

theorem advanceTimeoutEvent_moves (b : BackId) (s : State) : Moves s (advanceTimeoutEvent b s) := by
  unfold advanceTimeoutEvent
  split
  · exact advanceFails_moves b (.fault .advanceTimeout) _ s nofun
  · exact .refl s

theorem filmEndEvent_moves (b : BackId) (s : State) : Moves s (filmEndEvent b s) := by
  unfold filmEndEvent
  split
  · exact (Move.backRoll b _ s (by exact fun _ => ⟨rfl, rfl, rfl, rfl, rfl, rfl⟩)).one.trans (advanceFails_moves b .ended _ _ nofun)
  · exact .refl s

theorem startWaitingSwap_moves (s : State) : Moves s (startWaitingSwap s) := by
  unfold startWaitingSwap
  split
  · split
    · exact (Move.turret _ s ⟨rfl, rfl, rfl, rfl⟩).one.trans (beginSwap_moves _ _ _)
    · exact .refl s
  · exact .refl s

theorem swapCompleteEvent_moves (s : State) : Moves s (swapCompleteEvent s) := by
  unfold swapCompleteEvent
  split
  · exact .refl s
  · exact (Move.turret _ s ⟨rfl, rfl, rfl, rfl⟩).one

theorem swapTimeoutEvent_moves (s : State) : Moves s (swapTimeoutEvent s) := by
  unfold swapTimeoutEvent
  split
  · exact .refl s
  · exact (Move.turret _ s ⟨rfl, rfl, rfl, rfl⟩).one.trans (haltReport_moves _ _ _)

theorem rewindCompleteEvent_moves (b : BackId) (s : State) : Moves s (rewindCompleteEvent b s) := by
  unfold rewindCompleteEvent
  split
  · rename_i h; exact setBackState_moves b _ s (by simp [h])
  · exact .refl s

theorem rewindTimeoutEvent_moves (b : BackId) (s : State) : Moves s (rewindTimeoutEvent b s) := by
  unfold rewindTimeoutEvent
  split
  · rename_i h; exact setBackState_moves b _ s (by simp [h])
  · exact .refl s

theorem exposeStartEvent_moves (s : State) : Moves s (exposeStartEvent s) := by
  unfold exposeStartEvent
  split
  · exact .refl s
  · split
    · exact .refl s
    · split
      · exact (Move.stand _ s rfl).one
      · exact .refl s

theorem ticksEndEvent_moves (s : State) : Moves s (ticksEndEvent s) := (Move.stand _ s rfl).one

theorem exposeDone_moves (c : Cycle) (p : PlanStep) (s : State) : Moves s (exposeDone c p s) := by
  have h1 := ((((post_moves .frame c.account (some c.stock) (frameAmount s c.stock c.cls) s).trans
    (Move.frame c.back (stepFrame c p .exposure (some (frameAmount s c.stock c.cls)) (some c.account)) _ fun _ => rfl).one).trans
    (Move.backRoll c.back (fun r => r.onGroup (c.groupFirst.getD 0) Group.oneMore) _ fun r => onGroup_kept r _ _).one).trans
    (Move.stand (fun t => { t with expose := none }) _ rfl).one).trans (askAdvance_moves c.back .step true _)
  unfold exposeDone
  simp only
  split
  · exact h1.trans (onCycle_moves _ _)
  · exact (h1.trans (askReturn_moves _ _)).trans (onCycle_moves _ _)

theorem shutterFail_moves (s : State) : Moves s (shutterFail s) := haltReport_moves _ _ s

theorem shutterClosedEvent_moves (s : State) : Moves s (shutterClosedEvent s) := by
  unfold shutterClosedEvent
  split
  · exact .refl s
  · split
    · split
      · exact (Move.stand _ s rfl).one
      · split
        · exact (Move.stand _ s rfl).one
        · exact exposeDone_moves _ _ s
    · exact shutterFail_moves s

theorem exposeTimeoutEvent_moves (s : State) : Moves s (exposeTimeoutEvent s) := by
  unfold exposeTimeoutEvent
  split
  · exact shutterFail_moves s
  · exact .refl s

end Sys2Proof.Machine
end

