-- ==== Sys2Proof/Laws/Reading.lean ====
section
/-! SUPPORT. What is written by the bodies of `Sys2Proof.Decode` is read back by its readers: one lemma for each kind of field and
each body of many fields. -/

namespace Sys2Proof

/-- `n` bytes are `n` bytes. -/
theorem natBytes_len (n v : Nat) : (natBytes n v).length = n := by induction n <;> simp [natBytes, *]

/-- Reading the bytes of a number gives it back modulo its size. -/
theorem readNat_natBytes (n v acc : Nat) (rest : List Byte) :
    readNat n acc (natBytes n v ++ rest) = some (acc * 256 ^ n + v % 256 ^ n, rest) := by
  induction n generalizing acc with
  | zero => simp [readNat, natBytes, Nat.mod_one]; rfl
  | succ n ih =>
    simp only [natBytes, List.cons_append, readNat, ih]
    congr 2
    simp only [BitVec.toNat_ofNat]
    have h := Nat.mod_mul (x := v) (a := 256 ^ n) (b := 256)
    rw [show (2 ^ 8 : Nat) = 256 from rfl, pow_succ, h]; ring

/-- An unsigned field that fits reads back. -/
theorem readU_ok (n v : Nat) (rest : List Byte) (h : fits n v = true) : readU n (natBytes n v ++ rest) = some (v, rest) := by
  simp only [fits, decide_eq_true_eq] at h
  simp [readU, readNat_natBytes, Nat.mod_eq_of_lt h]

/-- A signed field that fits reads back. -/
theorem readI_ok (n : Nat) (v : Int) (rest : List Byte) (hn : 0 < n) (h : fitsInt n v = true) : readI n (intBytes n v ++ rest) = some (v, rest) := by
  obtain ⟨m, rfl⟩ := Nat.exists_eq_succ_of_ne_zero hn.ne'
  simp only [fitsInt, Bool.and_eq_true, decide_eq_true_eq, Nat.succ_sub_one, Nat.succ_eq_add_one] at h
  have hp : (0:Int) < 256 ^ m := by positivity
  have e : (256:Int)^(m+1) = 256 * 256^m := by rw [pow_succ]; ring
  have hlt : (v % 256 ^ (m+1)).toNat < 256 ^ (m+1) := by
    have : v % (256:Int)^(m+1) < 256^(m+1) := Int.emod_lt_of_pos _ (by positivity)
    have h0 : 0 ≤ v % (256:Int)^(m+1) := Int.emod_nonneg _ (by positivity)
    zify; rw [Int.toNat_of_nonneg h0]; exact_mod_cast this
  have hr : readU (m+1) (natBytes (m+1) (v % 256 ^ (m+1)).toNat ++ rest) = some ((v % 256 ^ (m+1)).toNat, rest) :=
    readU_ok _ _ _ (by simpa [fits] using hlt)
  simp only [readI, intBytes, StateT.bind, bind, hr, Option.bind, pure, StateT.pure, Nat.succ_eq_add_one]
  congr 2
  have h0 : 0 ≤ v % (256:Int)^(m+1) := Int.emod_nonneg _ (by positivity)
  simp only [signedOf]
  by_cases hv : 0 ≤ v
  · have : v % 256^(m+1) = v := Int.emod_eq_of_lt hv (by omega)
    rw [this]
    have : 2 * v.toNat < 256 ^ (m+1) := by zify; rw [Int.toNat_of_nonneg hv]; omega
    rw [if_pos this, Int.toNat_of_nonneg hv]
  · have : v % 256^(m+1) = v + 256^(m+1) := by
      rw [← Int.add_emod_right]; exact Int.emod_eq_of_lt (by omega) (by omega)
    rw [this]
    have h1 : 0 ≤ v + (256:Int)^(m+1) := by omega
    have : ¬ 2 * (v + 256^(m+1)).toNat < 256 ^ (m+1) := by zify; rw [Int.toNat_of_nonneg h1]; omega
    rw [if_neg this, Int.toNat_of_nonneg h1]; ring

/-- A text reads back. -/
theorem readText_ok (t : Text) (rest : List Byte) (h : fitsText t = true) : readText (textBytes t ++ rest) = some (t, rest) := by
  simp only [fitsText, decide_eq_true_eq] at h
  have := readU_ok 1 t.length (t ++ rest) (by simp [fits]; omega)
  simp [readText, textBytes, bind, StateT.bind, this, readBytes]

/-- Entries that each read back do so one after another. -/
theorem readMany_ok {α : Type} (r : Reader α) (w : α → List Byte) (l : List α) (rest : List Byte)
    (h : ∀ x ∈ l, ∀ rest, r (w x ++ rest) = some (x, rest)) : readMany r l.length (l.flatMap w ++ rest) = some (l, rest) := by
  induction l generalizing rest with
  | nil => rfl
  | cons x xs ih =>
    simp only [List.length_cons, readMany, List.flatMap_cons, List.append_assoc, bind, StateT.bind, h x List.mem_cons_self, Option.bind]
    rw [ih rest (fun y hy => h y (List.mem_cons_of_mem _ hy))]; rfl

/-- A list whose entries read back does so. -/
theorem readList_ok {α : Type} (r : Reader α) (w : α → List Byte) (l : List α) (rest : List Byte) (hl : fitsList l = true)
    (h : ∀ x ∈ l, ∀ rest, r (w x ++ rest) = some (x, rest)) : readList r (listBytes w l ++ rest) = some (l, rest) := by
  simp only [fitsList, decide_eq_true_eq] at hl
  have := readU_ok 1 l.length (l.flatMap w ++ rest) (by simp [fits]; omega)
  simp [readList, listBytes, bind, StateT.bind, this, readMany_ok r w l rest h]

/-- An optional field reads back. -/
theorem readOpt_ok (n : Nat) (x : Option Nat) (rest : List Byte) (h : fitsOpt n x = true) :
    readOpt (readU n) (optBytes (natBytes n) x ++ rest) = some (x, rest) := by
  cases x with
  | none =>
    have := readU_ok 1 0 rest (by decide)
    simp [readOpt, optBytes, bind, StateT.bind, this]; rfl
  | some v =>
    have := readU_ok 1 1 (natBytes n v ++ rest) (by decide)
    simp [readOpt, optBytes, bind, StateT.bind, this, readU_ok n v rest h]; rfl

/-- A field reads back where the mask selects it, and is its default elsewhere. -/
theorem readSel_ok {α : Type} (mask : BitVec 16) (bit : Nat) (d : α) (r : Reader α) (w : List Byte) (x : α) (rest : List Byte)
    (h : r (w ++ rest) = some (x, rest)) (hd : mask.getLsbD bit = false → x = d) :
    readSel mask bit d r (selBytes mask bit w ++ rest) = some (x, rest) := by
  unfold readSel selBytes
  cases hb : mask.getLsbD bit with
  | true => simpa using h
  | false => simp [hd hb, pure, StateT.pure]

/-- A slide entry reads back (R196). -/
theorem readSlide_ok (q : SlideReq) (rest : List Byte) (h : q.wellFormed = true) : readSlide (q.bytes ++ rest) = some (q, rest) := by
  obtain ⟨cat, cap, adj⟩ := q
  simp only [SlideReq.wellFormed, Bool.and_eq_true] at h
  obtain ⟨⟨h1,h2⟩,h3⟩ := h
  have f0 := fun rest => readU_ok 1 0 rest (by decide)
  have f1 := fun rest => readU_ok 1 1 rest (by decide)
  have f2 := fun rest => readU_ok 1 2 rest (by decide)
  have f3 := fun rest => readU_ok 1 3 rest (by decide)
  have g := fun rest => readU_ok 3 cat rest h1
  cases cap with
  | none => cases adj with
    | none => simp [SlideReq.bytes, readSlide, bind, StateT.bind, g, f0]; rfl
    | some v => simp [SlideReq.bytes, readSlide, bind, StateT.bind, g, f2, pure, StateT.pure, readI_ok 1 v _ (by decide) h2, Functor.map, StateT.map]
  | some c => cases adj with
    | none => simp [SlideReq.bytes, readSlide, bind, StateT.bind, g, f1, pure, StateT.pure, readText_ok c _ h3, Functor.map, StateT.map]
    | some v => simp [SlideReq.bytes, readSlide, bind, StateT.bind, g, f3, pure, StateT.pure, readI_ok 1 v _ (by decide) h2, readText_ok c _ h3, Functor.map, StateT.map]

/-- The first field of a chain of fields is read and the others go on behind it. -/
theorem bind_ok {α β : Type} (r : Reader α) (f : α → Reader β) (w rest : List Byte) (x : α) (h : r (w ++ rest) = some (x, rest)) :
    (r >>= f) (w ++ rest) = f x rest := by simp [bind, StateT.bind, h]

/-- The body of PLACE ORDER reads back (R196). -/
theorem readPlace_ok (q : PlaceReq) (rest : List Byte) (h : q.wellFormed = true) : readPlace (q.bytes ++ rest) = some (q, rest) := by
  obtain ⟨number, account, lecturer, cls, stock, n, spacing, offset, magn, title, slides⟩ := q
  simp only [PlaceReq.wellFormed, Bool.and_eq_true] at h
  obtain ⟨⟨⟨⟨⟨⟨⟨⟨⟨⟨⟨h1,h2⟩,h3⟩,h4⟩,h5⟩,h6⟩,h7⟩,h8⟩,h9⟩,h10⟩,h11⟩,h12⟩ := h
  simp only [PlaceReq.bytes, List.append_assoc, readPlace]
  rw [bind_ok _ _ _ _ _ (readU_ok 2 _ _ h1), bind_ok _ _ _ _ _ (readU_ok 2 _ _ h2), bind_ok _ _ _ _ _ (readU_ok 2 _ _ h3),
    bind_ok _ _ _ _ _ (readU_ok 1 _ _ h4), bind_ok _ _ _ _ _ (readU_ok 1 _ _ h5), bind_ok _ _ _ _ _ (readU_ok 1 _ _ h6),
    bind_ok _ _ _ _ _ (readU_ok 1 _ _ h7), bind_ok _ _ _ _ _ (readI_ok 1 _ _ (by decide) h8), bind_ok _ _ _ _ _ (readU_ok 1 _ _ h9),
    bind_ok _ _ _ _ _ (readText_ok _ _ h10), bind_ok _ _ _ _ _ (readList_ok readSlide SlideReq.bytes _ _ h11 (fun x hx rest => readSlide_ok x rest (by simpa using (List.all_eq_true.1 h12 x hx))))]
  rfl

/-- A mask is the value of its two bytes. -/
theorem mask_ok (mask : BitVec 16) : BitVec.ofNat 16 mask.toNat = mask := by simp
/-- A mask fits two bytes. -/
theorem fits_mask (mask : BitVec 16) : fits 2 mask.toNat = true := by simp [fits]; exact mask.isLt
/-- A well-formed field the mask does not select is at its default. -/
theorem default_of {α : Type} {m : BitVec 16} {b : Nat} {p : Bool} {x d : α} (h : maskedOut m b p = true) (hp : p = true → x = d) : m.getLsbD b = false → x = d := by
  intro hb; simp only [maskedOut, hb, Bool.false_or] at h; exact hp h

/-- The body of AMEND ORDER reads back (R194). -/
theorem readAmend_ok (q : AmendReq) (rest : List Byte) (h : q.wellFormed = true) : readAmend (q.bytes ++ rest) = some (q, rest) := by
  obtain ⟨number, mask, cls, n, spacing, offset, magn, account, lecturer, title⟩ := q
  simp only [AmendReq.wellFormed, Bool.and_eq_true] at h
  obtain ⟨⟨⟨⟨⟨⟨⟨⟨⟨⟨⟨⟨⟨⟨⟨⟨h1,h2⟩,h3⟩,h4⟩,h5⟩,h6⟩,h7⟩,h8⟩,h9⟩,m0⟩,m1⟩,m2⟩,m3⟩,m4⟩,m5⟩,m6⟩,m7⟩ := h
  simp only [AmendReq.bytes, List.append_assoc, readAmend]
  rw [bind_ok _ _ _ _ _ (readU_ok 2 _ _ h1), bind_ok _ _ _ _ _ (readU_ok 2 _ _ (fits_mask mask))]
  simp only [mask_ok]
  rw [bind_ok _ _ _ _ _ (readSel_ok mask 0 0 _ _ _ _ (readU_ok 1 _ _ h2) (default_of m0 (by simp))),
    bind_ok _ _ _ _ _ (readSel_ok mask 1 0 _ _ _ _ (readU_ok 1 _ _ h3) (default_of m1 (by simp))),
    bind_ok _ _ _ _ _ (readSel_ok mask 2 0 _ _ _ _ (readU_ok 1 _ _ h4) (default_of m2 (by simp))),
    bind_ok _ _ _ _ _ (readSel_ok mask 3 0 _ _ _ _ (readI_ok 1 _ _ (by decide) h5) (default_of m3 (by simp))),
    bind_ok _ _ _ _ _ (readSel_ok mask 4 0 _ _ _ _ (readU_ok 1 _ _ h6) (default_of m4 (by simp))),
    bind_ok _ _ _ _ _ (readSel_ok mask 5 0 _ _ _ _ (readU_ok 2 _ _ h7) (default_of m5 (by simp))),
    bind_ok _ _ _ _ _ (readSel_ok mask 6 0 _ _ _ _ (readU_ok 2 _ _ h8) (default_of m6 (by simp))),
    bind_ok _ _ _ _ _ (readSel_ok mask 7 [] _ _ _ _ (readText_ok _ _ h9) (default_of m7 (by simp)))]
  rfl

/-- The body of SET STAND reads back (R116). -/
theorem readStand_ok (q : StandReq) (rest : List Byte) (h : q.wellFormed = true) : readStand (q.bytes ++ rest) = some (q, rest) := by
  obtain ⟨mask, a, b, c, d, e, f⟩ := q
  simp only [StandReq.wellFormed, Bool.and_eq_true] at h
  obtain ⟨⟨⟨⟨⟨⟨⟨⟨⟨⟨⟨h1,h2⟩,h3⟩,h4⟩,h5⟩,h6⟩,m0⟩,m1⟩,m2⟩,m3⟩,m4⟩,m5⟩ := h
  simp only [StandReq.bytes, List.append_assoc, Sys2Proof.readStand]
  rw [bind_ok _ _ _ _ _ (readU_ok 2 _ _ (fits_mask mask))]
  simp only [mask_ok]
  rw [bind_ok _ _ _ _ _ (readSel_ok mask 0 0 _ _ _ _ (readU_ok 2 _ _ h1) (default_of m0 (by simp))),
    bind_ok _ _ _ _ _ (readSel_ok mask 1 0 _ _ _ _ (readU_ok 2 _ _ h2) (default_of m1 (by simp))),
    bind_ok _ _ _ _ _ (readSel_ok mask 2 0 _ _ _ _ (readU_ok 1 _ _ h3) (default_of m2 (by simp))),
    bind_ok _ _ _ _ _ (readSel_ok mask 3 0 _ _ _ _ (readU_ok 1 _ _ h4) (default_of m3 (by simp))),
    bind_ok _ _ _ _ _ (readSel_ok mask 4 0 _ _ _ _ (readU_ok 1 _ _ h5) (default_of m4 (by simp))),
    bind_ok _ _ _ _ _ (readSel_ok mask 5 0 _ _ _ _ (readU_ok 2 _ _ h6) (default_of m5 (by simp)))]
  rfl

/-- The body of SET COUNTER reads back (R179). -/
theorem readCounter_ok (q : CounterReq) (rest : List Byte) (h : q.wellFormed = true) : readCounter (q.bytes ++ rest) = some (q, rest) := by
  obtain ⟨k, mask, a, b, c, d, e, f, g, i, j⟩ := q
  simp only [CounterReq.wellFormed, Bool.and_eq_true] at h
  obtain ⟨⟨⟨⟨⟨⟨⟨⟨⟨⟨⟨⟨⟨⟨⟨⟨⟨⟨h1,h2⟩,h3⟩,h4⟩,h5⟩,h6⟩,h7⟩,h8⟩,h9⟩,h10⟩,m0⟩,m1⟩,m2⟩,m3⟩,m4⟩,m5⟩,m6⟩,m7⟩,m8⟩ := h
  simp only [CounterReq.bytes, List.append_assoc, readCounter]
  rw [bind_ok _ _ _ _ _ (readU_ok 1 _ _ h1), bind_ok _ _ _ _ _ (readU_ok 2 _ _ (fits_mask mask))]
  simp only [mask_ok]
  rw [bind_ok _ _ _ _ _ (readSel_ok mask 0 0 _ _ _ _ (readU_ok 1 _ _ h2) (default_of m0 (by simp))),
    bind_ok _ _ _ _ _ (readSel_ok mask 1 0 _ _ _ _ (readU_ok 1 _ _ h3) (default_of m1 (by simp))),
    bind_ok _ _ _ _ _ (readSel_ok mask 2 0 _ _ _ _ (readU_ok 2 _ _ h4) (default_of m2 (by simp))),
    bind_ok _ _ _ _ _ (readSel_ok mask 3 0 _ _ _ _ (readU_ok 2 _ _ h5) (default_of m3 (by simp))),
    bind_ok _ _ _ _ _ (readSel_ok mask 4 0 _ _ _ _ (readU_ok 1 _ _ h6) (default_of m4 (by simp))),
    bind_ok _ _ _ _ _ (readSel_ok mask 5 none _ _ _ _ (readOpt_ok 4 _ _ h7) (default_of m5 (by simp))),
    bind_ok _ _ _ _ _ (readSel_ok mask 6 none _ _ _ _ (readOpt_ok 4 _ _ h8) (default_of m6 (by simp))),
    bind_ok _ _ _ _ _ (readSel_ok mask 7 0 _ _ _ _ (readU_ok 4 _ _ h9) (default_of m7 (by simp))),
    bind_ok _ _ _ _ _ (readSel_ok mask 8 0 _ _ _ _ (readU_ok 4 _ _ h10) (default_of m8 (by simp)))]
  rfl

/-- A selection entry reads back (R131). -/
theorem readSelect_ok (q : SelectReq) (rest : List Byte) (h : q.wellFormed = true) : readSelectEntry (q.bytes ++ rest) = some (q, rest) := by
  obtain ⟨a,b,c⟩ := q
  simp only [SelectReq.wellFormed, Bool.and_eq_true] at h
  obtain ⟨⟨⟨h1,h2⟩,h3⟩,h4⟩ := h
  simp only [SelectReq.bytes, List.append_assoc, readSelectEntry]
  rw [bind_ok _ _ _ _ _ (readU_ok 1 _ _ h1), bind_ok _ _ _ _ _ (readU_ok 1 _ _ h2)]
  by_cases hb : b = 0
  · subst hb; simp only [if_true]; rw [bind_ok _ _ _ _ _ (readI_ok 1 _ _ (by decide) h3)]; rfl
  · simp [hb] at h4; subst h4; simp [hb, bind, StateT.bind]; rfl

/-- The body of SET STOCK reads back (R29). -/
theorem readStock_ok (q : StockReq) (rest : List Byte) (h : q.wellFormed = true) : readStock (q.bytes ++ rest) = some (q, rest) := by
  obtain ⟨a,b,c,d,e,f,g⟩ := q
  simp only [StockReq.wellFormed, Bool.and_eq_true] at h
  obtain ⟨⟨⟨⟨⟨⟨h1,h2⟩,h3⟩,h4⟩,h5⟩,h6⟩,h7⟩ := h
  simp only [StockReq.bytes, List.append_assoc, readStock]
  rw [bind_ok _ _ _ _ _ (readU_ok 1 _ _ h1), bind_ok _ _ _ _ _ (readU_ok 1 _ _ h2), bind_ok _ _ _ _ _ (readText_ok _ _ h3), bind_ok _ _ _ _ _ (readU_ok 1 _ _ h4),
    bind_ok _ _ _ _ _ (readU_ok 1 _ _ h5), bind_ok _ _ _ _ _ (readU_ok 1 _ _ h6), bind_ok _ _ _ _ _ (readU_ok 2 _ _ h7)]
  rfl

/-- A MAP TRAY entry reads back (R68). -/
theorem readTray_ok (q : TrayReq) (rest : List Byte) (h : (fits 1 q.pos && fits 3 q.cat) = true) : readTrayEntry ((natBytes 1 q.pos ++ natBytes 3 q.cat) ++ rest) = some (q, rest) := by
  simp only [Bool.and_eq_true] at h
  simp only [List.append_assoc, readTrayEntry]
  rw [bind_ok _ _ _ _ _ (readU_ok 1 _ _ h.1), bind_ok _ _ _ _ _ (readU_ok 3 _ _ h.2)]
  rfl

/-- A reader that leaves nothing over reads the body whole (R192). -/
theorem whole_of {α : Type} (r : Reader α) (w : List Byte) (x : α) (h : r (w ++ []) = some (x, [])) : readWhole r w = some x := by
  rw [List.append_nil] at h; simp [readWhole, h]

/-- A field and the fields after it read back. -/
theorem then_ok {α β : Type} (f : α → β) (r : Reader α) (w rest : List Byte) (x : α) (h : r (w ++ rest) = some (x, rest)) :
    readThen f r (w ++ rest) = some (f x, rest) := by unfold readThen; rw [bind_ok _ _ _ _ _ h]; rfl
/-- Two fields read back. -/
theorem two_ok {α β γ : Type} (f : α → β → γ) (r : Reader α) (t : Reader β) (w v rest : List Byte) (x : α) (y : β)
    (h : r (w ++ (v ++ rest)) = some (x, v ++ rest)) (k : t (v ++ rest) = some (y, rest)) :
    readTwo f r t ((w ++ v) ++ rest) = some (f x y, rest) := by
  unfold readTwo; rw [List.append_assoc, bind_ok _ _ _ _ _ h, bind_ok _ _ _ _ _ k]; rfl

end Sys2Proof
end

