-- ==== Sys2Proof/Laws/Steps.lean ====
section
/-! SUPPORT. What each command can change, said once. `OwnMove` is one change that a command makes itself, with the tests it is
made under; `owns` lists the kinds of such changes each command can make; `exec_steps` says that what a command does is a
chain of its own changes and of the moves of `Sys2Proof.Laws.Moves`. A property of the state that the changes of a command and the
moves keep is kept by the command: `Steps.keeps`. -/

namespace Sys2Proof.Machine

/-- The kinds of change a command makes itself. -/
inductive Own where
  | place | amend | floor | stock | original | range | pointer | map | tray | gate | load | unload | settings | date | rates
  | counter | lock | period | link | free | power
deriving DecidableEq, Repr

/-- What the desk link's own changes keep: the rate, and what `LinkSound` says of the slot, the HELD request and the line. -/
def LinkKept (x y : Link) : Prop :=
  y.rate = x.rate ∧ y.notices.length ≤ x.notices.length
    ∧ ((∀ r ∈ x.slot, 1 ≤ r.count ∧ r.count ≤ 255) → ∀ r ∈ y.slot, 1 ≤ r.count ∧ r.count ≤ 255)
    ∧ ((x.held.isSome = true → x.reply.isSome = true) → y.held.isSome = true → y.reply.isSome = true)
    ∧ ((x.sendsReply = true → x.reply.isSome = true) → y.sendsReply = true → y.reply.isSome = true)

/-- One change that a command makes itself. -/
inductive OwnMove : Own → State → State → Prop where
  | place (q : PlaceReq) (s : State) (h : placeRefusal q s = none) :
      OwnMove .place s (s.onWork fun w =>
        { w with orders := insertBy (fun a b => decide (a.seq < b.seq)) (placedOrder q w.placeSeq) w.orders,
                 placeSeq := nextSeq w.placeSeq })
  | amend (q : AmendReq) (s : State) (h : amendRefusal q s = none) : OwnMove .amend s (s.onOrder q.number (amended q))
  | floor (v : Nat) (s : State) (h : v ≤ 15) : OwnMove .floor s (s.onWork fun w => { w with floor := v })
  | stock (k : Nat) (e : StockEntry) (s : State) : OwnMove .stock s (s.onStocks fun v => v.setIfInBounds k e)
  | setOriginal (cat mode : Nat) (p : Int) (fixed : Option Nat) (m : ProfileMode) (c : SlotChoice) (s : State)
      (h : setProfileRange cat mode p fixed = none) (hm : modeOf? mode = some m) (hc : s.profiles.choose cat = some c) :
      OwnMove .original s (s.onProfiles fun _ => c.table.setOriginal c.slot (some (c.entry cat m p fixed)))
  | dropOriginal (k : Nat) (s : State) : OwnMove .original s (s.onProfiles fun t => t.setOriginal k none)
  | setRange (slot base exponent : Nat) (p : Int) (s : State) (h : setRangeRefusal slot base exponent p = none) :
      OwnMove .range s (s.onProfiles fun t => t.setRange slot (some { base := base, exponent := exponent, p := p }))
  | dropRange (k : Nat) (s : State) : OwnMove .range s (s.onProfiles fun t => t.setRange k none)
  | pointer (slot : Nat) (s : State) (h : slot ≤ 47 ∨ slot = Config.pointerOff) :
      OwnMove .pointer s (s.onProfiles fun t => { t with pointer := pointerOf slot })
  | map (e : TrayReq) (s : State) (h : trayResult s e = .done) (hp : s.feeder.present = true) :
      OwnMove .map s (s.onFeeder fun f => { f with map := f.map.setIfInBounds e.pos (mappedNumber e) })
  | trayOut (s : State) :
      OwnMove .tray s (s.onFeeder fun f => { f with present := false, map := Vector.replicate 80 none, pos := none })
  | trayIn (s : State) : OwnMove .tray s (s.onFeeder fun f => { f with present := true })
  | gateOn (f : Feeder → Feeder) (s : State)
      (h : (f s.feeder).map = s.feeder.map ∧ (f s.feeder).present = s.feeder.present ∧ (f s.feeder).gateSense = true
        ∧ (f s.feeder).gate ≠ .empty) : OwnMove .gate s (s.onFeeder f)
  | gateOff (f : Feeder → Feeder) (s : State)
      (h : ((f s.feeder).map = s.feeder.map ∨ ∃ p, (f s.feeder).map = s.feeder.map.setIfInBounds p none)
        ∧ (f s.feeder).present = s.feeder.present ∧ (f s.feeder).gateSense = false ∧ (f s.feeder).gate = .empty) :
      OwnMove .gate s (s.onFeeder f)
  | load (b : BackId) (roll stock declared : Nat) (st : BackState) (s : State) (h : loadRefusal b roll stock declared s = none)
      (hst : st ≠ .empty) : OwnMove .load s ((putRoll b roll stock declared s).onBack b fun k => { k with state := st })
  | unload (b : BackId) (slot : Nat) (kind : UnloadKind) (r : Roll) (s : State) (hr : (s.back b).roll = some r)
      (hs : freeSlot? s = some slot) :
      OwnMove .unload s
        ((((s.onRegister fun v => v.setIfInBounds slot (some (r.unloaded s.film.unloadSeq kind))).onFilm
          fun m => { m with unloadSeq := nextSeq m.unloadSeq }).onBack b
            fun k => { k with roll := none, gateFrame := .fresh, leaderLeft := 0 }).onBack b fun k => { k with state := .empty })
  | clear (b : BackId) (s : State) (hr : (s.back b).roll = none) :
      OwnMove .unload s
        ((s.onBack b fun k => { k with roll := none, gateFrame := .fresh, leaderLeft := 0 }).onBack b
          fun k => { k with state := .empty })
  | settings (q : StandReq) (s : State) (h : okStand q = true) :
      OwnMove .settings s (s.onStand fun t => { t with settings := setSettings q t.settings })
  | date (v : Nat) (s : State) (h : v ≤ 65535) : OwnMove .date s (s.onLabels fun u => { u with date := v })
  | rates (m t c : Nat) (s : State) (h : m ≤ 9999 ∧ 8 ≤ t ∧ t ≤ 15 ∧ c ≤ 9999) :
      OwnMove .rates s (s.onTally fun x => { x with mountRate := m, rushClass := t, surcharge := c })
  | counter (q : CounterReq) (s : State) (h : setCounterRefusal q (counterAt s.tally.counters q.counter) = none) :
      OwnMove .counter s (s.onTally fun t =>
        { t with counters := t.counters.setIfInBounds q.counter (setCounter q (counterAt t.counters q.counter)) })
  | lock (k : Nat) (s : State) :
      OwnMove .lock s (s.onTally fun t =>
        { t with counters := t.counters.setIfInBounds k { counterAt t.counters k with locked := true } })
  | period (s : State) :
      OwnMove .period s (s.onTally fun t =>
        { t with counters := mapVec Counter.closed t.counters, period := (t.period + 1) % 65536 })
  | link (f : Link → Link) (s : State) (h : LinkKept s.link (f s.link)) : OwnMove .link s (s.onLink f)
  | free (s : State) : OwnMove .free s s.useFree
  | power (strap1 strap0 tray gate : Bool) (s : State) : OwnMove .power s (powerOnEvent strap1 strap0 tray gate s)

/-- A chain of moves and of own changes of the kinds listed. -/
def Steps (os : List Own) : State → State → Prop :=
  Relation.ReflTransGen fun a b => Move a b ∨ ∃ o ∈ os, OwnMove o a b

/-- A property that each move and each own change of the kinds listed keeps is kept by a chain of them. -/
theorem Steps.keeps {os : List Own} {P : State → Prop} (hm : ∀ a b, Move a b → P a → P b)
    (ho : ∀ o ∈ os, ∀ a b, OwnMove o a b → P a → P b) {s t : State} (h : Steps os s t) (hs : P s) : P t := by
  induction h with
  | refl => exact hs
  | tail _ hstep ih =>
    rcases hstep with h1 | ⟨o, hmem, h1⟩
    · exact hm _ _ h1 ih
    · exact ho o hmem _ _ h1 ih

theorem Steps.refl {os : List Own} (s : State) : Steps os s s := Relation.ReflTransGen.refl

theorem Steps.trans {os : List Own} {a b c : State} (h : Steps os a b) (k : Steps os b c) : Steps os a c :=
  Relation.ReflTransGen.trans h k

theorem Steps.mono {os ps : List Own} (hsub : ∀ o ∈ os, o ∈ ps) {a b : State} (h : Steps os a b) : Steps ps a b := by
  induction h with
  | refl => exact .refl _
  | tail _ hstep ih =>
    refine Relation.ReflTransGen.tail ih ?_
    rcases hstep with h1 | ⟨o, hmem, h1⟩
    · exact .inl h1
    · exact .inr ⟨o, hsub o hmem, h1⟩

theorem Moves.steps {os : List Own} {a b : State} (h : Moves a b) : Steps os a b := by
  induction h with
  | refl => exact .refl _
  | tail _ hstep ih => exact Relation.ReflTransGen.tail ih (.inl hstep)

theorem OwnMove.steps {os : List Own} {o : Own} {a b : State} (h : OwnMove o a b) (ho : o ∈ os) : Steps os a b :=
  Relation.ReflTransGen.single (.inr ⟨o, ho, h⟩)

/-! ## Requests -/

/-- The kinds of change the block that answers a request makes itself. -/
def requestOwns : Request → List Own
  | .placeOrder _ => [.place]
  | .amendOrder _ => [.amend]
  | .setFloor _ => [.floor]
  | .setStock _ => [.stock]
  | .setProfile _ _ _ _ => [.original]
  | .setRange _ _ _ _ => [.range]
  | .dropProfile _ _ => [.original, .range]
  | .setPlacement _ => [.pointer]
  | .mapTray _ => [.map]
  | .readHead => [.free]
  | .loadRoll _ _ _ _ => [.load]
  | .unloadBack _ => [.unload]
  | .clearBack _ => [.unload]
  | .setStand _ => [.settings]
  | .setDate _ => [.date]
  | .setRates _ _ _ => [.rates]
  | .setCounter _ => [.counter]
  | .lockCounter _ => [.lock]
  | .closePeriod => [.period]
  | .cancelOrder _ | .holdOrder _ | .releaseOrder _ | .readOrder _ _ | .readStock | .readProfileTable _ _
  | .readProfileLookup _ | .readTray _ | .rewindBack _ | .readBack | .startStand | .stopStand | .abortSlide | .resetStand
  | .readStand | .reportSelections _ _ | .closeRoll _ _ | .readRoll _ _ | .readFrames _ _ | .printLabels _
  | .pausePrinter | .resumePrinter | .relabel _ _ | .readLabelsLine _ | .readLabelsRecord _ _ | .adjustAccount _ _
  | .readCounters _ => []

/-- A refused request leaves the state, an accepted one has its effect. -/
theorem answer_steps {os : List Own} (kind : Nat) (refusal : Option Code) (s : State) (tr : Bool) (fields : List Field)
    (after : State) (h : refusal = none → Steps os s after) : Steps os s (answer kind refusal s tr fields after).1 := by
  unfold answer
  split
  · exact .refl s
  · exact h rfl

theorem firstFailing_none {l : List (Bool × Code)} (h : firstFailing l = none) : ∀ x ∈ l, x.1 = true := by
  induction l with
  | nil => simp
  | cons x xs ih =>
    obtain ⟨ok, code⟩ := x
    unfold firstFailing at h
    cases ok <;> simp_all

theorem answerPlaceOrder_steps (q : PlaceReq) (s : State) : Steps [.place] s (answerPlaceOrder q s).1 :=
  answer_steps _ _ s _ _ _ fun h =>
    ((OwnMove.place q s h).steps (by simp)).trans ((Move.notice _ _).one.trans (eventEnd_moves _ _ _)).steps

theorem amendEffect_steps (q : AmendReq) (s : State) (h : amendRefusal q s = none) : Steps [.amend] s (amendEffect q s) := by
  have h1 : Steps [.amend] s (s.onOrder q.number (amended q)) := (OwnMove.amend q s h).steps (by simp)
  unfold amendEffect
  simp only
  split
  · exact h1.trans (releaseOne_moves _ _).steps
  · exact h1

theorem answerAmendOrder_steps (q : AmendReq) (s : State) : Steps [.amend] s (answerAmendOrder q s).1 :=
  answer_steps _ _ s _ _ _ fun h => (amendEffect_steps q s h).trans (eventEnd_moves _ _ _).steps

theorem answerCancelOrder_steps (n : Nat) (s : State) : Steps [] s (answerCancelOrder n s).1 :=
  answer_steps _ _ s _ _ _ fun _ => by
    refine (Moves.trans ?_ (eventEnd_moves _ _ _)).steps
    unfold cancelRequestEffect
    split
    · exact (Move.order _ _ _ (by exact fun _ => ⟨rfl, rfl, rfl⟩)).one
    · exact cancelEffect_moves _ s

theorem answerHoldOrder_steps (n : Nat) (s : State) : Steps [] s (answerHoldOrder n s).1 :=
  answer_steps _ _ s _ _ _ fun _ => by
    refine (Moves.trans ?_ (eventEnd_moves _ _ _)).steps
    unfold holdRequestEffect
    split
    · exact (Move.order _ _ _ (by exact fun _ => ⟨rfl, rfl, rfl⟩)).one
    · exact holdWith_moves _ _ s

theorem answerReleaseOrder_steps (n : Nat) (s : State) : Steps [] s (answerReleaseOrder n s).1 :=
  answer_steps _ _ s _ _ _ fun _ => by
    refine (Moves.trans ?_ (eventEnd_moves _ _ _)).steps
    unfold releaseRequestEffect
    split
    · exact releaseOne_moves _ s
    · exact (Move.order _ _ _ (by exact fun _ => ⟨rfl, rfl, rfl⟩)).one

theorem answerSetFloor_steps (v : Nat) (s : State) : Steps [.floor] s (answerSetFloor v s).1 :=
  answer_steps _ _ s _ _ _ fun h =>
    ((OwnMove.floor v s (by simpa using firstFailing_none h)).steps (by simp)).trans (eventEnd_moves _ _ _).steps

theorem answerReadOrder_steps (n i : Nat) (s : State) : Steps [] s (answerReadOrder n i s).1 := by
  unfold answerReadOrder
  split
  · exact answer_steps _ _ s _ _ _ fun _ => .refl s
  · split <;> exact answer_steps _ _ s _ _ _ fun _ => .refl s

theorem answerSetStock_steps (q : StockReq) (s : State) : Steps [.stock] s (answerSetStock q s).1 :=
  answer_steps _ _ s _ _ _ fun _ => (OwnMove.stock q.stock (storedEntry q) s).steps (by simp)

theorem answerSetProfile_steps (c m : Nat) (p : Int) (f : Option Nat) (s : State) :
    Steps [.original] s (answerSetProfile c m p f s).1 := by
  unfold answerSetProfile
  split
  · exact answer_steps _ _ s _ _ _ fun _ => .refl s
  · rename_i h1 h2 h3
    exact answer_steps _ _ s _ _ _ fun _ => (OwnMove.setOriginal c m p f _ _ s h1 h2 h3).steps (by simp)
  · exact answer_steps _ _ s _ _ _ fun _ => .refl s

theorem answerSetRange_steps (k b e : Nat) (p : Int) (s : State) : Steps [.range] s (answerSetRange k b e p s).1 :=
  answer_steps _ _ s _ _ _ fun h => (OwnMove.setRange k b e p s h).steps (by simp)

theorem answerDropProfile_steps (t k : Nat) (s : State) : Steps [.original, .range] s (answerDropProfile t k s).1 :=
  answer_steps _ _ s _ _ _ fun _ => by
    by_cases h : t = 0
    · have := (OwnMove.dropOriginal k s).steps (os := [.original, .range]) (by simp)
      simpa [dropSlot, h, State.onProfiles] using this
    · have := (OwnMove.dropRange k s).steps (os := [.original, .range]) (by simp)
      simpa [dropSlot, h, State.onProfiles] using this

theorem answerSetPlacement_steps (k : Nat) (s : State) : Steps [.pointer] s (answerSetPlacement k s).1 :=
  answer_steps _ _ s _ _ _ fun h =>
    (OwnMove.pointer k s (by simpa using firstFailing_none h)).steps (by simp)

theorem answerReadProfileTable_steps (t k : Nat) (s : State) : Steps [] s (answerReadProfileTable t k s).1 :=
  answer_steps _ _ s _ _ _ fun _ => .refl s

theorem answerReadProfileLookup_steps (c : Nat) (s : State) : Steps [] s (answerReadProfileLookup c s).1 :=
  answer_steps _ _ s _ _ _ fun _ => .refl s

theorem mapEntry_present (e : TrayReq) (s : State) : (mapEntry e s).feeder.present = s.feeder.present := by
  unfold mapEntry
  split <;> rfl

theorem mapEntries_steps (es : List TrayReq) (s : State) (h : s.feeder.present = true) :
    Steps [.map] s (mapEntries es s).1 := by
  induction es generalizing s with
  | nil => exact .refl s
  | cons e es ih =>
    have h1 : Steps [.map] s (mapEntry e s) := by
      unfold mapEntry
      split
      · rename_i hd; exact (OwnMove.map e s hd h).steps (by simp)
      · exact .refl s
    exact h1.trans (ih _ (by rw [mapEntry_present]; exact h))

theorem answerMapTray_steps (es : List TrayReq) (s : State) : Steps [.map] s (answerMapTray es s).1 :=
  answer_steps _ _ s _ _ _ fun h => by
    have hp : s.feeder.present = true := firstFailing_none h (s.feeder.present, .state) (by simp)
    exact (mapEntries_steps es s hp).trans ((releaseOriginal_moves _).trans (eventEnd_moves _ _ _)).steps

theorem answerReadTray_steps (f : Nat) (s : State) : Steps [] s (answerReadTray f s).1 :=
  answer_steps _ _ s _ _ _ fun _ => .refl s

theorem answerReadHead_steps (s : State) : Steps [.free] s (answerReadHead s).1 :=
  answer_steps _ _ s _ _ _ fun _ =>
    ((OwnMove.free s).steps (by simp)).trans ((OwnMove.free _).steps (by simp))

theorem onNamedBack_steps {os : List Own} (kind back : Nat) (s : State) (f : BackId → State × Msg)
    (h : ∀ b, Steps os s (f b).1) : Steps os s (onNamedBack kind back s f).1 := by
  unfold onNamedBack
  split
  · exact answer_steps _ _ s _ _ _ fun _ => .refl s
  · exact h _

@[simp] theorem putRoll_state (b : BackId) (roll stock declared : Nat) (s : State) :
    ((putRoll b roll stock declared s).back b).state = (s.back b).state := by cases b <;> rfl

theorem loadedBack_steps (b : BackId) (roll stock declared : Nat) (st : BackState) (s : State) (hst : st ≠ .empty)
    (h : loadRefusal b roll stock declared s = none) :
    Steps [.load] s (setBackState b st (putRoll b roll stock declared s)) := by
  have h1 := (OwnMove.load b roll stock declared st s h hst).steps (os := [.load]) (by simp)
  unfold setBackState
  simp only
  split
  · exact h1
  · exact h1.trans (Move.notice _ _).one.steps

theorem answerLoadRoll_steps (back roll stock declared : Nat) (s : State) :
    Steps [.load] s (answerLoadRoll back roll stock declared s).1 :=
  onNamedBack_steps _ _ s _ fun b => answer_steps _ _ s _ _ _ fun h => by
    refine Steps.trans ?_ (eventEnd_moves _ _ _).steps
    unfold loadEffect
    split
    · exact (loadedBack_steps b roll stock declared .ready s nofun h).trans (releaseFilm_moves _ _).steps
    · exact (loadedBack_steps b roll stock declared .leader s nofun h).trans (askAdvance_moves _ _ _ _).steps

theorem answerRewindBack_steps (back : Nat) (s : State) : Steps [] s (answerRewindBack back s).1 :=
  onNamedBack_steps _ _ s _ fun b => answer_steps _ _ s _ _ _ fun h => by
    have hw : (s.back b).state.canRewind = true := firstFailing_none h _ (List.mem_cons_self)
    refine ((setBackState_moves b .rewinding s ?_).trans (eventEnd_moves _ _ _)).steps
    constructor
    · intro he; cases he
    · intro he; rw [he] at hw; cases hw

theorem emptyBack_end (b : BackId) (s : State) :
    Moves ((s.onBack b fun k => { k with roll := none, gateFrame := .fresh, leaderLeft := 0 }).onBack b
      fun k => { k with state := .empty }) (emptyBack b s) := by
  unfold emptyBack setBackState
  simp only
  split
  · exact .refl _
  · exact (Move.notice _ _).one

theorem moveToRegister_steps (b : BackId) (slot : Nat) (kind : UnloadKind) (s : State) (h : freeSlot? s = some slot) :
    Steps [.unload] s (moveToRegister b slot kind s) := by
  unfold moveToRegister
  split
  · rename_i hr
    exact ((OwnMove.clear b s hr).steps (by simp)).trans (emptyBack_end b s).steps
  · rename_i r hr
    exact ((OwnMove.unload b slot kind r s hr h).steps (by simp)).trans
      ((emptyBack_end b _).trans (closeTest_moves _ _)).steps

theorem answerUnload_steps (code back : Nat) (b : BackId) (kind : UnloadKind) (refusal : Option Code) (s : State) :
    Steps [.unload] s (answerUnload code back b kind refusal s).1 := by
  unfold answerUnload
  split
  · exact answer_steps _ _ s _ _ _ fun _ => .refl s
  · exact answer_steps _ _ s _ _ _ fun _ => .refl s
  · rename_i hf
    exact answer_steps _ _ s _ _ _ fun _ => (moveToRegister_steps b _ kind s hf).trans (eventEnd_moves _ _ _).steps

theorem answerUnloadBack_steps (back : Nat) (s : State) : Steps [.unload] s (answerUnloadBack back s).1 :=
  onNamedBack_steps _ _ s _ fun b => answerUnload_steps _ _ b _ _ s

theorem answerClearBack_steps (back : Nat) (s : State) : Steps [.unload] s (answerClearBack back s).1 :=
  onNamedBack_steps _ _ s _ fun b => answerUnload_steps _ _ b _ _ s

theorem answerReadBack_steps (s : State) : Steps [] s (answerReadBack s).1 := answer_steps _ _ s _ _ _ fun _ => .refl s

theorem startEffect_moves (s : State) : Moves s (startEffect s) := by
  unfold startEffect
  refine Moves.trans ?_ (startIdle_moves _)
  refine Moves.trans ?_ (lampLight_moves _)
  have h1 : ∀ s, Moves s (startNd s) := fun s => by unfold startNd; split; exact askNd_moves _ _ s; exact .refl s
  have h2 : ∀ s, Moves s (startSwap s) := fun s => by unfold startSwap; split; exact askSwap_moves _ _ s; exact .refl s
  have h3 : ∀ s, Moves s (startHome s) := fun s => by unfold startHome; split; exact askJob_moves _ _ s; exact .refl s
  exact (((setStandMode_moves _ s).trans (h3 _)).trans (h2 _)).trans (h1 _)

theorem answerStartStand_steps (s : State) : Steps [] s (answerStartStand s).1 :=
  answer_steps _ _ s _ _ _ fun _ => ((startEffect_moves s).trans (eventEnd_moves _ _ _)).steps

theorem stopEffect_moves (s : State) : Moves s (stopEffect s) := by
  unfold stopEffect
  split
  · split
    · exact setStandMode_moves _ s
    · exact (setStandMode_moves _ s).trans (lampOff_moves _)
  · exact .refl s
  · exact lampOff_moves s
  · exact .refl s

theorem answerStopStand_steps (s : State) : Steps [] s (answerStopStand s).1 :=
  answer_steps _ _ s _ _ _ fun _ => ((stopEffect_moves s).trans (eventEnd_moves _ _ _)).steps

theorem answerAbortSlide_steps (s : State) : Steps [] s (answerAbortSlide s).1 :=
  answer_steps _ _ s _ _ _ fun _ => ((abort_moves _ _ s).trans (eventEnd_moves _ _ _)).steps

theorem emptyStack_moves (s : State) : Moves s (emptyStack s) := by
  have h1 : Moves s (s.onWork fun w => { w with stack := [] }) := by
    have := (Move.unstack (fun _ => false) s).one
    simpa using this
  exact h1.trans (Moves.foldl _ (fun s k => releaseOne_moves k s) _ _)

theorem resetEffect_moves (s : State) : Moves s (resetEffect s) := by
  unfold resetEffect
  have h1 : ∀ s, Moves s (resetFeeder s) := fun s =>
    (Move.feeder _ s ⟨rfl, rfl, rfl, .inl (by simp only; split <;> simp_all)⟩).one
  have h2 : ∀ s, Moves s (resetCycle s) := fun s => by
    unfold resetCycle
    split
    · exact .refl s
    · split
      · exact (setStandMode_moves _ s).trans (endCycle_moves _)
      · exact abort_moves _ _ s
  have h3 : ∀ s, Moves s (resetOps s) := fun s =>
    ((feederSame_moves _ s ⟨rfl, rfl, rfl, rfl⟩).trans (Move.head _ _).one).trans (Move.turret _ _ ⟨rfl, rfl, rfl, rfl⟩).one
  have h4 : ∀ s, Moves s (resetStand s) := fun s => (setStandMode_moves _ s).trans (Move.head _ _).one
  exact (((h1 s).trans (h2 _)).trans (h3 _)).trans ((emptyStack_moves _).trans (h4 _))

theorem answerResetStand_steps (s : State) : Steps [] s (answerResetStand s).1 :=
  answer_steps _ _ s _ _ _ fun _ => ((resetEffect_moves s).trans (eventEnd_moves _ _ _)).steps

theorem answerSetStand_steps (q : StandReq) (s : State) : Steps [.settings] s (answerSetStand q s).1 :=
  answer_steps _ _ s _ _ _ fun h =>
    ((OwnMove.settings q s (by simpa using firstFailing_none h)).steps (by simp)).trans (eventEnd_moves _ _ _).steps

theorem answerReadStand_steps (s : State) : Steps [] s (answerReadStand s).1 := answer_steps _ _ s _ _ _ fun _ => .refl s

theorem takeEntries_moves (slot : Nat) (es : List SelectReq) (s : State) : Moves s (takeEntries slot es s).1 := by
  induction es generalizing s with
  | nil => exact .refl s
  | cons e es ih => exact ((applyEntry_moves slot e s).trans (labelEventEnd_moves s _)).trans (ih _)

theorem answerReportSelections_steps (r : Nat) (es : List SelectReq) (s : State) :
    Steps [] s (answerReportSelections r es s).1 :=
  answer_steps _ _ s _ _ _ fun _ => ((takeEntries_moves _ es s).trans (closeTest_moves r _)).steps

theorem answerCloseRoll_steps (r d : Nat) (s : State) : Steps [] s (answerCloseRoll r d s).1 :=
  answer_steps _ _ s _ _ _ fun _ =>
    (((settleGroups_moves d _ s).trans (closeRoll_moves _ _ _)).trans (eventEnd_moves _ _ _)).steps

theorem answerReadRoll_steps (r i : Nat) (s : State) : Steps [] s (answerReadRoll r i s).1 := by
  unfold answerReadRoll
  split
  · exact answer_steps _ _ s _ _ _ fun _ => .refl s
  · split
    · exact answer_steps _ _ s _ _ _ fun _ => .refl s
    · split <;> exact answer_steps _ _ s _ _ _ fun _ => .refl s

theorem answerReadFrames_steps (r i : Nat) (s : State) : Steps [] s (answerReadFrames r i s).1 := by
  unfold answerReadFrames
  split
  · exact answer_steps _ _ s _ _ _ fun _ => .refl s
  · split <;> exact answer_steps _ _ s _ _ _ fun _ => .refl s

theorem resumeLine_moves (s : State) : Moves s (resumeLine s) := by
  unfold resumeLine
  split
  · exact transmit_moves _ s
  · exact labels_same_queue _ s ⟨rfl, rfl⟩

theorem printEffect_moves (c : Nat) (s : State) : Moves s (printEffect c s) := by
  have h1 : Moves s (s.onLabels fun u => { u with run := runOf c, pausePending := false }) := labels_same_queue _ s ⟨rfl, rfl⟩
  unfold printEffect
  simp only
  split
  · exact h1.trans (resumeLine_moves _)
  · exact h1

theorem answerPrintLabels_steps (c : Nat) (s : State) : Steps [] s (answerPrintLabels c s).1 :=
  answer_steps _ _ s _ _ _ fun _ => ((printEffect_moves c s).trans (printEnd_moves _ _)).steps

theorem answerPausePrinter_steps (s : State) : Steps [] s (answerPausePrinter s).1 :=
  answer_steps _ _ s _ _ _ fun _ => by
    refine (Moves.trans (labels_same_queue _ s ?_) (printEnd_moves _ _)).steps
    split <;> simp

theorem answerResumePrinter_steps (s : State) : Steps [] s (answerResumePrinter s).1 :=
  answer_steps _ _ s _ _ _ fun _ => ((resumeLine_moves s).trans (printEnd_moves _ _)).steps

theorem answerRelabel_steps (r f : Nat) (s : State) : Steps [] s (answerRelabel r f s).1 :=
  answer_steps _ _ s _ _ _ fun _ =>
    (((setLabelState_moves _ _ s).trans (fillQueue_moves _)).trans (printEnd_moves _ _)).steps

theorem answerSetDate_steps (d : Nat) (s : State) : Steps [.date] s (answerSetDate d s).1 :=
  answer_steps _ _ s _ _ _ fun h => (OwnMove.date d s (by simpa using firstFailing_none h)).steps (by simp)

theorem answerReadLabelsLine_steps (i : Nat) (s : State) : Steps [] s (answerReadLabelsLine i s).1 :=
  answer_steps _ _ s _ _ _ fun _ => .refl s

theorem answerReadLabelsRecord_steps (r f : Nat) (s : State) : Steps [] s (answerReadLabelsRecord r f s).1 := by
  unfold answerReadLabelsRecord
  split
  · exact answer_steps _ _ s _ _ _ fun _ => .refl s
  · split <;> exact answer_steps _ _ s _ _ _ fun _ => .refl s

theorem answerSetRates_steps (m t c : Nat) (s : State) : Steps [.rates] s (answerSetRates m t c s).1 :=
  answer_steps _ _ s _ _ _ fun h => by
    have h1 := firstFailing_none h _ (List.mem_cons_self)
    simp only [inNat, Bool.and_eq_true, decide_eq_true_eq] at h1
    exact ((OwnMove.rates m t c s ⟨h1.1.1, h1.1.2.1, h1.1.2.2, h1.2⟩).steps (by simp)).trans
      ((releaseCeiling_moves _).trans (eventEnd_moves _ _ _)).steps

theorem answerSetCounter_steps (q : CounterReq) (s : State) : Steps [.counter] s (answerSetCounter q s).1 :=
  answer_steps _ _ s _ _ _ fun h => by
    have h1 := (OwnMove.counter q s h).steps (os := [.counter]) (by simp)
    refine Steps.trans ?_ (eventEnd_moves _ _ _).steps
    unfold setCounterEffect
    simp only
    split
    · exact h1.trans (releaseCeiling_moves _).steps
    · exact h1

theorem answerLockCounter_steps (k : Nat) (s : State) : Steps [.lock] s (answerLockCounter k s).1 :=
  answer_steps _ _ s _ _ _ fun _ => (OwnMove.lock k s).steps (by simp)

theorem answerAdjustAccount_steps (a : Nat) (v : Int) (s : State) : Steps [] s (answerAdjustAccount a v s).1 :=
  answer_steps _ _ s _ _ _ fun _ => ((post_moves _ _ _ _ s).trans (eventEnd_moves _ _ _)).steps

theorem answerClosePeriod_steps (s : State) : Steps [.period] s (answerClosePeriod s).1 :=
  answer_steps _ _ s _ _ _ fun _ =>
    ((OwnMove.period s).steps (by simp)).trans ((releaseCeiling_moves _).trans (eventEnd_moves _ _ _)).steps

theorem answerReadCounters_steps (k : Nat) (s : State) : Steps [] s (answerReadCounters k s).1 :=
  answer_steps _ _ s _ _ _ fun _ => .refl s

/-- What answering a request can do. -/
theorem answerRequest_steps (r : Request) (s : State) : Steps (requestOwns r) s (answerRequest r s).1 := by
  cases r with
  | placeOrder q => exact answerPlaceOrder_steps q s
  | amendOrder q => exact answerAmendOrder_steps q s
  | cancelOrder n => exact answerCancelOrder_steps n s
  | holdOrder n => exact answerHoldOrder_steps n s
  | releaseOrder n => exact answerReleaseOrder_steps n s
  | setFloor v => exact answerSetFloor_steps v s
  | readOrder n i => exact answerReadOrder_steps n i s
  | setStock q => exact answerSetStock_steps q s
  | readStock => exact answer_steps _ _ s _ _ _ fun _ => .refl s
  | setProfile c m p f => exact answerSetProfile_steps c m p f s
  | setRange k b e p => exact answerSetRange_steps k b e p s
  | dropProfile t k => exact answerDropProfile_steps t k s
  | setPlacement k => exact answerSetPlacement_steps k s
  | readProfileTable t k => exact answerReadProfileTable_steps t k s
  | readProfileLookup c => exact answerReadProfileLookup_steps c s
  | mapTray es => exact answerMapTray_steps es s
  | readTray f => exact answerReadTray_steps f s
  | readHead => exact answerReadHead_steps s
  | loadRoll b r k f => exact answerLoadRoll_steps b r k f s
  | rewindBack b => exact answerRewindBack_steps b s
  | unloadBack b => exact answerUnloadBack_steps b s
  | clearBack b => exact answerClearBack_steps b s
  | readBack => exact answerReadBack_steps s
  | startStand => exact answerStartStand_steps s
  | stopStand => exact answerStopStand_steps s
  | abortSlide => exact answerAbortSlide_steps s
  | resetStand => exact answerResetStand_steps s
  | setStand q => exact answerSetStand_steps q s
  | readStand => exact answerReadStand_steps s
  | reportSelections r es => exact answerReportSelections_steps r es s
  | closeRoll r d => exact answerCloseRoll_steps r d s
  | readRoll r i => exact answerReadRoll_steps r i s
  | readFrames r i => exact answerReadFrames_steps r i s
  | printLabels c => exact answerPrintLabels_steps c s
  | pausePrinter => exact answerPausePrinter_steps s
  | resumePrinter => exact answerResumePrinter_steps s
  | relabel r f => exact answerRelabel_steps r f s
  | setDate d => exact answerSetDate_steps d s
  | readLabelsLine i => exact answerReadLabelsLine_steps i s
  | readLabelsRecord r f => exact answerReadLabelsRecord_steps r f s
  | setRates m t c => exact answerSetRates_steps m t c s
  | setCounter q => exact answerSetCounter_steps q s
  | lockCounter k => exact answerLockCounter_steps k s
  | adjustAccount a v => exact answerAdjustAccount_steps a v s
  | closePeriod => exact answerClosePeriod_steps s
  | readCounters k => exact answerReadCounters_steps k s

/-! ## The desk link -/

theorem link_steps {os : List Own} (f : Link → Link) (s : State) (h : LinkKept s.link (f s.link)) (ho : Own.link ∈ os) :
    Steps os s (s.onLink f) := (OwnMove.link f s h).steps ho

theorem placeReply_steps {os : List Own} (m : Msg) (s : State) (ho : Own.link ∈ os) : Steps os s (placeReply m s) :=
  link_steps _ s ⟨rfl, Nat.le_refl _, id, fun _ _ => rfl, fun _ _ => rfl⟩ ho

theorem takeRequest_steps {os : List Own} (r : Request) (s : State) (h : ∀ o ∈ (requestOwns r), o ∈ os) (ho : Own.link ∈ os) :
    Steps os s (takeRequest (.read r) s) :=
  ((answerRequest_steps r s).mono h).trans (placeReply_steps _ _ ho)

/-- Every kind of change: what an event that can take any request can do. -/
def Own.all : List Own :=
  [.place, .amend, .floor, .stock, .original, .range, .pointer, .map, .tray, .gate, .load, .unload, .settings, .date, .rates,
   .counter, .lock, .period, .link, .free, .power]

theorem Own.mem_all (o : Own) : o ∈ Own.all := by cases o <;> decide

theorem takeIncoming_steps (inc : Incoming) (s : State) : Steps Own.all s (takeRequest inc s) := by
  cases inc with
  | read r => exact takeRequest_steps r s (fun o _ => o.mem_all) (by decide)
  | refuse kind code => exact placeReply_steps _ s (by decide)

theorem reject_kept (l : Link) (reason : RejectReason) (kind : Byte) : LinkKept l { l.reject reason kind with rx := .hunting } := by
  refine ⟨rfl, Nat.le_refl _, ?_, id, id⟩
  intro h r hr
  simp only [Link.reject, Option.mem_some_iff] at hr
  cases hs : l.slot with
  | none => simp only [hs, Option.map_none, Option.getD_none] at hr; subst hr; simp
  | some x =>
    have hx := h x (by simp [hs])
    simp only [hs, Option.map_some, Option.getD_some] at hr
    subst hr
    simp only [Rejection.oneMore]
    omega

theorem rejectFrame_steps {os : List Own} (reason : RejectReason) (kind : Byte) (s : State) (ho : Own.link ∈ os) :
    Steps os s (rejectFrame reason kind s) := link_steps _ s (reject_kept _ _ _) ho

theorem hunting_steps {os : List Own} (s : State) (ho : Own.link ∈ os) :
    Steps os s (s.onLink fun l => { l with rx := .hunting }) := link_steps _ s ⟨rfl, Nat.le_refl _, id, id, id⟩ ho

theorem hold_steps {os : List Own} (inc : Incoming) (s : State) (h : s.link.reply.isSome = true) (ho : Own.link ∈ os) :
    Steps os s (s.onLink fun l => { l with held := some inc }) :=
  link_steps _ s ⟨rfl, Nat.le_refl _, id, fun _ _ => h, id⟩ ho

theorem offerRead_steps {os : List Own} (r : Request) (s : State) (h : ∀ o ∈ (requestOwns r), o ∈ os) (ho : Own.link ∈ os) :
    Steps os s (offerRequest (.read r) s) := by
  unfold offerRequest
  simp only
  split
  · exact (hunting_steps s ho).trans (takeRequest_steps r _ h ho)
  · rename_i hr
    exact (hunting_steps s ho).trans (hold_steps _ _ (by simpa [Option.isSome_iff_ne_none] using hr) ho)

theorem offerIncoming_steps (inc : Incoming) (s : State) : Steps Own.all s (offerRequest inc s) := by
  unfold offerRequest
  simp only
  split
  · exact (hunting_steps s (by decide)).trans (takeIncoming_steps inc _)
  · rename_i hr
    exact (hunting_steps s (by decide)).trans (hold_steps _ _ (by simpa [Option.isSome_iff_ne_none] using hr) (by decide))

theorem arrive_steps {os : List Own} (r : Request) (s : State) (h : ∀ o ∈ (requestOwns r), o ∈ os) (ho : Own.link ∈ os) :
    Steps os s (arrive r s) := by
  unfold arrive
  split
  · exact rejectFrame_steps _ _ s ho
  · exact offerRead_steps r s h ho

theorem testFrame_steps (kind : Byte) (body : List Byte) (check : Byte) (s : State) :
    Steps Own.all s (testFrame kind body check s) := by
  unfold testFrame
  split
  · exact rejectFrame_steps _ _ s (by decide)
  · split
    · exact rejectFrame_steps _ _ s (by decide)
    · split
      · exact offerIncoming_steps _ s
      · exact rejectFrame_steps _ _ s (by decide)

theorem frameEnds_steps {os : List Own} (received : State → State) (s : State) (h : Steps os s (received s))
    (ho : Own.link ∈ os) : Steps os s (frameEnds received s) := by
  unfold frameEnds
  split
  · exact .refl s
  · exact h
  · exact rejectFrame_steps _ _ s ho

theorem finishSending_steps (s : State) : Steps Own.all s (finishSending s) := by
  unfold finishSending
  split
  · exact .refl s
  · split
    · cases hh : s.link.held with
      | none =>
        simp only [takeHeld, onLink_link, hh]
        refine link_steps _ s ⟨rfl, Nat.le_refl _, id, fun _ h => ?_, fun _ h => ?_⟩ (by decide)
        · simp [hh] at h
        · simp [Link.sendsReply] at h
      | some inc =>
        simp only [takeHeld, onLink_link, hh]
        refine Steps.trans (b := s.onLink fun l => { l with sending := none, reply := none, held := none }) ?_
          (takeIncoming_steps inc _)
        refine link_steps _ s ⟨rfl, Nat.le_refl _, id, fun _ h => ?_, fun _ h => ?_⟩ (by decide)
        · simp at h
        · simp [Link.sendsReply] at h
    · refine link_steps _ s ⟨rfl, Nat.le_refl _, id, id, fun _ h => ?_⟩ (by decide)
      simp [Link.sendsReply] at h
    · refine link_steps _ s ⟨rfl, Nat.le_refl _, id, id, fun _ h => ?_⟩ (by decide)
      simp [Link.sendsReply] at h

theorem sendNext_steps {os : List Own} (s : State) (ho : Own.link ∈ os) : Steps os s (sendNext s) := by
  refine link_steps _ s ?_ ho
  split
  · rename_i h
    exact ⟨rfl, Nat.le_refl _, id, id, fun _ _ => by simp [h]⟩
  · exact ⟨rfl, Nat.le_refl _, fun _ _ h => by simp at h, id, fun _ h => by simp [Link.sendsReply] at h⟩
  · rename_i hn
    exact ⟨rfl, by simp [hn], id, id, fun _ h => by simp [Link.sendsReply] at h⟩
  · exact ⟨rfl, Nat.le_refl _, id, id, id⟩

theorem lineFreeEvent_steps (s : State) : Steps Own.all s (lineFreeEvent s) :=
  (finishSending_steps s).trans (sendNext_steps _ (by decide))

theorem heldTakenEvent_steps (s : State) : Steps Own.all s (heldTakenEvent s) := by
  unfold heldTakenEvent
  split
  · split
    · exact finishSending_steps s
    · exact .refl s
  · exact .refl s

theorem syncEvent_steps {os : List Own} (s : State) (ho : Own.link ∈ os) : Steps os s (syncEvent s) := by
  refine link_steps _ s ?_ ho
  split
  · exact ⟨rfl, Nat.le_refl _, id, id, id⟩
  · exact ⟨rfl, Nat.le_refl _, id, id, id⟩
  · exact ⟨rfl, Nat.le_refl _, id, id, id⟩

theorem breakEvent_steps {os : List Own} (s : State) (ho : Own.link ∈ os) : Steps os s (breakEvent s) :=
  link_steps _ s ⟨rfl, Nat.zero_le _, fun _ _ h => by simp at h, fun _ h => by simp at h, id⟩ ho

theorem overrunEndEvent_steps {os : List Own} (s : State) (ho : Own.link ∈ os) : Steps os s (overrunEndEvent s) := by
  unfold overrunEndEvent
  split
  · exact rejectFrame_steps _ _ s ho
  · exact .refl s
  · exact .refl s

/-! ## The tray and the gate -/

theorem gateLoadedEvent_steps {os : List Own} (s : State) (ho : Own.gate ∈ os) : Steps os s (gateLoadedEvent s) := by
  unfold gateLoadedEvent
  split
  · split
    · exact (OwnMove.gateOn _ s (by exact ⟨rfl, rfl, rfl, by simp⟩)).steps ho
    · exact ((OwnMove.gateOn _ s (by exact ⟨rfl, rfl, rfl, by simp⟩)).steps ho).trans ((tryPlan_moves _).trans (tryEndAborted_moves _)).steps
  · exact (OwnMove.gateOn _ s (by exact ⟨rfl, rfl, rfl, by simp⟩)).steps ho

theorem gateClearedEvent_steps {os : List Own} (s : State) (ho : Own.gate ∈ os) : Steps os s (gateClearedEvent s) := by
  unfold gateClearedEvent
  split
  · exact ((OwnMove.gateOff _ s ⟨.inl rfl, rfl, rfl, rfl⟩).steps ho).trans
      ((tryEndNormal_moves _).trans (tryEndAborted_moves _)).steps
  · split
    · rename_i p _ _
      have h1 : Steps os s (s.onFeeder fun f => { f with gateSense := false, gate := .empty, map := f.map.setIfInBounds p none }) :=
        (OwnMove.gateOff _ s ⟨.inr ⟨p, rfl⟩, rfl, rfl, rfl⟩).steps ho
      simp only
      split
      · exact h1.trans ((haltReport_moves _ _ _).trans (tryEndAborted_moves _)).steps
      · exact h1
    · exact (OwnMove.gateOff _ s ⟨.inl rfl, rfl, rfl, rfl⟩).steps ho

theorem trayOutEvent_steps {os : List Own} (s : State) (ho : Own.tray ∈ os) : Steps os s (trayOutEvent s) := by
  have h1 := (OwnMove.trayOut s).steps ho
  unfold trayOutEvent
  simp only
  split
  · exact h1.trans ((haltReport_moves _ _ _).trans (tryEndAborted_moves _)).steps
  · exact h1

/-! ## Commands -/

/-- What a request row can do. -/
theorem requestRow_steps (r : Request) (s : State) : Steps (.link :: requestOwns r) s (arrive r s) :=
  arrive_steps r s (fun _ h => List.mem_cons_of_mem _ h) List.mem_cons_self

/-- The kinds of change a command makes itself; an event that can take any request can make every one. -/
def ownsOf (i : Instr) : List Own :=
  match i.request with
  | some r => .link :: requestOwns r
  | none =>
    match i with
    | .powerOn _ _ _ _ => [.power]
    | .frameEnd _ _ _ | .heldRequestTaken | .lineFreeSend => Own.all
    | .badLengthByte | .gapTimeout _ | .overrunFrameEnd | .linkBreak | .syncReceived => [.link]
    | .trayOut | .trayIn => [.tray]
    | .feedComplete | .returnComplete | .gateLoaded | .gateCleared => [.gate]
    | _ => []

/-- What a command can do. -/
theorem exec_steps (c : Instr) (s t : State) (h : exec c s = .next t) : Steps (ownsOf c) s t := by
  cases c with
  | placeOrder _ => cases h; exact requestRow_steps _ s
  | amendOrder _ => cases h; exact requestRow_steps _ s
  | cancelOrder _ => cases h; exact requestRow_steps _ s
  | holdOrder _ => cases h; exact requestRow_steps _ s
  | releaseOrder _ => cases h; exact requestRow_steps _ s
  | setFloor _ => cases h; exact requestRow_steps _ s
  | readOrder _ _ => cases h; exact requestRow_steps _ s
  | setStock _ => cases h; exact requestRow_steps _ s
  | readStock => cases h; exact requestRow_steps _ s
  | setProfile _ _ _ _ => cases h; exact requestRow_steps _ s
  | setRange _ _ _ _ => cases h; exact requestRow_steps _ s
  | dropProfile _ _ => cases h; exact requestRow_steps _ s
  | setPlacement _ => cases h; exact requestRow_steps _ s
  | readProfileTable _ _ => cases h; exact requestRow_steps _ s
  | readProfileLookup _ => cases h; exact requestRow_steps _ s
  | mapTray _ => cases h; exact requestRow_steps _ s
  | readTray _ => cases h; exact requestRow_steps _ s
  | readHead => cases h; exact requestRow_steps _ s
  | loadRoll _ _ _ _ => cases h; exact requestRow_steps _ s
  | rewindBack _ => cases h; exact requestRow_steps _ s
  | unloadBack _ => cases h; exact requestRow_steps _ s
  | clearBack _ => cases h; exact requestRow_steps _ s
  | readBack => cases h; exact requestRow_steps _ s
  | startStand => cases h; exact requestRow_steps _ s
  | stopStand => cases h; exact requestRow_steps _ s
  | abortSlide => cases h; exact requestRow_steps _ s
  | resetStand => cases h; exact requestRow_steps _ s
  | setStand _ => cases h; exact requestRow_steps _ s
  | readStand => cases h; exact requestRow_steps _ s
  | reportSelections _ _ => cases h; exact requestRow_steps _ s
  | closeRoll _ _ => cases h; exact requestRow_steps _ s
  | readRoll _ _ => cases h; exact requestRow_steps _ s
  | readFrames _ _ => cases h; exact requestRow_steps _ s
  | printLabels _ => cases h; exact requestRow_steps _ s
  | pausePrinter => cases h; exact requestRow_steps _ s
  | resumePrinter => cases h; exact requestRow_steps _ s
  | relabel _ _ => cases h; exact requestRow_steps _ s
  | setDate _ => cases h; exact requestRow_steps _ s
  | readLabelsLine _ => cases h; exact requestRow_steps _ s
  | readLabelsRecord _ _ => cases h; exact requestRow_steps _ s
  | setRates _ _ _ => cases h; exact requestRow_steps _ s
  | setCounter _ => cases h; exact requestRow_steps _ s
  | lockCounter _ => cases h; exact requestRow_steps _ s
  | adjustAccount _ _ => cases h; exact requestRow_steps _ s
  | closePeriod => cases h; exact requestRow_steps _ s
  | readCounters _ => cases h; exact requestRow_steps _ s
  | powerOn _ _ _ _ => cases h; exact (OwnMove.power _ _ _ _ s).steps List.mem_cons_self
  | frameEnd _ _ _ => cases h; exact frameEnds_steps _ s (testFrame_steps _ _ _ s) (Own.mem_all _)
  | badLengthByte => cases h; exact frameEnds_steps _ s (rejectFrame_steps _ _ s (by decide)) (by decide)
  | gapTimeout _ => cases h; exact frameEnds_steps _ s (rejectFrame_steps _ _ s List.mem_cons_self) List.mem_cons_self
  | heldRequestTaken => cases h; exact heldTakenEvent_steps s
  | overrunFrameEnd => cases h; exact overrunEndEvent_steps s (by decide)
  | linkBreak => cases h; exact breakEvent_steps s (by decide)
  | lineFreeSend => cases h; exact lineFreeEvent_steps s
  | feederOpStart => cases h; exact ((startWaitingJob_moves s).trans (eventEnd_moves _ _ _)).steps
  | feedHomeDone => cases h; exact (homeSenseEvent_moves s).steps
  | homeComplete => cases h; exact (homeSenseEvent_moves s).steps
  | feedComplete => cases h; exact (gateLoadedEvent_steps s (by decide)).trans (eventEnd_moves _ _ _).steps
  | returnComplete => cases h; exact (gateClearedEvent_steps s (by decide)).trans (eventEnd_moves _ _ _).steps
  | feederTimeout => cases h; exact ((feederTimeoutEvent_moves s).trans (eventEnd_moves _ _ _)).steps
  | trayOut => cases h; exact (trayOutEvent_steps s (by decide)).trans (eventEnd_moves _ _ _).steps
  | trayIn => cases h; exact ((OwnMove.trayIn s).steps (by decide)).trans (eventEnd_moves _ _ _).steps
  | gateLoaded => cases h; exact (gateLoadedEvent_steps s (by decide)).trans (eventEnd_moves _ _ _).steps
  | gateCleared => cases h; exact (gateClearedEvent_steps s (by decide)).trans (eventEnd_moves _ _ _).steps
  | warmUpEnd _ => cases h; exact ((warmUpEvent_moves _ s).trans (eventEnd_moves _ _ _)).steps
  | lampFailure => cases h; exact ((lampFailureEvent_moves s).trans (eventEnd_moves _ _ _)).steps
  | idleTimerExpiry => cases h; exact ((idleExpiryEvent_moves s).trans (eventEnd_moves _ _ _)).steps
  | meterComplete _ _ _ _ _ => cases h; exact (meterEvent_moves _ s).steps
  | meterTimeout => cases h; exact ((meterTimeoutEvent_moves s).trans (eventEnd_moves _ _ _)).steps
  | ndSetStart => cases h; exact (startWaitingNd_moves s).steps
  | ndSetComplete => cases h; exact (ndCompleteEvent_moves s).steps
  | ndTimeout => cases h; exact ((ndTimeoutEvent_moves s).trans (eventEnd_moves _ _ _)).steps
  | advanceStart _ => cases h; exact (startWaitingAdvance_moves _ s).steps
  | advanceComplete _ => cases h; exact ((advanceCompleteEvent_moves _ s).trans (eventEnd_moves _ _ _)).steps
  | advanceTimeout _ => cases h; exact ((advanceTimeoutEvent_moves _ s).trans (eventEnd_moves _ _ _)).steps
  | filmEnd _ => cases h; exact ((filmEndEvent_moves _ s).trans (eventEnd_moves _ _ _)).steps
  | swapStart => cases h; exact (startWaitingSwap_moves s).steps
  | swapComplete => cases h; exact (swapCompleteEvent_moves s).steps
  | swapTimeout => cases h; exact ((swapTimeoutEvent_moves s).trans (eventEnd_moves _ _ _)).steps
  | rewindComplete _ => cases h; exact (rewindCompleteEvent_moves _ s).steps
  | rewindTimeout _ => cases h; exact (rewindTimeoutEvent_moves _ s).steps
  | exposeStart => cases h; exact (exposeStartEvent_moves s).steps
  | shutterTicksEnd => cases h; exact (ticksEndEvent_moves s).steps
  | exposeComplete => cases h; exact ((shutterClosedEvent_moves s).trans (eventEnd_moves _ _ _)).steps
  | exposeTimeout => cases h; exact ((exposeTimeoutEvent_moves s).trans (eventEnd_moves _ _ _)).steps
  | shutterEarlyClose => cases h; exact ((shutterClosedEvent_moves s).trans (eventEnd_moves _ _ _)).steps
  | printedToken => cases h; exact (printerByteEvent_moves _ s).steps
  | jammedToken => cases h; exact (printerByteEvent_moves _ s).steps
  | outOfLabelsToken => cases h; exact (printerByteEvent_moves _ s).steps
  | formatErrorToken => cases h; exact (printerByteEvent_moves _ s).steps
  | tokenTimeout => cases h; exact (tokenTimeoutEvent_moves s).steps
  | unknownPrinterByte _ => cases h; exact (printerByteEvent_moves _ s).steps
  | labelFrameSent => cases h; exact (labelSentEvent_moves s).steps
  | syncReceived => cases h; exact syncEvent_steps s (by decide)

end Sys2Proof.Machine
end

