-- ==== Sys2Proof/Tests/Slice0.lean ====
section
/-! SUPPORT. Tests, each on one step of a small state with results worked out by hand from the rules, and a witness for the
hypotheses of each statement. `after c s` is the state a command leaves. -/

open Sys2Proof Sys2Proof.Machine

namespace Sys2Proof.Tests

/-! ## Small states -/

/-- The state a command leaves; the state itself where it stops (no command does). -/
def after (c : Instr) (s : State) : State := match exec c s with | .next t => t | .fault _ => s | .refused _ => s

def stock0 : StockEntry := { enabled := true, name := [], eRef := 84, k := 0, filter := 0, rate := 45 }

def slide0 : Slide := { cat := 1000, caption := none, adjust := none, shift := 0, attempts := 0, outcome := .notShot }

def order0 : Order :=
  { number := 5, seq := 0, account := 1, lecturer := 2, cls := 8, stock := 0, n := 3, spacing := 6, offset := 0, magn := 0,
    title := [0x41#8], slides := [slide0], state := .pending, former := none, cancelPending := false, holdPending := false }

def frame0 (k : Nat) (j : Int) : Frame :=
  { number := k, kind := .exposure, group := 1, step := j, code := 96, nd := 0, ticks := 2560, dense := false,
    shortClamp := false, longClamp := false, amount := some 45, account := some 1, credited := false,
    selection := .unselected, label := none }

def group0 : Group :=
  { order := 5, slide := 0, cat := 1000, attempt := 1, first := 1, n := 3, spacing := 6, s := 96, source := .miss, pUsed := 0,
    exposed := 3, completeness := .complete, outcome := .unselected }

/-- A roll just loaded, 12 frames declared. -/
def roll0 : Roll :=
  { id := 7, stock := 0, declared := 12, next := 1, loadSeq := 0, unloadSeq := none, unloadKind := none, endMark := none,
    groups := [], frames := [] }

/-- The same roll with one bracket of three frames on it. -/
def roll3 : Roll := { roll0 with next := 4, groups := [group0], frames := [frame0 1 (-1), frame0 2 0, frame0 3 1] }

def cycle0 : Cycle :=
  { order := 5, slide := 0, cat := 1000, attempt := 1, back := .backA, stock := 0, n := 3, spacing := 6, offset := 0, magn := 0,
    account := 1, cls := 8, adjust := 0, shift := 0, pos := 3, profile := { source := .miss, p := 0, fixed := none },
    plan := none, groupFirst := none, nextStep := 0, phase := .loading, cause := none }

/-- After reset, with stock 0 enabled and the tray in, number 1000 at position 3. -/
def desk : State :=
  { State.reset with
    stocks := State.reset.stocks.setIfInBounds 0 stock0,
    feeder := { State.reset.feeder with present := true, map := State.reset.feeder.map.setIfInBounds 3 (some 1000) } }

/-- One PENDING order. -/
def placed : State := { desk with work := { desk.work with orders := [order0] } }

/-- The order on the stack, back A READY at the camera with an empty roll, everything positioned, no cycle. -/
def ready : State :=
  { desk with
    work := { desk.work with orders := [{ order0 with state := .active }], stack := [5] },
    feeder := { desk.feeder with pos := some 0 },
    head := { desk.head with lamp := .ready, nd := some 0 },
    film := { desk.film with backA := { Back.initial with state := .ready, roll := some roll0 }, turret := .stands .backA } }

/-- The cycle of the order's slide has just begun. -/
def loading : State :=
  { ready with
    feeder := { ready.feeder with op := some { job := .feed 3 1000, homing := false, limit := 6000, stale := false, ofCycle := true }, feedBusy := [3] },
    stand := { ready.stand with mode := .running, cycle := some cycle0 } }

/-- The cycle's plan is made and its first step waits on the shutter. -/
def exposing : State :=
  { ready with
    feeder := { ready.feeder with pos := some 3, gate := .holds 3 1000, gateSense := true },
    film := { ready.film with backA :=
      { ready.film.backA with roll := some { roll0 with groups := [{ group0 with exposed := 0, completeness := .opened }] } } },
    stand :=
      { ready.stand with
        mode := .running,
        cycle := some { cycle0 with plan := some (computePlan stock0 cycle0 30 false), groupFirst := some 1, phase := .exposing } } }

/-- The shutter is open, or closing. -/
def open_ (closing : Bool) : State := { exposing with stand := { exposing.stand with expose := some { ticks := 1810, closing := closing } } }

/-- The roll with one bracket, unloaded into register slot 0; its order waits for the selection. -/
def unloaded : State :=
  { desk with
    work := { desk.work with orders := [{ order0 with state := .exposed, slides := [{ slide0 with attempts := 1, outcome := .shot }] }] },
    register := desk.register.setIfInBounds 0 (some { roll3 with unloadSeq := some 0, unloadKind := some .rewound }) }

/-- The roll's middle frame is kept, and its label is the head of the queue of an AWAITING line. -/
def printing : State :=
  { desk with
    register := desk.register.setIfInBounds 0
      (some { roll3 with
        unloadSeq := some 0, unloadKind := some .rewound,
        groups := [{ group0 with outcome := .kept 0 }],
        frames := [{ frame0 1 (-1) with selection := .discarded }, { frame0 2 0 with selection := .kept, label := some .queued },
          { frame0 3 1 with selection := .discarded }] }),
    labels :=
      { desk.labels with
        records := [{ key := { roll := 7, frame := 2 }, cat := 1000, caption := [0x41#8], course := [0x41#8], lecturer := 2,
                      account := 1, date := 0, stock := 0 }],
        queue := [{ roll := 7, frame := 2 }], line := .awaiting, head := some { roll := 7, frame := 2 }, run := .counted 1,
        waitOn := true, tokenLimit := 8000 } }

/-- A counter on every posting of every account, total 100, level 120, ceiling 1000. -/
def counter0 : Counter :=
  { Counter.initial with enabled := true, kinds := 15#4, total := 100, ceiling := some 1000, level := some 120, note := 9 }

def tallying (s : State) : State :=
  { s with tally := { s.tally with counters := s.tally.counters.setIfInBounds 0 counter0 } }

/-- A request HELD behind a waiting reply. -/
def heldUp : State :=
  { State.reset with link := { State.reset.link with reply := some (refusedMsg 0x10 .full), held := some (.read .readStock) } }

/-- A reply waits. -/
def replying : State := { State.reset with link := { State.reset.link with reply := some (refusedMsg 0x10 .full) } }

def receiving (s : State) : State := { s with link := { s.link with rx := .receiving } }
def counting (s : State) : State := { s with link := { s.link with rx := .counting } }

def place0 : PlaceReq :=
  { number := 5, account := 1, lecturer := 2, cls := 8, stock := 0, n := 3, spacing := 6, offset := 0, magn := 0,
    title := [0x41#8, 0x07#8], slides := [{ cat := 1000, caption := none, adjust := none }] }

def amend0 : AmendReq := { number := 5, mask := 0x0002#16, n := 5 }
def stockReq0 : StockReq := { stock := 1, enabled := 1, name := [0x41#8], eRef := 180, k := 6, filter := 36, rate := 9999 }
def standReq0 : StandReq := { mask := 0x0011#16, feedLimit := 1000, idleMinutes := 0 }
def counterReq0 : CounterReq := { counter := 0, mask := 0x0100#16, total := 5 }

/-! ## Well-formedness: one ill-formed command for each check -/

set_option maxRecDepth 8000
set_option Elab.async false

theorem test_wf_whole : ([.placeOrder place0, .amendOrder amend0, .setStock stockReq0, .setStand standReq0,
    .setCounter counterReq0, .mapTray [⟨79, 0⟩], .reportSelections 7 [⟨1, 0, 1⟩], .meterComplete 0 1023 0 0 0] : List Instr).all
      Instr.wellFormed = true := by decide

theorem test_wf_place : ([.placeOrder { place0 with number := 65536 }, .placeOrder { place0 with account := 65536 },
    .placeOrder { place0 with lecturer := 65536 }, .placeOrder { place0 with cls := 256 }, .placeOrder { place0 with stock := 256 },
    .placeOrder { place0 with n := 256 }, .placeOrder { place0 with spacing := 256 }, .placeOrder { place0 with offset := 128 },
    .placeOrder { place0 with magn := 256 }, .placeOrder { place0 with slides := [⟨16777216, none, none⟩] },
    .placeOrder { place0 with slides := [⟨1, none, some (-129)⟩] }] : List Instr).all (fun i => !i.wellFormed) = true := by decide

theorem test_wf_lengths : ([.placeOrder { place0 with title := List.replicate 256 0x41#8 },
    .placeOrder { place0 with slides := [⟨1, some (List.replicate 256 0x41#8), none⟩] },
    .placeOrder { place0 with slides := List.replicate 256 ⟨1, none, none⟩ },
    .mapTray (List.replicate 256 ⟨0, 0⟩), .mapTray (List.replicate 63 ⟨0, 0⟩),
    .frameEnd 0x18#8 (List.replicate 250 0#8) 0#8] : List Instr).all (fun i => !i.wellFormed) = true := by decide +kernel

theorem test_wf_amend : ([.amendOrder { amend0 with number := 65536 }, .amendOrder { amend0 with n := 256 },
    .amendOrder { amend0 with cls := 1 }, .amendOrder { amend0 with spacing := 3 }, .amendOrder { amend0 with offset := 1 },
    .amendOrder { amend0 with magn := 1 }, .amendOrder { amend0 with account := 1 }, .amendOrder { amend0 with lecturer := 1 },
    .amendOrder { amend0 with title := [0x41#8] }, .amendOrder { number := 5, mask := 8#16, offset := -129 }] : List Instr).all
      (fun i => !i.wellFormed) = true := by decide

theorem test_wf_settings : ([.setStand { standReq0 with advanceLimit := 500 }, .setStand { standReq0 with leaderCount := 1 },
    .setStand { standReq0 with fill := 1 }, .setStand { standReq0 with tokenLimit := 2000 },
    .setStand { standReq0 with feedLimit := 65536 }, .setStand { standReq0 with idleMinutes := 256 },
    .setStock { stockReq0 with rate := 65536 }, .setStock { stockReq0 with eRef := 256 },
    .setCounter { counterReq0 with enabled := 1 }, .setCounter { counterReq0 with ceiling := some 1 },
    .setCounter { counterReq0 with level := some 1 }, .setCounter { counterReq0 with note := 1 },
    .setCounter { counterReq0 with total := 4294967296 }] : List Instr).all (fun i => !i.wellFormed) = true := by decide

theorem test_wf_others : ([.cancelOrder 65536, .setFloor 256, .readOrder 0 256, .setProfile 16777216 0 0 none,
    .setProfile 1 0 128 none, .setProfile 1 0 0 (some 65536), .setRange 256 0 4 0, .mapTray [⟨256, 0⟩],
    .reportSelections 7 [⟨1, 1, 1⟩], .reportSelections 16777216 [], .readLabelsRecord 0 1, .adjustAccount 1 8388608,
    .adjustAccount 1 (-8388609), .meterComplete 1024 0 0 0 0, .unknownPrinterByte 0x50#8] : List Instr).all
      (fun i => !i.wellFormed) = true := by decide

/-! ## Bytes of the desk link -/

/-- R188's own check value. -/
theorem test_crc : crc8 [0x31#8, 0x32#8, 0x33#8, 0x34#8, 0x35#8, 0x36#8, 0x37#8, 0x38#8, 0x39#8] = 0xF4#8 := by decide +kernel

/-- SET FLOOR 3 as a frame, its CHECK C9h worked out by hand (R187, R188): floor set, accepted with the floor. -/
theorem test_frame_set_floor :
    (after (.frameEnd 0x15#8 [3#8] 0xC9#8) (receiving desk)).work.floor = 3
      ∧ (after (.frameEnd 0x15#8 [3#8] 0xC9#8) (receiving desk)).link.reply = some { kind := 0x95, body := [.u 1 0, .u 1 3] } := by
  decide +kernel

/-- Two bytes swapped in the frame fail its CHECK. -/
theorem test_frame_bad_check :
    (after (.frameEnd 0x03#8 [0x15#8] 0xC9#8) (receiving desk)).link.slot = some { reason := .check, kind := 0#8, count := 1 } := by
  decide +kernel

/-- A PLACE ORDER body, laid out by hand from R196: presence flags bit 0 caption, bit 1 adjust. -/
theorem test_place_body :
    readIncoming 0x10 [0x00#8, 0x05#8, 0x00#8, 0x01#8, 0x00#8, 0x02#8, 8#8, 0#8, 3#8, 6#8, 0xFF#8, 15#8, 1#8, 0x41#8, 1#8,
        0x00#8, 0x03#8, 0xE8#8, 3#8, 0xF4#8, 1#8, 0x42#8]
      = .read (.placeOrder
          { number := 5, account := 1, lecturer := 2, cls := 8, stock := 0, n := 3, spacing := 6, offset := -1, magn := 15,
            title := [0x41#8], slides := [{ cat := 1000, caption := some [0x42#8], adjust := some (-12) }] }) := by decide +kernel

/-- A body one byte short, or with one left over, is FORMAT (R192). -/
theorem test_format :
    readIncoming 0x12 [0#8] = .refuse 0x12 .format ∧ readIncoming 0x11 [0#8, 5#8, 0#8, 0#8, 1#8] = .refuse 0x11 .format := by
  decide +kernel

/-- The STAND READY notice right after power-on goes out as kind C0h, status 0, rate 0 (R187, R198, R200), its CHECK worked out by hand. -/
theorem test_first_notice :
    ((after .lineFreeSend State.reset).link.sending.map fun m => m.bytes) = some [0xA5#8, 3#8, 0xC0#8, 0#8, 0#8, 0xB7#8]
      ∧ (after .lineFreeSend State.reset).link.notices = [] := by decide +kernel

/-- BACK CHANGED of a READY back A with roll 7 of stock 0, frame 4 next and 9 left (R85), and ORDER CHANGED to HELD for counter 15
(R6), laid out by hand from R193. -/
theorem test_notice_bytes :
    (Notice.backChanged .backA .ready (some (7, 0, 4, 9))).kind = 0xC4
      ∧ bodyBytes (Notice.backChanged .backA .ready (some (7, 0, 4, 9))).fields = [0#8, 2#8, 0#8, 0#8, 7#8, 0#8, 4#8, 9#8]
      ∧ (Notice.orderChanged 258 (.held (.ceiling 15))).kind = 0xC1
      ∧ bodyBytes (Notice.orderChanged 258 (.held (.ceiling 15))).fields = [1#8, 2#8, 4#8, 3#8, 15#8] := by decide +kernel

/-- The label frame of roll 7, frame 2 up to its CHECK, laid out by hand from R153: LENGTH counts the 18 bytes from ROLL to STOCK. -/
theorem test_label_frame :
    (printing.labels.records.map fun r => (labelFrame r).dropLast)
      = [[0x3C#8, 18#8, 0#8, 0#8, 7#8, 2#8, 0x00#8, 0x03#8, 0xE8#8, 1#8, 0x41#8, 1#8, 0x41#8, 0#8, 2#8, 0#8, 1#8, 0#8, 0#8, 0#8]] := by
  decide +kernel

/-! ## Exposure arithmetic: the worked values of chapter 2 -/

/-- The rows of R41 to R43's table at and near the limits. -/
theorem test_realise :
    (realise 0 (-13)).code = 24 ∧ (realise 0 (-13)).nd = 36 ∧ (realise 0 (-13)).shortClamp = true
      ∧ (realise 0 (-12)).code = 24 ∧ (realise 0 (-12)).nd = 36 ∧ (realise 0 (-12)).shortClamp = false
      ∧ (realise 0 1).code = 25 ∧ (realise 0 1).nd = 24 ∧ (realise 0 181).code = 180 ∧ (realise 0 181).longClamp = true := by
  decide +kernel

/-- Density 0.30 on the reset film speed 84: S is 96, the steps 90, 96, 102 (R36, R39, R40). -/
theorem test_plan :
    ((computePlan stock0 cycle0 30 false).steps.map fun p => (p.j, p.e, p.nd)) = [(-1, 90, 0), (0, 96, 0), (1, 102, 0)]
      ∧ ((computePlan stock0 cycle0 30 false).steps.map fun p => p.ticks) = [1810, 2560, 3620] := by decide +kernel

/-! ## Commands -/

/-- The reply a command leaves. -/
def rep (c : Instr) (s : State) : Option Msg := (after c s).link.reply

theorem test_placeOrder :
    ((after (.placeOrder place0) desk).work.orders.map fun o => (o.number, o.title, o.state)) = [(5, [0x41#8, 0x3F#8], .pending)]
      ∧ rep (.placeOrder place0) placed = some (refusedMsg 0x10 .duplicate)
      ∧ rep (.placeOrder { place0 with magn := 16 }) desk = some (refusedMsg 0x10 .range) := by decide +kernel

theorem test_amendOrder :
    ((after (.amendOrder amend0) placed).work.orders.map fun o => (o.n, o.cls)) = [(5, 8)]
      ∧ rep (.amendOrder { amend0 with n := 4 }) placed = some (refusedMsg 0x11 .range) := by decide +kernel

theorem test_cancelOrder :
    (after (.cancelOrder 5) placed).work.orders = []
      ∧ ((after (.cancelOrder 5) loading).work.orders.map fun o => o.cancelPending) = [true] := by decide +kernel

theorem test_hold_release :
    ((after (.holdOrder 5) placed).work.orders.map fun o => o.state) = [.held .host]
      ∧ ((after (.releaseOrder 5) { placed with work := { placed.work with orders := [{ order0 with state := .held .host }] } }).work.orders.map
          fun o => o.state) = [.pending] := by decide +kernel

theorem test_setFloor : rep (.setFloor 15) desk = some (acceptedMsg 0x15 false [.u 1 15])
    ∧ rep (.setFloor 16) desk = some (refusedMsg 0x15 .range) := by decide +kernel

theorem test_readOrder : rep (.readOrder 5 1) placed = some (refusedMsg 0x16 .range)
    ∧ rep (.readOrder 6 0) placed = some (refusedMsg 0x16 .unknown) := by decide +kernel

theorem test_setStock : ((after (.setStock stockReq0) desk).stock 1).rate = 9999
    ∧ rep (.setStock { stockReq0 with eRef := 181 }) desk = some (refusedMsg 0x17 .range) := by decide +kernel

/-- The four entries of READ STOCK are 1 enabled, then three at their power-on values (R31, R32). -/
theorem test_readStock :
    (rep .readStock desk).map (fun m => m.body.length) = some (1 + 4 * 6) := by decide +kernel

theorem test_setProfile :
    ((after (.setProfile 1000 1 (-24) (some 400)) desk).profiles.original? 0).map (fun e => (e.cat, e.p, e.fixed, e.used))
        = some (1000, -24, some 400, true)
      ∧ rep (.setProfile 1000 0 0 (some 1)) desk = some (refusedMsg 0x19 .range) := by decide +kernel

/-- The span of base 30,464 and s 8 holds 30,464..30,719, as R49 shows. -/
theorem test_setRange :
    ((after (.setRange 0 30464 8 5) desk).profiles.lookup 30719).p = 5
      ∧ ((after (.setRange 0 30464 8 5) desk).profiles.lookup 30720).source = .miss
      ∧ rep (.setRange 0 30465 8 5) desk = some (refusedMsg 0x1A .range) := by decide +kernel

theorem test_dropProfile : rep (.dropProfile 1 7) desk = some (acceptedMsg 0x1B false [.u 1 0])
    ∧ rep (.dropProfile 1 8) desk = some (refusedMsg 0x1B .range) := by decide +kernel

theorem test_setPlacement : (after (.setPlacement 47) desk).profiles.pointer = some 47
    ∧ rep (.setPlacement 48) desk = some (refusedMsg 0x1C .range) := by decide +kernel

theorem test_readProfile : rep (.readProfileLookup 1000) desk ≠ some (refusedMsg 0x1D .range)
    ∧ rep (.readProfileTable 0 48) desk = some (refusedMsg 0x1D .range) := by decide +kernel

/-- An original moves in two entries, the first emptying its old place; the other way round the second is DUPLICATE (R68). -/
theorem test_mapTray :
    (mapEntries [⟨3, 0⟩, ⟨79, 1000⟩] desk).2 = [.done, .done] ∧ (mapEntries [⟨79, 1000⟩, ⟨3, 0⟩] desk).2 = [.duplicate 3, .done]
      ∧ rep (.mapTray [⟨3, 0⟩]) State.reset = some (refusedMsg 0x1E .state) := by decide +kernel

theorem test_readTray : rep (.readTray 1) desk = some (refusedMsg 0x1F .range)
    ∧ (rep (.readTray 40) desk).map (fun m => m.kind) = some 0x9F := by decide +kernel

/-- With the lamp OFF and no idle timer READ HEAD shows no open value. -/
theorem test_readHead : rep .readHead desk
    = some (acceptedMsg 0x20 false [.u 1 0, .u 1 0, .u 1 0, .u 1 0, .u 1 0, .u 1 0, .u 1 0]) := by decide +kernel

theorem test_loadRoll :
    (after (.loadRoll 0 7 0 12) desk).film.backA.state = .leader
      ∧ (after (.loadRoll 0 7 0 12) desk).film.loadSeq = 1
      ∧ rep (.loadRoll 0 7 0 11) desk = some (refusedMsg 0x21 .range)
      ∧ rep (.loadRoll 1 7 0 12) ready = some (refusedMsg 0x21 .duplicate) := by decide +kernel

theorem test_rewindBack : (after (.rewindBack 0) ready).film.backA.state = .rewinding
    ∧ rep (.rewindBack 0) loading = some (refusedMsg 0x22 .busy) := by decide +kernel

/-- A rewound roll with no group goes to slot 0 and closes at once. -/
theorem test_unloadBack :
    rep (.unloadBack 0) { ready with film := { ready.film with backA := { ready.film.backA with state := .rewound } } }
        = some (acceptedMsg 0x23 false [.u 1 0, .u 3 7, .u 1 0, .u 4 0, .u 1 1])
      ∧ rep (.unloadBack 0) ready = some (refusedMsg 0x23 .state) := by decide +kernel

theorem test_clearBack :
    (after (.clearBack 0) { ready with film := { ready.film with backA :=
        { ready.film.backA with state := .fault .rewindTimeout, roll := some roll3 } } }).slotRoll? 0
        = some { roll3 with unloadSeq := some 0, unloadKind := some .cleared }
      ∧ rep (.clearBack 2) ready = some (refusedMsg 0x24 .range) := by decide +kernel

theorem test_readBack : (rep .readBack desk).map (fun m => m.kind) = some 0xA5 := by decide +kernel

/-- START STAND from power-on asks for the home, the turret and the slider, and lights the lamp (R111). -/
theorem test_startStand :
    rep .startStand desk = some (acceptedMsg 0x26 false [.u 1 1, .u 1 4, .u 1 0, .u 1 1, .u 1 2, .u 1 3])
      ∧ (after .startStand desk).head.lamp = .warming := by decide +kernel

/-- A running stand with an order serves it: the choice starts its cycle with a FEED of position 3. -/
theorem test_start_serves :
    ((after .startStand ready).stand.cycle.map fun c => (c.order, c.pos, c.back)) = some (5, 3, .backA)
      ∧ ((after .startStand ready).feeder.op.map fun o => o.job) = some (.feed 3 1000) := by decide +kernel

theorem test_stopStand : (after .stopStand loading).stand.mode = .stopping
    ∧ (after .stopStand { ready with stand := { ready.stand with mode := .running } }).stand.mode = .stopped := by decide +kernel

theorem test_abortSlide : ((after .abortSlide loading).stand.cycle.bind fun c => c.cause) = some .abortSlide
    ∧ rep .abortSlide ready = some (refusedMsg 0x28 .state) := by decide +kernel

theorem test_resetStand : (after .resetStand loading).stand.cycle = none ∧ (after .resetStand loading).work.stack = []
    ∧ ((after .resetStand loading).work.orders.map fun o => o.state) = [.pending] := by decide +kernel

theorem test_setStand : (after (.setStand standReq0) desk).stand.settings
      = { Settings.initial with feedLimit := 1000, idleMinutes := 0 }
    ∧ rep (.setStand { mask := 0x40#16 }) desk = some (refusedMsg 0x2A .range) := by decide +kernel

theorem test_readStand : (rep .readStand loading).map (fun m => m.kind) = some 0xAB := by decide +kernel

/-- KEEP of the middle step: the slide is KEPT, the order is done and freed, one label made (R133). -/
theorem test_reportSelections :
    (after (.reportSelections 7 [⟨1, 0, 0⟩]) unloaded).work.orders = []
      ∧ (after (.reportSelections 7 [⟨1, 0, 0⟩]) unloaded).labels.queue = [{ roll := 7, frame := 2 }]
      ∧ ((after (.reportSelections 7 [⟨1, 1, 0⟩]) unloaded).work.orders.map fun o => (o.state, o.slides.map fun x => (x.outcome, x.shift)))
        = [(.pending, [(.reshootDue, 12)])] := by decide +kernel

/-- LOST: three frames of 45 credited, the slide due again with its attempt given back (R142). -/
theorem test_closeRoll :
    rep (.closeRoll 7 0) unloaded = some (acceptedMsg 0x2D false [.u 3 7, .u 1 0, .u 1 1, .u 1 3, .i 3 (-135)])
      ∧ ((after (.closeRoll 7 0) unloaded).work.orders.map fun o => o.slides.map fun x => (x.outcome, x.attempts)) = [[(.reshootDue, 0)]]
      ∧ rep (.closeRoll 7 1) printing = some (refusedMsg 0x2D .labelsPending) := by decide +kernel

theorem test_readRoll : rep (.readRoll 7 1) unloaded = some (refusedMsg 0x2E .range)
    ∧ (rep (.readFrames 7 12) unloaded).map (fun m => m.kind) = some 0xAF
    ∧ rep (.readFrames 7 13) unloaded = some (refusedMsg 0x2F .range) := by decide +kernel

theorem test_printLabels : (after (.printLabels 1) desk).labels.line = .idle ∧ (after (.printLabels 1) desk).labels.run = .counted 1
    ∧ rep (.printLabels 256) desk = some (refusedMsg 0x30 .range) := by decide +kernel

theorem test_pausePrinter : (after .pausePrinter printing).labels.pausePending = true
    ∧ (after .pausePrinter { desk with labels := { desk.labels with line := .idle } }).labels.line = .paused := by decide +kernel

theorem test_resumePrinter : rep .resumePrinter desk = some (refusedMsg 0x32 .state)
    ∧ (after .resumePrinter { printing with labels := { printing.labels with line := .stopped .jammed } }).labels.line = .awaiting := by
  decide +kernel

theorem test_relabel : rep (.relabel 7 2) printing = some (refusedMsg 0x33 .state)
    ∧ rep (.relabel 7 1) printing = some (refusedMsg 0x33 .unknown)
    ∧ (after (.relabel 7 2) (setLabelState { roll := 7, frame := 2 } .failed { printing with labels := { printing.labels with queue := [], head := none, line := .paused } })).labels.queue
      = [{ roll := 7, frame := 2 }] := by decide +kernel

theorem test_setDate : (after (.setDate 65535) desk).labels.date = 65535
    ∧ rep (.setDate 65536) desk = some (refusedMsg 0x34 .range) := by decide +kernel

theorem test_readLabels : rep (.readLabelsLine 32) desk = some (refusedMsg 0x35 .range)
    ∧ rep (.readLabelsRecord 7 2) desk = some (refusedMsg 0x35 .unknown)
    ∧ (rep (.readLabelsRecord 7 2) printing).map (fun m => m.kind) = some 0xB5 := by decide +kernel

theorem test_setRates : (after (.setRates 9999 15 0) desk).tally.mountRate = 9999
    ∧ rep (.setRates 0 7 0) desk = some (refusedMsg 0x36 .range) := by decide +kernel

theorem test_setCounter : (counterAt (after (.setCounter counterReq0) (tallying desk)).tally.counters 0).total = 5
    ∧ rep (.setCounter { counter := 0, mask := 4#16, acctMatch := 1 }) desk = some (refusedMsg 0x37 .range)
    ∧ rep (.setCounter counterReq0) { desk with tally := { desk.tally with
        counters := desk.tally.counters.setIfInBounds 0 { counter0 with locked := true } } } = some (refusedMsg 0x37 .locked) := by decide +kernel

theorem test_lockCounter : (counterAt (after (.lockCounter 15) desk).tally.counters 15).locked = true
    ∧ rep (.lockCounter 16) desk = some (refusedMsg 0x38 .range) := by decide +kernel

/-- The total 100 crosses the level 120 once, and is held at 0 (R175, R176). -/
theorem test_adjustAccount :
    (after (.adjustAccount 1 20) (tallying desk)).link.notices.length = 2
      ∧ (counterAt (after (.adjustAccount 1 (-101)) (tallying desk)).tally.counters 0).total = 0
      ∧ rep (.adjustAccount 1 100000) desk = some (refusedMsg 0x39 .range) := by decide +kernel

theorem test_closePeriod : (after .closePeriod (tallying desk)).tally.period = 1
    ∧ (counterAt (after .closePeriod (tallying desk)).tally.counters 0).total = 0 := by decide +kernel

theorem test_readCounters : rep (.readCounters 16) desk = some (refusedMsg 0x3B .range) := by decide +kernel

/-- Strap 1 tied gives the rate code 2, 38,400 (R200); an original found in the gate is FOREIGN (R83). -/
theorem test_powerOn : (after (.powerOn true false true true) printing).link.rate = 2
    ∧ (after (.powerOn true false true true) printing).feeder.gate = .foreign
    ∧ (after (.powerOn true false true true) printing).labels.queue = [] := by decide +kernel

theorem test_receiver : (after .badLengthByte (receiving desk)).link.slot = some { reason := .length, kind := 0#8, count := 1 }
    ∧ (after (.gapTimeout (some 0x15#8)) (receiving desk)).link.slot = some { reason := .gap, kind := 0x15#8, count := 1 }
    ∧ (after .syncReceived heldUp).link.rx = .counting
    ∧ (after .overrunFrameEnd (counting heldUp)).link.slot = some { reason := .overrun, kind := 0#8, count := 1 } := by
  decide +kernel

theorem test_held : (after .heldRequestTaken (after .lineFreeSend heldUp)).link.held = none
    ∧ (rep .heldRequestTaken (after .lineFreeSend heldUp)).map (fun m => m.kind) = some 0x98
    ∧ (after .linkBreak heldUp).link.held = none := by decide +kernel

theorem test_feeder : (after .gateLoaded loading).feeder.gate = .holds 3 1000 ∧ (after .feedComplete loading).feeder.pos = some 3
    ∧ (after .feederTimeout loading).stand.mode = .halted .feedTimeout
    ∧ (after .homeComplete (after .startStand desk)).feeder.pos = some 0 := by decide +kernel

theorem test_feedHomeDone : ((after .feedHomeDone { loading with feeder := { loading.feeder with
      op := some { job := .feed 3 1000, homing := true, limit := 6000, stale := false, ofCycle := true }, pos := none } }).feeder.op.map
        fun o => o.homing) = some false
    ∧ ((after .feederOpStart { loading with feeder := { loading.feeder with op := none, waiting := [{ job := .feed 3 1000, ofCycle := true }] } }).feeder.op.map
        fun o => o.job) = some (.feed 3 1000) := by decide +kernel

/-- An original taken out of the gate by hand halts the stand with TRAY_OUT (R71); so does the tray taken away (R70). -/
theorem test_tray : (after .gateCleared exposing).stand.mode = .halted .trayOut ∧ (after .gateCleared exposing).mapAt 3 = none
    ∧ (after .trayOut exposing).stand.mode = .halted .trayOut ∧ (after .trayIn State.reset).feeder.present = true
    ∧ (after .returnComplete { exposing with feeder := { exposing.feeder with
        op := some { job := .ret 3, homing := false, limit := 6000, stale := false, ofCycle := true } } }).feeder.gate = .empty := by
  decide +kernel

theorem test_lamp : (after (.warmUpEnd true) { loading with head := { loading.head with lamp := .warming } }).head.lamp = .ready
    ∧ (after .lampFailure loading).stand.mode = .halted .lampFail
    ∧ (after .idleTimerExpiry { ready with head := { ready.head with idle := some 10 } }).head.lamp = .off := by decide +kernel

/-- Five readings of 0.30 with one above 4.00: D is (4 × 30 + 400 + 3 × 30) / 8 = 76.25, so 76; every step is DENSE (R34), and D stays
with the readings. -/
theorem test_meter : ((after (.meterComplete 30 1023 30 30 30) { exposing with
      head := { exposing.head with meter := some { cat := 1000, stale := false, ofCycle := false } } }).head.readings.map
        fun r => (r.d, r.upperLeft)) = some (76, 400)
    ∧ ((after (.meterComplete 30 1023 30 30 30) { exposing with
      stand := { exposing.stand with cycle := some { cycle0 with phase := .metering } },
      head := { exposing.head with meter := some { cat := 1000, stale := false, ofCycle := true } } }).stand.cycle.bind fun c => c.plan).map
        (fun p => (p.d, p.steps.map fun x => x.dense)) = some (76, [true, true, true])
    ∧ (after .meterTimeout { exposing with head := { exposing.head with meter := some { cat := 1000, stale := false, ofCycle := true } } }).stand.mode
        = .halted .meterTimeout := by decide +kernel

theorem test_nd : (after .ndSetComplete { exposing with head := { exposing.head with nd := none, ndOp := some { target := 36, stale := false, ofCycle := true } } }).head.nd
      = some 36
    ∧ (after .ndTimeout { exposing with head := { exposing.head with nd := none, ndOp := some { target := 36, stale := false, ofCycle := true } } }).stand.mode
      = .halted .ndTimeout
    ∧ ((after .ndSetStart { ready with head := { ready.head with ndWaiting := [{ target := 12, ofCycle := false }] } }).head.ndOp.map fun o => o.target)
      = some 12 := by decide +kernel

/-- The last leader ADVANCE makes the back READY (R93); a film end while it winds makes it ENDED with the end mark (R97). -/
theorem test_advance : (after (.advanceComplete .backA) { ready with film := { ready.film with backA :=
      { ready.film.backA with state := .leader, leaderLeft := 1, advance := some { cause := .leader, limit := 1500, ofCycle := false } } } }).film.backA.state
      = .ready
    ∧ ((after (.filmEnd .backA) { ready with film := { ready.film with backA :=
      { ready.film.backA with advance := some { cause := .spent, limit := 1500, ofCycle := false } } } }).film.backA.roll.bind fun r => r.endMark)
      = some 1
    ∧ (after (.advanceTimeout .backA) { ready with film := { ready.film with backA :=
      { ready.film.backA with advance := some { cause := .spent, limit := 1500, ofCycle := false } } } }).film.backA.state
      = .fault .advanceTimeout
    ∧ ((after (.advanceStart .backA) { ready with film := { ready.film with backA := { ready.film.backA with owed := true } } }).film.backA.advance.map
      fun a => a.cause) = some .spent := by decide +kernel

theorem test_swap : (after .swapStart { ready with film := { ready.film with swapWaiting := [{ target := .backB, ofCycle := false }] } }).film.turret
      = .turning .backB
    ∧ (after .swapComplete { ready with film := { ready.film with turret := .turning .backB, swap := some { target := .backB, stale := false, ofCycle := false } } }).film.turret
      = .stands .backB
    ∧ (after .swapTimeout { loading with film := { loading.film with turret := .turning .backA, swap := some { target := .backA, stale := false, ofCycle := true } } }).stand.mode
      = .halted .swapTimeout := by decide +kernel

theorem test_rewind : (after (.rewindComplete .backA) (after (.rewindBack 0) ready)).film.backA.state = .rewound
    ∧ (after (.rewindTimeout .backA) (after (.rewindBack 0) ready)).film.backA.state = .fault .rewindTimeout := by decide +kernel

/-- The first step of the bracket opens the shutter for 1,810 ticks; its end writes frame 1 at the rate 45 (R120, R121). -/
theorem test_shutter : ((after .exposeStart exposing).stand.expose.map fun e => e.ticks) = some 1810
    ∧ ((after .shutterTicksEnd (open_ false)).stand.expose.map fun e => e.closing) = some true
    ∧ ((after .exposeComplete (open_ true)).film.backA.roll.map fun r => (r.next, r.frames.map fun f => (f.number, f.step, f.amount)))
      = some (2, [(1, -1, some 45)])
    ∧ (after .shutterEarlyClose (open_ false)).stand.mode = .halted .shutterFault
    ∧ (after .exposeTimeout (open_ true)).stand.mode = .halted .shutterFault := by decide +kernel

/-- PRINTED completes the head and posts the MOUNT; the counted run of 1 is over and the line pauses (R156). The roll closes. -/
theorem test_printed : (after .printedToken printing).labels.line = .paused ∧ (after .printedToken printing).labels.queue = []
    ∧ (after .printedToken printing).slotRoll? 0 = none
    ∧ (after .jammedToken printing).labels.line = .stopped .jammed
    ∧ (after .outOfLabelsToken printing).labels.line = .stopped .outOfLabels
    ∧ (after .tokenTimeout printing).labels.timedOut = true
    ∧ labelStateOf (after .formatErrorToken { printing with labels := { printing.labels with run := .opened } }) { roll := 7, frame := 2 } = none := by
  decide +kernel

/-- The four token bytes and no other are tokens, and well-formedness excludes just those (R153); the last token, none, is sent as 4
(R152, R193). -/
theorem test_token_bytes :
    (∀ x : Byte, (tokenOf? x).isNone = (Instr.unknownPrinterByte x).wellFormed)
      ∧ [0x50#8, 0x4A#8, 0x45#8, 0x46#8].map tokenOf? = [some .printed, some .jammed, some .outOfLabels, some .formatError]
      ∧ (Notice.printerChanged .idle none .off none 1 0).fields = [.u 1 0, .u 1 0, .u 1 0, .u 1 4, .u 1 1, .u 2 0] := by decide +kernel

/-- A FEED left from before a reset does not keep the position busy for a new cycle that ends: one of the two entries goes (R67). -/
theorem test_position_freed :
    let stale : FeederOp := { job := .feed 3 1000, homing := false, limit := 6000, stale := true, ofCycle := false }
    (freePosition cycle0 { loading with feeder := { loading.feeder with op := some stale, feedBusy := [3, 3] } }).feeder.feedBusy = [3]
      ∧ (freePosition cycle0 loading).feeder.feedBusy = [3] ∧ (freePosition cycle0 { loading with feeder := { loading.feeder with op := none } }).feeder.feedBusy = [] := by
  decide +kernel

/-- R70, R126: the abort of a tray removal starts no RETURN, also once the tray is back; that of an ABORT SLIDE does. -/
theorem test_tray_out_no_return :
    let back : State → State := fun s => after .feedComplete (after .trayIn (after .trayOut s))
    ((back loading).feeder.op, (back loading).feeder.gate, (back loading).stand.cycle, (back loading).stand.mode)
        = (none, .holds 3 1000, none, .halted .trayOut)
      ∧ ((back (after .abortSlide loading)).feeder.op.map fun o => o.job) = some (.ret 3) := by
  decide +kernel

theorem test_other_bytes : (after (.unknownPrinterByte 0#8) printing).labels = printing.labels
    ∧ (after .labelFrameSent { printing with labels := { printing.labels with out := some [], waitOn := false } }).labels.waitOn = true := by
  decide +kernel

/-! ## Witnesses: for each statement with hypotheses, states and operands that meet them, clause by clause -/

theorem witness_StepTakesFront : State.reset.pending = [] := by decide +kernel

theorem witness_RequestsTakenHeldOrOverrun :
    (Instr.setFloor 3).request = some (.setFloor 3) ∧ LinkFree desk ∧ (replying.link.held = none ∧ replying.link.reply.isSome = true)
      ∧ replying.link.rx ≠ .counting ∧ heldUp.link.held.isSome = true
      ∧ ((counting desk).link.held = none ∧ (counting desk).link.rx = .counting
        ∧ after (.setFloor 3) (counting desk) = rejectedWith .overrun 0#8 (counting desk)) := by decide +kernel

/-- Three bytes most significant first, and the ends of a signed byte (R187, R193), laid out by hand. -/
theorem witness_BodiesReadBack_bytes :
    bodyBytes [.u 3 0x010203, .i 1 (-128), .i 1 127, .i 3 (-2), .text [0x41#8]]
        = [0x01#8, 0x02#8, 0x03#8, 0x80#8, 0x7F#8, 0xFF#8, 0xFF#8, 0xFE#8, 0x01#8, 0x41#8]
      ∧ (Request.setCounter { counter := 1, mask := 0x0060#16, ceiling := some 258, level := none }).body
        = [0x01#8, 0x00#8, 0x60#8, 0x01#8, 0x00#8, 0x00#8, 0x01#8, 0x02#8, 0x00#8]
      ∧ ∃ sel : BitVec 16 → Nat → List Field → List Field, ∀ m b f, sel m b f = if m.getLsbD b then f else [] := by
  refine ⟨by decide +kernel, by decide +kernel, fun m b f => if m.getLsbD b then f else [], fun _ _ _ => rfl⟩

/-- The longest MAP TRAY a frame can carry has 62 entries; one entry more is ill-formed. -/
theorem witness_BodiesReadBack :
    (Request.placeOrder { place0 with number := 65535, account := 65535, lecturer := 65535, cls := 255, stock := 255, n := 255, spacing := 255,
                                       offset := -128, magn := 255, slides := [⟨16777215, some [], some 127⟩] }).wellFormed = true
      ∧ (Request.mapTray (List.replicate 62 ⟨255, 16777215⟩)).wellFormed = true
      ∧ (Request.mapTray (List.replicate 63 ⟨255, 16777215⟩)).wellFormed = false
      ∧ (Request.adjustAccount 65535 (-8388608)).wellFormed = true
      ∧ (Request.amendOrder { number := 5, mask := 0xFFFF#16, cls := 255, title := [0#8] }).wellFormed = true := by decide +kernel

theorem witness_FrameRunsItsRequest :
    (Instr.setFloor 3).request = some (.setFloor 3) ∧ (Request.setFloor 3).wellFormed = true ∧ bodySize 0x15 = some (1, true)
      ∧ sizeOk (1, true) (Request.setFloor 3).body.length = true ∧ (receiving desk).link.rx = .receiving
      ∧ (receiving desk).link.held = none := by decide +kernel

theorem witness_FrameTestsInOrder :
    (receiving desk).link.rx = .receiving ∧ crc8 (frameCore 0x15#8 [3#8]) = 0xC9#8 ∧ crc8 (frameCore 0x15#8 [3#8]) ≠ 0xC8#8
      ∧ bodySize 0x0F = none ∧ bodySize 0x3C = none ∧ bodySize 0x10 = some (18, false) ∧ (bodySize 0x3B).isSome = true
      ∧ sizeOk (18, false) 17 = false ∧ sizeOk (18, false) 18 = true ∧ sizeOk (1, true) 2 = false
      ∧ (receiving desk).link.reply = none ∧ (receiving replying).link.reply.isSome = true := by decide +kernel

theorem witness_ReceiverEvents :
    (desk.link.rx = .hunting ∧ desk.link.held = none) ∧ (heldUp.link.rx = .hunting ∧ heldUp.link.held.isSome = true)
      ∧ (receiving desk).link.rx = .receiving ∧ (counting heldUp).link.rx = .counting := by decide +kernel

def sending0 (src : Source) (s : State) : State := { s with link := { s.link with sending := some { source := src, bytes := [] } } }

theorem witness_OutgoingLine :
    (replying.link.sending = none ∧ replying.link.reply = some (refusedMsg 0x10 .full))
      ∧ ((rejectedWith .check 0#8 desk).link.sending = none ∧ (rejectedWith .check 0#8 desk).link.reply = none
          ∧ (rejectedWith .check 0#8 desk).link.slot = some { reason := .check, kind := 0#8, count := 1 })
      ∧ (desk.link.slot = none ∧ desk.link.notices = [.standReady 0])
      ∧ (after .lineFreeSend desk).link.notices = []
      ∧ (sending0 .notice desk).link.sending = some { source := .notice, bytes := [] }
      ∧ ((sending0 .reply replying).link.sending = some { source := .reply, bytes := [] } ∧ (sending0 .reply replying).link.held = none)
      ∧ (sending0 .reply heldUp).link.held = some (.read .readStock)
      ∧ desk.link.notices.length < 16
      ∧ (queueNotices (List.replicate 15 (.standReady 0)) desk).link.notices.length = 16 := by decide +kernel

theorem witness_CheckByteComputation :
    (receiving desk).link.rx = .receiving ∧ crc8 (frameCore 0x15#8 [3#8]) ≠ 0xC8#8 := by decide +kernel

theorem witness_SingleByteErrorsDetected : (0x00#8 : Byte) ≠ 0x80#8 := by decide

/-- Each setting's own command does change it, and no other command of this list is needed. -/
theorem witness_OnlyTheirOwnCommandsChange :
    (after (.setStock stockReq0) desk).stocks ≠ desk.stocks ∧ (after (.setFloor 1) desk).work.floor ≠ desk.work.floor
      ∧ (after (.placeOrder place0) desk).work.placeSeq ≠ desk.work.placeSeq
      ∧ (after (.setStand standReq0) desk).stand.settings ≠ desk.stand.settings
      ∧ (after (.setRates 1 12 0) desk).tally.mountRate ≠ desk.tally.mountRate
      ∧ (after .closePeriod desk).tally.period ≠ desk.tally.period ∧ (after (.setDate 1) desk).labels.date ≠ desk.labels.date
      ∧ (after (.setPlacement 0) desk).profiles.pointer ≠ desk.profiles.pointer
      ∧ (after (.setRange 0 0 4 1) desk).profiles.ranges ≠ desk.profiles.ranges
      ∧ (after .trayOut desk).feeder.map ≠ desk.feeder.map
      ∧ (after (.loadRoll 0 7 0 12) desk).film.loadSeq ≠ desk.film.loadSeq
      ∧ (after .readHead desk).freeIx ≠ desk.freeIx := by decide +kernel

def fullList : State :=
  { desk with work := { desk.work with orders := (List.range 24).map fun k => { order0 with number := k + 100, seq := k } } }

theorem witness_PlaceOrder :
    (LinkFree desk ∧ (desk.stock place0.stock).enabled = true ∧ (∀ o ∈ desk.work.orders, o.number ≠ place0.number)
        ∧ desk.work.orders.length < 24)
      ∧ (desk.stock 3).enabled = false ∧ (LinkFree placed ∧ ¬∀ o ∈ placed.work.orders, o.number ≠ place0.number)
      ∧ (LinkFree fullList ∧ (∀ o ∈ fullList.work.orders, o.number ≠ place0.number) ∧ ¬fullList.work.orders.length < 24)
      ∧ (okPlace place0 = true
        ∧ okPlace { place0 with number := 65535, account := 0xFFFE, cls := 15, n := 9, spacing := 12, offset := 36, magn := 15,
                                slides := [⟨16777215, none, some 12⟩] } = true
        ∧ okPlace { place0 with account := 0xFFFF } = false ∧ okPlace { place0 with slides := [⟨0, none, none⟩] } = false
        ∧ okPlace { place0 with slides := List.replicate 40 ⟨1, none, some (-12)⟩ } = true
        ∧ okPlace { place0 with slides := List.replicate 41 ⟨1, none, none⟩ } = false) := by decide +kernel

theorem witness_AmendOrder :
    LinkFree placed ∧ placed.order? 6 = none ∧ placed.order? 5 = some order0 ∧ okAmend amend0 = true
      ∧ okAmend { amend0 with n := 2 } = false ∧ okAmend { number := 5, mask := 0x100#16 } = false
      ∧ ((0x0001#16).getLsbD 0 = true ∧ LinkFree ready ∧ (5 : Nat) ∈ ready.work.stack ∧ (ready.order? 5).isSome = true) := by
  decide +kernel

theorem witness_CancelAndHoldOrder :
    (LinkFree placed ∧ placed.order? 6 = none)
      ∧ (LinkFree loading ∧ (loading.order? 5).isSome = true ∧ loading.stand.cycle = some cycle0 ∧ cycle0.order = 5)
      ∧ ((placed.order? 5).isSome = true ∧ placed.stand.cycle = none)
      ∧ (∀ r ∈ unloaded.allRolls, (r.groups.map fun g => g.first).Nodup)
      ∧ (cancelEffect 5 unloaded).slotRoll? 0 = none
      ∧ (cancelEffect 5 unloaded).link.notices = unloaded.link.notices ++ [.orderCancelled 5, .rollClosed 7 0 .automatic 0 0 1 0 0] := by
  decide +kernel

def heldOrder (r : HoldReason) : State := { desk with work := { desk.work with orders := [{ order0 with state := .held r }] } }

theorem witness_ReleaseOrderAndSetFloor :
    (LinkFree (heldOrder .host) ∧ (heldOrder .host).order? 5 = some { order0 with state := .held .host })
      ∧ (heldOrder .host).order? 6 = none
      ∧ ((after (.holdOrder 5) loading).order? 5).map (fun o => (o.state, o.holdPending)) = some (.active, true)
      ∧ (placed.order? 5 = some order0 ∧ order0.holdPending = false)
      ∧ ((15 : Nat) ≤ 15 ∧ (15 : Nat) < 16)
      ∧ NumbersDistinct (heldOrder .film)
      ∧ ((releaseFilm 0 (heldOrder .film)).work.orders.map fun o => o.state) = [.pending]
      ∧ ((releaseCeiling (heldOrder (.ceiling 15))).work.orders.map fun o => o.state) = [.pending]
      ∧ ((releaseOriginal (heldOrder .original)).work.orders.map fun o => o.state) = [.pending]
      ∧ ((releaseFilm 1 (heldOrder .film)).work.orders.map fun o => o.state) = [.held .film] := by decide +kernel

theorem witness_NextSlideAndOrderChanged :
    nextSlide { order0 with slides := [{ slide0 with outcome := .reshootDue }, slide0] } = some 1
      ∧ nextSlide { order0 with slides := [{ slide0 with outcome := .shot }, { slide0 with outcome := .reshootDue }] } = some 1
      ∧ nextSlide { order0 with slides := [{ slide0 with outcome := .shot }] } = none
      ∧ placed.order? 5 = some order0
      ∧ (∀ x ∈ ({ order0 with slides := [{ slide0 with outcome := .kept }, { slide0 with outcome := .rejected }] } : Order).slides,
          x.outcome = .kept ∨ x.outcome = .rejected) := by decide +kernel

/-- The choice of an event that leaves a slot for it, and one STAND CHANGED for a lamp gone off. -/
theorem witness_EventsEndByTheirRules :
    (ready.stand.mode ≠ .running ∧ { ready with stand := { ready.stand with mode := .running } }.stand.mode = .running
        ∧ ready.stand.cycle = none)
      ∧ (ready.stand.mode, ready.head.lamp, ready.feeder.present) ≠ (desk.stand.mode, desk.head.lamp, desk.feeder.present) := by
  decide +kernel

def stacked (floor : Nat) (top : Nat) : State :=
  { ready with work := { ready.work with orders := [{ order0 with state := .active, cls := top }, { order0 with number := 6, seq := 1 }], floor := floor } }

/-- The top FILLING, its former state ACTIVE. -/
def fillingTop (s : State) : State :=
  { s with work := { s.work with orders := s.work.orders.map fun o => if o.number = 5 then { o with state := .filling, former := some .active } else o } }

theorem witness_PushAndTopSlideTests :
    (findBack ready 0 3 = some .backA ∧ findBack ready 0 12 = some .backA ∧ findBack ready 0 13 = none ∧ findBack ready 1 3 = none
        ∧ 0 < 3 ∧ cameraBack ready = .backA)
      ∧ (nextCat order0 = some 1000 ∧ (∃ p < 80, ready.mapAt p = some 1000) ∧ (∀ p < 80, State.reset.mapAt p ≠ some 1000))
      ∧ (desk.film.backA.state ≠ .ready ∧ desk.film.backB.state ≠ .ready)
      ∧ ceilingCheck ready 1 0 8 3 = none
      ∧ ceilingCheck { tallying ready with stocks := ready.stocks.setIfInBounds 0 { stock0 with rate := 301 } } 1 0 8 3 = some 0
      ∧ backToClose ready 0 = some .backA
      ∧ candidate placed = some order0 ∧ candidate desk = none
      ∧ ((candidate (stacked 7 7)).map (fun o => o.number) = some 6 ∧ (pushCandidate (stacked 7 7)).work.stack = [6, 5])
      ∧ (pushCandidate (stacked 8 7)).work.stack = [5] ∧ (pushCandidate (stacked 7 8)).work.stack = [5]
      ∧ (pushCandidate (stacked 7 7)).work.orders.map (fun o => o.state) = [.preempted, .active]
      ∧ (pushCandidate (fillingTop (stacked 7 7))).work.orders.map (fun o => (o.state, o.former))
        = [(.filling, some .preempted), (.active, none)]
      ∧ (pushCandidate { stacked 7 7 with work := { (stacked 7 7).work with stack := [] } }).work.stack = [6]
      ∧ (fillCandidate (stacked 0 8) 0).map (fun o => o.number) = some 6 := by decide +kernel

/-- Two orders on the stack, the lower one PREEMPTED; every slide of the top is KEPT. -/
def doneTop : State :=
  { ready with work := { ready.work with
      orders := [{ order0 with state := .preempted }, { order0 with number := 6, seq := 1, cls := 9, state := .active, slides := [{ slide0 with outcome := .kept }] }],
      stack := [6, 5] } }

/-- A bracket of the top that fits on no back, with FILL as given and one PENDING order that fits. -/
def unfit (fill : Bool) (stock : Nat) : State :=
  { ready with
    work := { ready.work with orders := [{ order0 with state := .active, n := 9 }, { order0 with number := 6, seq := 1, stock := stock }] },
    film := { ready.film with backA := { ready.film.backA with roll := some { roll0 with next := 10 } } },
    stand := { ready.stand with mode := .running, settings := { ready.stand.settings with fill := fill } } }

theorem witness_ChoiceRepeatsFillsAndCloses :
    (doneTop.work.stack = [6, 5] ∧ ((doneTop.order? 6).bind nextSlide) = none ∧ (ready.order? 5).bind nextSlide = some 0)
      ∧ (popDone 2 doneTop).work.orders.map (fun o => o.state) = [.active, .exposed]
      ∧ (removeFromStack 6 { doneTop with work := { doneTop.work with orders := [{ order0 with state := .filling, former := some .preempted }, { order0 with number := 6 }] } }).work.orders.map (fun o => (o.state, o.former))
        = [(.filling, some .active), (.pending, none)]
      ∧ (removeFromStack 5 ready).work.stack = [] ∧ (7 : Nat) ∉ doneTop.work.stack ∧ desk.work.stack = []
      ∧ (choiceLoop 3 (unfit false 0)).film.backA.state = .full
      ∧ (choiceLoop 3 (unfit false 0)).work.orders.map (fun o => o.state) = [.held .film, .held .film]
      ∧ (choiceLoop 3 (unfit true 0)).work.orders.map (fun o => (o.state, o.former)) = [(.active, none), (.filling, some .pending)]
      ∧ fillCandidate (unfit true 1) 0 = none ∧ backToClose (unfit true 1) 0 = some .backA ∧ filmTest (unfit true 1) 0 = true
      ∧ findBack (unfit true 1) 0 9 = none ∧ (choiceLoop 3 (unfit true 1)).film.backA.state = .full
      ∧ ((unfit true 1).work.orders.length + 3 ≤ 5 ∧ choiceLoop 6 (unfit true 1) = choiceLoop 5 (unfit true 1))
      ∧ cameraBack ready = .backA ∧ cameraBack desk = .backA
      ∧ cameraBack { ready with film := { ready.film with turret := .turning .backB } } = .backB := by decide +kernel

theorem witness_ChoiceStartsTestedSlides :
    { ready with stand := { ready.stand with mode := .running } }.stand.cycle = none
      ∧ ((runChoice { ready with stand := { ready.stand with mode := .running } }).stand.cycle.map fun c => c.pos) = some 3 := by
  decide +kernel

theorem witness_BracketPlanTerms :
    (15 : Nat) ≤ 15 ∧ magnCorrection 15 = 32 ∧ magnCorrection 0 = 0 ∧ (-60 + -0 : Int) < -48 ∧ (48 : Int) < 12 + 48
      ∧ (-48 ≤ (0 + -48 : Int) ∧ (0 + -48 : Int) ≤ 48) ∧ cycle0.n = 2 * 1 + 1
      ∧ ((computePlan stock0 cycle0 30 true).steps[2]?.map fun p => (p.j, p.e, p.dense)) = some (1, 102, true) := by decide +kernel

/-- The limits of the three realisations, and the lengthening with k 6 at E 121 and 160: 121.5 rounds up to 122. -/
theorem witness_StepRealisation :
    (24 ≤ (23 : Int) + 12 * 1 ∧ (23 : Int) + 12 * 1 < 36) ∧ 12 * 1 ≤ 36 ∧ (24 ≤ (-12 : Int) + 12 * 3 ∧ (-12 : Int) + 12 * 3 < 36)
      ∧ (24 ≤ (-13 : Int) + 12 * 4 ∧ (-13 : Int) + 12 * 4 < 36) ∧ 36 < 12 * 4
      ∧ (realise 6 121).code = 122 ∧ (realise 6 160).code = 180 ∧ (realise 6 161).longClamp = true ∧ (realise 0 120).code = 120
      ∧ (realise 0 24).nd = 0 := by decide +kernel

theorem witness_ShutterTicks :
    (11 : Nat) < 12 ∧ (2 * 1888 - 1) ^ 12 < 2 ^ 12 * 1000 ^ 12 * 2 ^ 11 ∧ 2 ^ 12 * 1000 ^ 12 * 2 ^ 11 < (2 * 1888 + 1) ^ 12
      ∧ codeTicks 24 = 40 ∧ codeTicks 180 = 327680 ∧ codeTicks 36 = 80 := by decide +kernel

theorem witness_StepRealisation_plans : (computePlan stock0 cycle0 30 false).steps.length = 3 := by decide +kernel

theorem witness_TableRequests_setStock :
    LinkFree desk ∧ LinkFree placed ∧ okStockReq stockReq0 = true ∧ okStockReq { stockReq0 with stock := 4 } = false
      ∧ (okStockReq { stockReq0 with stock := 0, enabled := 0, eRef := 24 } = true ∧ placed.work.orders.map (fun o => o.stock) = [0])
      ∧ (LinkFree loading ∧ loading.stand.cycle = some cycle0 ∧ cycle0.stock = 0) := by decide +kernel

def entry0 (cat : Nat) (mode : ProfileMode) (used : Bool) : OriginalEntry :=
  { cat := cat, mode := mode, p := 0, fixed := none, used := used, uses := 255, last := none }

def tableOf (v : Option OriginalEntry) (pointer : Option Nat) : ProfileTable :=
  { originals := Vector.replicate 48 v, ranges := Vector.replicate 8 none, pointer := pointer }

/-- One table for each clause: held (in place, with the pointer on it, with the pointer elsewhere), not held with a pointer, with a
free slot at either end, and full with an unused LEARNED entry, with used ones alone, and with none LEARNED. -/
theorem witness_SlotForAWrite :
    ((tableOf none none).setOriginal 0 (some (entry0 9 .manual true))).original? 0 = some (entry0 9 .manual true)
      ∧ ((tableOf none (some 47)).setOriginal 47 (some (entry0 9 .manual true))).pointer = some 47
      ∧ ((tableOf none (some 47)).setOriginal 0 (some (entry0 9 .manual true))).original? 47 = none
      ∧ (∀ k < 48, (tableOf none (some 0)).original? k = none)
      ∧ ((∀ j < 47, ((tableOf (some (entry0 8 .manual true)) none).setOriginal 47 none).original? j ≠ none)
          ∧ ((tableOf (some (entry0 8 .manual true)) none).setOriginal 47 none).original? 47 = none)
      ∧ (∀ j < 48, (tableOf (some (entry0 8 .learned false)) none).original? j = some (entry0 8 .learned false))
      ∧ (∀ j < 48, (tableOf (some (entry0 8 .learned true)) none).original? j = some (entry0 8 .learned true))
      ∧ (∀ j < 48, (tableOf (some (entry0 8 .noLearn true)) none).original? j = some (entry0 8 .noLearn true)) := by decide +kernel

theorem witness_TableRequests_setProfile :
    LinkFree desk ∧ desk.profiles.choose 9 = some { slot := 0, inPlace := false, table := desk.profiles, displaced := [] }
      ∧ (tableOf (some (entry0 8 .noLearn true)) none).choose 9 = none
      ∧ (((tableOf none none).setOriginal 0 (some (entry0 9 .manual true))).choose 9).map (fun c => c.inPlace) = some true := by
  decide +kernel

theorem witness_TableRequests_others :
    LinkFree desk ∧ (16777216 - 4096) % 2 ^ 12 = 0 ∧ 17 % 2 ^ 4 ≠ 0
      ∧ (after (.setRange 7 16773120 12 (-24)) desk).profiles.range? 7 = some { base := 16773120, exponent := 12, p := -24 }
      ∧ rep (.dropProfile 0 47) { desk with profiles := tableOf (some (entry0 8 .manual true)) none }
        = some (acceptedMsg 0x1B false [.u 1 1, .u 3 8])
      ∧ (after (.setPlacement 63) desk).profiles.pointer = none ∧ rep (.setPlacement 64) desk = some (refusedMsg 0x1C .range) := by
  decide +kernel

theorem witness_ProfileLookup :
    ((tableOf none none).setOriginal 47 (some (entry0 9 .learned false))).original? 47 = some (entry0 9 .learned false)
      ∧ (after (.setRange 7 16 4 5) desk).profiles.range? 7 = some { base := 16, exponent := 4, p := 5 }
      ∧ (after (.setRange 7 16 4 5) desk).profiles.lookup 31 = { source := .range 7, p := 5, fixed := none }
      ∧ (after (.setRange 7 16 4 5) desk).profiles.lookup 32 = { source := .miss, p := 0, fixed := none } := by decide +kernel

theorem witness_Learning :
    ((tableOf none none).setOriginal 0 (some (entry0 9 .learned false))).original? 0 = some (entry0 9 .learned false)
      ∧ ((tableOf none none).learn 9 9 12 20 (.kept 4)).2 = .inserted 0 none
      ∧ ((tableOf none none).learn 9 9 12 20 (.kept 4)).1.original? 0
        = some { entry0 9 .learned true with p := 24, uses := 0, last := some (.kept 4) }
      ∧ ((tableOf (some (entry0 8 .manual true)) none).learn 9 9 12 20 .under).2 = .dropped := by decide +kernel

theorem witness_MapTray :
    LinkFree desk ∧ desk.feeder.present = true ∧ (LinkFree State.reset ∧ State.reset.feeder.present = false)
      ∧ 3 ∈ loading.feeder.feedBusy ∧ exposing.feeder.gate = .holds 3 1000
      ∧ (mapEntries [⟨80, 1⟩, ⟨79, 16777216⟩, ⟨3, 0⟩, ⟨79, 1000⟩, ⟨79, 16777215⟩] loading).2
        = [.range, .range, .busy, .duplicate 3, .done] := by decide +kernel

theorem witness_ReadsChangeNothing :
    LinkFree desk ∧ LinkFree printing ∧ (LinkFree loading ∧ loading.stand.cycle = some cycle0) ∧ loading.feeder.feedBusy.head? = some 3
      ∧ (LinkFree exposing ∧ exposing.feeder.gate = .holds 3 1000) ∧ desk.stand.cycle = none := by
  decide +kernel

theorem witness_ReadsOfRecords :
    LinkFree desk ∧ LinkFree placed ∧ LinkFree printing ∧ LinkFree unloaded ∧ placed.order? 5 = some order0
      ∧ 0 < order0.slides.length ∧ order0.slides.length ≤ 1 ∧ placed.order? 65535 = none
      ∧ (unloaded.roll? 7).map (fun r => (r.groups.length, r.declared)) = some (1, 12) ∧ unloaded.roll? 999999 = none
      ∧ (labelRecord? printing { roll := 7, frame := 2 }).isSome = true ∧ labelRecord? printing { roll := 7, frame := 72 } = none := by
  decide +kernel

def noLeaders : State := { desk with stand := { desk.stand with settings := { desk.stand.settings with leaderCount := 0 } } }

theorem witness_LoadRoll :
    LinkFree desk ∧ (desk.back .backA).state = .empty ∧ (desk.back .backB).state = .empty ∧ (desk.stock 0).enabled = true
      ∧ (desk.stock 3).enabled = false ∧ (∀ r ∈ desk.allRolls, r.id ≠ 7)
      ∧ (LinkFree ready ∧ (ready.back .backA).state ≠ .empty ∧ (ready.back .backB).state = .empty ∧ ∃ r ∈ ready.allRolls, r.id = 7)
      ∧ desk.stand.settings.leaderCount ≠ 0 ∧ (LinkFree noLeaders ∧ noLeaders.stand.settings.leaderCount = 0) := by decide +kernel

def backAt (st : BackState) : State := { ready with film := { ready.film with backA := { ready.film.backA with state := st } } }

def fullRegister (s : State) : State := { s with register := Vector.replicate 8 (some { roll3 with id := 8 }) }

theorem witness_RewindUnloadAndClear :
    (LinkFree ready ∧ 1 < 2 ∧ (ready.back .backA).state = .ready ∧ (ready.back .backA).advance = none
        ∧ (ready.back .backA).owed = false ∧ ready.stand.cycle = none)
      ∧ (LinkFree desk ∧ (desk.back .backA).state = .empty)
      ∧ (LinkFree loading ∧ loading.stand.cycle = some cycle0 ∧ cycle0.back = .backA)
      ∧ (LinkFree (backAt .rewound) ∧ ((backAt .rewound).back .backA).state = .rewound ∧ (backAt .rewound).slotRoll? 0 = none
        ∧ ((backAt .rewound).back .backA).roll = some roll0)
      ∧ (LinkFree (backAt (.fault .advanceTimeout)) ∧ ((backAt (.fault .advanceTimeout)).back .backA).state = .fault .advanceTimeout)
      ∧ (LinkFree (fullRegister (backAt .rewound)) ∧ ∀ k < 8, (fullRegister (backAt .rewound)).slotRoll? k ≠ none)
      ∧ rep (.unloadBack 0) (fullRegister (backAt .rewound)) = some (refusedMsg 0x23 .full) := by decide +kernel

def modeAt (m : StandMode) (s : State) : State := { s with stand := { s.stand with mode := m } }

theorem witness_StartStopAndSetStand_startStop :
    (LinkFree ready ∧ ready.stand.mode = .stopped ∧ ready.stand.cycle = none ∧ ready.feeder.gate = .empty
        ∧ ready.head.lamp ≠ .failed)
      ∧ (LinkFree loading ∧ loading.stand.mode = .running ∧ loading.stand.cycle.isSome = true)
      ∧ (modeAt .stopped loading).stand.mode = .stopped
      ∧ ((modeAt .stopped { exposing with stand := { exposing.stand with cycle := none } }).feeder.gate ≠ .empty)
      ∧ (modeAt (.halted .trayOut) ready).stand.mode = .halted .trayOut ∧ (modeAt .running ready).stand.cycle = none
      ∧ (modeAt .stopping loading).stand.mode = .stopping := by decide +kernel

theorem witness_StartStopAndSetStand_setStand :
    LinkFree desk ∧ okStand standReq0 = true ∧ okStand { mask := 0x3F#16, feedLimit := 20000, advanceLimit := 5000, leaderCount := 4, fill := 1, idleMinutes := 60, tokenLimit := 30000 } = true
      ∧ okStand { mask := 0x40#16 } = false ∧ okStand { mask := 1#16, feedLimit := 999 } = false := by decide +kernel

theorem witness_AbortSlideAndResetStand :
    (LinkFree loading ∧ AtWork loading ∧ loading.stand.cycle = some cycle0 ∧ cycle0.cause = none)
      ∧ (LinkFree ready ∧ ¬AtWork ready ∧ ready.stand.cycle = none ∧ NumbersDistinct ready)
      ∧ ((after .abortSlide loading).stand.cycle.map fun c => c.cause) = some (some .abortSlide)
      ∧ (LinkFree doneTop ∧ doneTop.stand.cycle = none ∧ NumbersDistinct doneTop ∧ doneTop.work.stack.Nodup
        ∧ doneTop.link.notices.length + doneTop.work.stack.length < 16)
      ∧ (LinkFree exposing ∧ exposing.feeder.gate = .holds 3 1000 ∧ (after .resetStand exposing).feeder.gate = .foreign)
      ∧ (after .resetStand (modeAt .running doneTop)).link.notices.drop doneTop.link.notices.length
        = [.orderChanged 6 .exposed, .orderChanged 5 .pending, .standChanged .stopped .off true] := by decide +kernel

/-- The steps of RESET STAND as functions of the state meet what the statement asks of them. -/
theorem witness_AbortSlideAndResetStand_steps :
    (∀ u : State, resetFeeder u = { u with feeder := { u.feeder with
          pos := none, gate := match u.feeder.gate with | .holds _ _ => .foreign | gate => gate } })
      ∧ (∀ (u : State) (k : Nat), u.order? k = none → releaseOne k u = u)
      ∧ (∀ u : State, u.stand.cycle = none → resetCycle u = u)
      ∧ ∀ u : State, emptyStack u
          = u.work.stack.foldl (fun s k => releaseOne k s) { u with work := { u.work with stack := [] } } := by
  refine ⟨fun _ => rfl, fun u k h => ?_, fun u h => ?_, fun _ => rfl⟩
  · simp [releaseOne, h]
  · simp [resetCycle, h]

theorem witness_AbortSettlesTheCycle :
    (loading.stand.cycle = some cycle0 ∧ cycle0.cause = none ∧ loading.stand.expose = none ∧ cycleGroup loading cycle0 = none)
      ∧ ((open_ false).stand.cycle.map (fun c => (c.cause, (c.step?.map fun p => p.j))) = some (none, some (-1))
        ∧ (open_ false).stand.expose.isSome = true ∧ ((open_ false).back .backA).advance = none)
      ∧ ((open_ false).stand.cycle.bind (cycleGroup (open_ false))).map (fun g => (g.exposed, g.n)) = some (0, 3)
      ∧ ((abortCycle .abortSlide none (open_ false)).film.backA.roll.map fun r => r.frames.map fun f => (f.kind, f.selection))
        = some [(.spoilt, .discarded)]
      ∧ feederOfCycle (abortCycle .abortSlide none loading) = true
      ∧ (feederOfCycle (abortCycle .abortSlide none exposing) = false
        ∧ (abortCycle .abortSlide none exposing).feeder.gate = .holds 3 1000)
      ∧ ((abort .abortSlide none exposing).feeder.op.map fun o => o.job) = some (.ret 3)
      ∧ ((abort (.halt .trayOut) none exposing).feeder.op = none ∧ (abort (.halt .trayOut) none exposing).stand.cycle = none)
      ∧ ready.feeder.op = none ∧ ready.feeder.waiting = [] ∧ loading.feeder.op.isSome = true := by decide +kernel

theorem witness_ReportSelections :
    (({ printing with labels := { printing.labels with line := .idle } }).labels.line = .idle
        ∧ printing.labels.queue = [{ roll := 7, frame := 2 }] ∧ desk.labels.line ≠ .idle ∧ desk.labels.queue = []
        ∧ (labelEventEnd desk desk).link = desk.link)
      ∧ (LinkFree unloaded ∧ unloaded.slotRoll? 0 = some { roll3 with unloadSeq := some 0, unloadKind := some .rewound })
      ∧ (LinkFree ready ∧ (∃ r ∈ ready.allRolls, r.id = 7) ∧ ∀ k < 8, ready.slotRoll? k = none)
      ∧ (∀ r ∈ desk.allRolls, r.id ≠ 7)
      ∧ okSelect ⟨72, 3, 0⟩ = true ∧ okSelect ⟨1, 0, -4⟩ = true ∧ okSelect ⟨73, 1, 0⟩ = false ∧ okSelect ⟨1, 0, 5⟩ = false := by
  decide +kernel

/-- A label queue with 32 labels of a roll that is older. -/
def fullQueue (s : State) : State :=
  { s with labels := { s.labels with queue := (List.range 32).map fun k => { roll := 6, frame := k + 1 } } }

theorem witness_SelectionEntries :
    (unloaded.slotRoll? 0 = some { roll3 with unloadSeq := some 0, unloadKind := some .rewound }
        ∧ roll3.groups.find? (fun g => g.first == 1) = some group0 ∧ group0.completeness = .complete ∧ group0.outcome = .unselected
        ∧ (∀ g ∈ roll3.groups, g.first ≠ 2))
      ∧ (applyEntry 0 ⟨2, 0, 0⟩ unloaded).2 = .unknown ∧ (applyEntry 0 ⟨1, 0, 2⟩ unloaded).2 = .range
      ∧ (applyEntry 0 ⟨1, 1, 0⟩ printing).2 = .already
      ∧ (applyEntry 0 ⟨1, 1, 0⟩ (unloaded.onSlot 0 fun r => { r with groups := [{ group0 with completeness := .incomplete }] })).2 = .incomplete
      ∧ ((group0.n - 1) / 2 = 1 ∧ ((1 : Int)).natAbs = 1)
      ∧ ((applyEntry 0 ⟨1, 0, 1⟩ unloaded).1.labels.records.map fun x => x.key.frame) = [3]
      ∧ (unloaded.order? 5).isSome = true
      ∧ ((applyEntry 0 ⟨1, 0, 1⟩ unloaded).1.labels.queue = [{ roll := 7, frame := 3 }]
        ∧ labelStateOf (applyEntry 0 ⟨1, 0, 1⟩ unloaded).1 { roll := 7, frame := 3 } = some .queued)
      ∧ (applyEntry 0 ⟨1, 0, 1⟩ unloaded).2
        = .done (.kept 1) (some { slide0 with attempts := 1, outcome := .kept }) (some (.inserted 0 none)) (some (3, some .queued)) true
      ∧ (labelStateOf (applyEntry 0 ⟨1, 0, 1⟩ (fullQueue unloaded)).1 { roll := 7, frame := 3 } = some .waiting
        ∧ (applyEntry 0 ⟨1, 0, 1⟩ (fullQueue unloaded)).1.labels.queue.length = 32) := by decide +kernel

theorem witness_CloseRoll :
    (LinkFree unloaded ∧ (∃ r ∈ unloaded.allRolls, r.id = 7)
        ∧ unloaded.slotRoll? 0 = some { roll3 with unloadSeq := some 0, unloadKind := some .rewound })
      ∧ (∀ r ∈ desk.allRolls, r.id ≠ 7) ∧ (LinkFree ready ∧ ∀ k < 8, ready.slotRoll? k = none)
      ∧ (LinkFree printing ∧ (printing.slotRoll? 0).map (fun r => r.frames.map fun f => (f.selection, f.label))
        = some [(.discarded, none), (.kept, some .queued), (.discarded, none)]) := by decide +kernel

theorem witness_PrinterRequests :
    LinkFree desk ∧ LinkFree printing ∧ desk.labels.line = .paused ∧ desk.labels.head = none ∧ desk.labels.run = .off
      ∧ rep .pausePrinter printing = some (acceptedMsg 0x31 false [.u 1 1]) ∧ rep .pausePrinter desk = some (acceptedMsg 0x31 false [.u 1 0])
      ∧ rep (.printLabels 0) (after .jammedToken printing)
        = some (acceptedMsg 0x30 false [.u 1 3, .u 1 0, .u 1 1, .u 1 1, .u 2 0])
      ∧ printing.labels.line = .awaiting ∧ printing.labels.head = some { roll := 7, frame := 2 }
      ∧ (after .jammedToken printing).labels.line = .stopped .jammed ∧ LinkFree (after .jammedToken printing)
      ∧ (printing.roll? 7).isSome = true ∧ labelStateOf printing { roll := 7, frame := 2 } = some .queued
      ∧ labelStateOf (setLabelState { roll := 7, frame := 2 } .failed printing) { roll := 7, frame := 2 } = some .failed := by
  decide +kernel

theorem witness_TallyRequests :
    LinkFree desk ∧ (8 : Nat) ≤ 8 ∧ (15 : Nat) ≤ 15 ∧ rep (.setRates 9999 8 9999) desk = some (acceptedMsg 0x36 false [.u 2 9999, .u 1 8, .u 2 9999])
      ∧ rep (.setRates 10000 8 0) desk = some (refusedMsg 0x36 .range)
      ∧ (after .closePeriod { desk with tally := { desk.tally with period := 65535 } }).tally.period = 0 := by decide +kernel

theorem witness_TallyRequests_setCounter :
    LinkFree (tallying desk) ∧ counterAt (tallying desk).tally.counters 0 = counter0 ∧ okCounter counterReq0 = true
      ∧ counter0.acctMatch &&& ~~~counter0.acctMask = 0#16 ∧ counter0.locked = false
      ∧ okCounter { counter := 0, mask := 0x200#16 } = false ∧ okCounter { counter := 16, mask := 0#16 } = false
      ∧ okCounter { counter := 15, mask := 0x20#16, ceiling := some 4294967295 } = true
      ∧ (0x0001#16 : BitVec 16) &&& ~~~(0x0000#16) ≠ 0#16 := by decide +kernel

theorem witness_PostingsAndCeilings :
    LinkFree desk ∧ counter0.enabled = true ∧ counter0.kinds.getLsbD PostKind.adjust.number = true
      ∧ (counterAt (post .adjust 1 none 19 (tallying desk)).tally.counters 0).crossed = false
      ∧ (counterAt (post .adjust 1 none 20 (tallying desk)).tally.counters 0).crossed = true
      ∧ (counterAt (post .adjust 1 none (-200) (tallying desk)).tally.counters 0).total = 0
      ∧ ceilingCheck { tallying desk with stocks := desk.stocks.setIfInBounds 0 { stock0 with rate := 300 } } 1 0 8 3 = none
      ∧ ceilingCheck { tallying desk with stocks := desk.stocks.setIfInBounds 0 { stock0 with rate := 301 } } 1 0 8 3 = some 0
      ∧ rep (.adjustAccount 0xFFFE (-99999)) (tallying desk) = some (acceptedMsg 0x39 false [.u 1 1, .u 1 0, .u 4 0])
      ∧ rep (.adjustAccount 0xFFFF 0) desk = some (refusedMsg 0x39 .range)
      ∧ (counterAt
          (creditFrames 0
            (((open_ false).film.backA.roll.map fun r =>
              [false, true].map fun credited =>
                { stepFrame cycle0 { j := 0, e := 84, code := 84, nd := 0, ticks := 1280, dense := false, shortClamp := false, longClamp := false } .exposure (some 7) (some 1) r with credited := credited }).getD [])
            (post .adjust 1 none 19 (tallying desk))).tally.counters 0).total
          = (counterAt (post .adjust 1 none 19 (tallying desk)).tally.counters 0).total - 7 := by decide +kernel

def jobOn (job : FeederJob) (homing stale : Bool) (s : State) : State :=
  { s with feeder := { s.feeder with op := some { job := job, homing := homing, limit := 6000, stale := stale, ofCycle := false } } }

def jobWaits (job : FeederJob) (s : State) : State :=
  { s with feeder := { s.feeder with op := none, waiting := [{ job := job, ofCycle := false }] } }

theorem witness_FeederEvents :
    NumbersDistinct ready ∧ NumbersDistinct exposing
      ∧ ((jobWaits (.feed 3 1000) ready).feeder.op = none ∧ (jobWaits (.feed 3 1000) ready).feeder.gate = .empty)
      ∧ ((jobWaits (.feed 3 1000) exposing).feeder.gate ≠ .empty) ∧ (jobWaits (.ret 3) exposing).feeder.waiting = [{ job := .ret 3, ofCycle := false }]
      ∧ (ready.feeder.op = none ∧ ready.feeder.waiting = [])
      ∧ ((jobOn .home false false ready).feeder.op.map fun o => (o.job, o.stale)) = some (.home, false)
      ∧ ((jobOn (.feed 3 1000) true false ready).feeder.op.map fun o => (o.job, o.homing)) = some (.feed 3 1000, true)
      ∧ (AtWork loading ∧ ¬AtWork ready) ∧ (AtWork (modeAt .running ready) ∧ (modeAt .running ready).stand.cycle = none) := by
  decide +kernel

theorem witness_TrayAndGateEvents :
    NumbersDistinct exposing ∧ (exposing.stand.cycle.isSome = true ∧ exposing.feeder.gate = .holds 3 1000)
      ∧ (ready.stand.cycle = none ∧ ready.feeder.present = true) ∧ State.reset.feeder.present = false
      ∧ ready.feeder.op = none ∧ ((jobOn (.feed 3 1000) false true ready).feeder.op.map fun o => o.stale) = some true
      ∧ ((jobOn (.ret 3) false false exposing).feeder.op.map fun o => o.job) = some (.ret 3)
      ∧ (exposing.feeder.op = none ∧ { exposing with stand := { exposing.stand with cycle := none } }.stand.cycle = none) := by
  decide +kernel

def meterOn (ofCycle : Bool) (s : State) : State :=
  { s with head := { s.head with meter := some { cat := 1000, stale := false, ofCycle := ofCycle } } }

theorem witness_LightHeadEvents :
    NumbersDistinct ready ∧ ready.head.lamp = .ready ∧ (desk.head.lamp = .off ∧ desk.head.idle = none)
      ∧ { ready with head := { ready.head with lamp := .warming } }.head.lamp = .warming
      ∧ (AtWork (modeAt .running ready) ∧ (modeAt .running ready).stand.cycle = none)
      ∧ { ready with head := { ready.head with idle := some 60 } }.head.idle.isSome = true
      ∧ ready.head.meter = none ∧ ((meterOn true exposing).head.meter.isSome = true ∧ exposing.stand.cycle.isSome = true)
      ∧ ((meterOn true ready).stand.cycle = none) ∧ ready.head.ndOp = none
      ∧ (takeReadings 7 400 401 0 1023 1) = { centre := 400, upperLeft := 400, upperRight := 0, lowerLeft := 400, lowerRight := 1, d := 300, dense := true, cat := 7 }
      ∧ 16 * 300 ≤ 2 * (4 * min 400 400 + min 400 401 + min 400 0 + min 400 1023 + min 400 1) + 8
      ∧ 2 * (4 * min 400 400 + min 400 401 + min 400 0 + min 400 1023 + min 400 1) + 8 < 16 * 301 := by
  decide +kernel

def advancing (cause : AdvanceCause) (left : Nat) (st : BackState) : State :=
  { ready with film := { ready.film with backA :=
      { ready.film.backA with state := st, leaderLeft := left, advance := some { cause := cause, limit := 1500, ofCycle := false } } } }

/-- A back in LEADER with two and with one advance left, READY with its last frame used, and the two failures. -/
theorem witness_AdvanceEvents :
    NumbersDistinct ready ∧ ((ready.back .backA).advance = none ∧ (ready.back .backA).owed = false ∧ (ready.back .backA).waiting = [])
      ∧ ((advancing .leader 2 .leader).back .backA).state = .leader
      ∧ (after (.advanceComplete .backA) (advancing .leader 2 .leader)).film.backA.leaderLeft = 1
      ∧ (after (.advanceComplete .backA) (advancing .leader 1 .leader)).film.backA.state = .ready
      ∧ (after (.advanceComplete .backA) ((advancing .step 0 .ready).onBackRoll .backA fun r => { r with next := 13 })).film.backA.state = .full
      ∧ (after (.advanceTimeout .backA) (advancing .spent 0 .rewinding)).film.backA.state = .rewinding
      ∧ (exposing.stand.cycle.map fun c => (c.back, c.cause, c.phase)) = some (.backA, none, .exposing) := by decide +kernel

theorem witness_SwapAndRewindEvents :
    NumbersDistinct ready ∧ ready.film.swapWaiting = [] ∧ ready.film.swap = none ∧ ready.film.turret = .stands .backA
      ∧ ((advancing .spent 0 .ready).back .backA).advance.isSome = true
      ∧ ((open_ false).stand.expose.isSome = true ∧ ((open_ false).stand.cycle.map fun c => c.back) = some .backA)
      ∧ ((backAt .rewinding).back .backA).state = .rewinding
      ∧ (AtWork (modeAt .running ready) ∧ (modeAt .running ready).stand.cycle = none)
      ∧ askSwap .backA true ready = ready ∧ (askSwap .backB true ready).film.turret = .turning .backB
      ∧ ((askSwap .backA true (askSwap .backB true ready)).film.swapWaiting.map fun w => w.target) = [.backA]
      ∧ ((askSwap .backB true (advancing .spent 0 .ready)).film.swapWaiting.map fun w => w.target) = [.backB] := by
  decide +kernel

theorem witness_ShutterEvents :
    NumbersDistinct exposing
      ∧ (exposing.stand.cycle.bind Cycle.step?).map (fun p => (p.nd, p.ticks)) = some (0, 1810)
      ∧ ((after .exposeStart exposing).stand.expose = some { ticks := 1810, closing := false })
      ∧ (after .exposeStart { exposing with head := { exposing.head with lamp := .warming } }).stand.expose = none
      ∧ (loading.stand.cycle.bind Cycle.step?) = none ∧ exposing.stand.expose = none
      ∧ ((open_ true).stand.expose.map fun e => e.closing) = some true ∧ ((open_ false).stand.expose.map fun e => e.closing) = some false
      ∧ ((open_ true).back .backA).advance = none ∧ (open_ true).feeder.op = none ∧ (open_ true).feeder.waiting = []
      ∧ ((after .exposeComplete ({ open_ true with stand := { (open_ true).stand with
            cycle := (open_ true).stand.cycle.map fun c => { c with nextStep := 2 } } })).feeder.op.map fun o => o.job) = some (.ret 3) := by
  decide +kernel

/-- Two kept frames of the roll in slot 0 are WAITING. -/
def waitingTwo : State :=
  { unloaded with
    register := unloaded.register.setIfInBounds 0
      (some { roll3 with
        unloadSeq := some 0, unloadKind := some .rewound,
        frames := roll3.frames.map fun f => if f.number = 2 then f else { f with selection := .kept, label := some .waiting } }) }

theorem witness_PrinterLineEvents :
    desk.labels.head = none ∧ desk.labels.line ≠ .awaiting ∧ printing.labels.line = .awaiting ∧ printing.labels.waitOn = true
      ∧ printing.labels.head = some { roll := 7, frame := 2 } ∧ desk.labels.out = none
      ∧ ((after .tokenTimeout printing).labels.line = .stopped .noToken ∧ (after .tokenTimeout printing).labels.timedOut = true)
      ∧ (after .printedToken (after .tokenTimeout printing)).labels.queue = []
      ∧ { printing with labels := { printing.labels with out := some [], waitOn := false } }.labels.out.isSome = true
      ∧ ({ printing with labels := { printing.labels with line := .idle } }.labels.line = .idle
        ∧ printing.labels.queue = [{ roll := 7, frame := 2 }])
      ∧ (0x00#8 : Byte) ∉ [0x50#8, 0x4A#8, 0x45#8, 0x46#8]
      ∧ after (.unknownPrinterByte 0x4A#8) printing = after .jammedToken printing
      ∧ (waitingTwo.labels.queue.length < 32 ∧ RollsSound waitingTwo
        ∧ labelsWith .waiting waitingTwo = [{ roll := 7, frame := 1 }, { roll := 7, frame := 3 }])
      ∧ ((fillQueue waitingTwo).labels.queue.map fun k => k.frame) = [1, 3]
      ∧ waitingTwo.slotRoll? 0 ≠ none := by decide +kernel

theorem witness_SlideStartPlanAndCycleEnd :
    (nextSlide order0 = some 0 ∧ order0.slides[0]? = some slide0 ∧ ready.mapAt 3 = some slide0.cat
        ∧ (∀ p < 3, ready.mapAt p ≠ some slide0.cat) ∧ ready.feeder.op = none ∧ ready.feeder.waiting = []
        ∧ ready.feeder.gate = .empty ∧ ready.film.turret = .stands .backA ∧ desk.film.turret ≠ .stands .backA)
      ∧ ((startSlide order0 .backA (jobWaits .home ready)).feeder.waiting.map fun w => w.job) = [.home, .feed 3 1000]
      ∧ (AtWork exposing ∧ exposing.feeder.op = none ∧ exposing.feeder.waiting = [] ∧ exposing.feeder.gate ≠ .empty
        ∧ (startSlide order0 .backA exposing).stand.mode = .halted .feedTimeout)
      ∧ ({ exposing with stand := { exposing.stand with cycle := some cycle0 } }.feeder.gate = .holds cycle0.pos cycle0.cat
        ∧ exposing.head.lamp = .ready ∧ cycle0.phase = .loading ∧ cycle0.profile.fixed = none ∧ exposing.head.meter = none)
      ∧ ((exposing.back cycle0.back).roll.isSome = true ∧ (computePlan (exposing.stock 0) cycle0 30 false).steps[0]?.isSome = true
        ∧ exposing.head.nd = some 0)
      ∧ ((loading.order? 5).isSome = true ∧ NumbersDistinct loading ∧ loading.link.notices.length < 16)
      ∧ (modeAt .stopping loading).stand.mode = .stopping
      ∧ ((endCycle loading).work.orders.map fun o => (o.state, o.slides.map fun x => x.outcome)) = [(.active, [.notShot])]
      ∧ (loading.back cycle0.back).roll.isSome = true ∧ cycle0.groupFirst = none ∧ cycleGroup loading cycle0 = none
      ∧ ((exposing.stand.cycle.bind fun c => c.groupFirst).isSome = true
        ∧ (exposing.stand.cycle.bind (cycleGroup exposing)).isSome = true)
      ∧ (tryEndNormal { exposing with stand := { exposing.stand with cycle := some { cycle0 with phase := .finishing } } }).stand.cycle = none
      ∧ tryEndNormal exposing = exposing := by
  decide +kernel

theorem witness_ProfilesKept : ProfilesSound { desk with profiles := (ProfileTable.initial.setOriginal 0 (some (entry0 9 .learned true))) } := by
  refine ⟨?_, ?_, ?_, ?_⟩
  all_goals decide +kernel

/-- The invariants hold in a state in the middle of a cycle, of a step that goes on. -/
theorem witness_Kept :
    LinkSound exposing ∧ SettingsSound exposing ∧ TallySound exposing ∧ FeederSound exposing
      ∧ WorkSound exposing ∧ RollsSound exposing ∧ RollsSound printing ∧ WorkSound (stacked 7 7) ∧ WorkSound doneTop
      ∧ ServiceSound exposing ∧ ServiceSound doneTop ∧ ServiceSound (fillingTop ready) := by
  refine ⟨?_, ?_, ?_, ?_, ?_, ?_, ?_, ?_, ?_, ?_, ?_, ?_⟩
  all_goals decide +kernel

/-- The film log is sound with the group of the cycle in flight open and its shutter open. -/
theorem witness_FilmLogsKept : RollsSound (open_ false) ∧ FilmLogSound (open_ false) := by
  refine ⟨?_, ?_, ?_, ?_, ?_, ?_, ?_⟩
  · decide +kernel
  · decide +kernel
  · decide +kernel
  · rintro c ⟨⟩
    refine ⟨?_, ?_, ?_, ?_, ?_, ?_, _, rfl, ?_⟩
    all_goals decide +kernel
  · intro _
    exact ⟨_, rfl, rfl, rfl, _, rfl, by decide⟩
  · rintro m ⟨⟩
  · intro r hr g hg _
    have h : (open_ false).allRolls = [{ roll0 with groups := [{ group0 with exposed := 0, completeness := .opened }] }] := by
      decide +kernel
    rw [h, List.mem_singleton] at hr
    subst hr
    simp only [List.mem_singleton] at hg
    subst hg
    exact .inr ⟨_, rfl, rfl, rfl, rfl, rfl, by decide⟩

/-- The label unit is sound with a label being printed. -/
theorem witness_LabelQueueKept : RollsSound printing ∧ LabelsSound printing := by
  refine ⟨?_, ?_, ?_, ?_, ?_, ?_, ?_, ?_, ?_, ?_⟩
  · decide +kernel
  · decide +kernel
  · intro b; cases b <;> decide +kernel
  · decide +kernel
  · have h : labelsWith .queued printing = printing.labels.queue := by decide +kernel
    intro k; rw [h]
  · decide +kernel
  · decide +kernel
  · decide +kernel
  · decide +kernel
  · intro _; decide +kernel

end Sys2Proof.Tests
end

section
/-! SUPPORT. Rules for the work list, each proved once: sorted insertion, the live order of a number after each update of the
orders, and the soundness of the work list under every elementary change. -/

namespace Sys2Proof

/-! ## Sorted insertion -/

/-- An insertion only adds the new entry. -/
theorem insertBy_perm {α : Type} (le : α → α → Bool) (x : α) (l : List α) : (insertBy le x l).Perm (x :: l) := by
  induction l with
  | nil => exact .refl _
  | cons y ys ih =>
    unfold insertBy
    split
    · exact .refl _
    · exact (ih.cons y).trans (.swap x y ys)

theorem sortBy_perm {α : Type} (le : α → α → Bool) (l : List α) : (sortBy le l).Perm l := by
  induction l with
  | nil => exact .refl _
  | cons x xs ih => exact (insertBy_perm le x _).trans (ih.cons x)

/-- An insertion keeps a list in the order `R` when `le` decides on which side of an entry the new one belongs. -/
theorem insertBy_pairwise {α : Type} {R : α → α → Prop} (le : α → α → Bool) (x : α) (l : List α)
    (trans : ∀ a b c, R a b → R b c → R a c) (before : ∀ y, le x y = true → R x y) (behind : ∀ y, le x y = false → R y x)
    (hl : l.Pairwise R) : (insertBy le x l).Pairwise R := by
  induction l with
  | nil => simp [insertBy]
  | cons y ys ih =>
    obtain ⟨hy, hys⟩ := List.pairwise_cons.1 hl
    unfold insertBy
    split
    · rename_i hxy
      refine List.pairwise_cons.2 ⟨fun z hz => ?_, hl⟩
      rcases List.mem_cons.1 hz with rfl | hz
      · exact before _ hxy
      · exact trans _ _ _ (before _ hxy) (hy z hz)
    · rename_i hxy
      refine List.pairwise_cons.2 ⟨fun z hz => ?_, ih hys⟩
      rcases List.mem_cons.1 ((insertBy_perm le x ys).mem_iff.1 hz) with rfl | hz
      · exact behind _ (by simpa using hxy)
      · exact hy z hz

/-- A search that the new entry does not answer is the search of the list before the insertion. -/
theorem find?_insertBy {α : Type} (le : α → α → Bool) (p : α → Bool) (x : α) (l : List α) (hx : p x = false) :
    (insertBy le x l).find? p = l.find? p := by
  induction l with
  | nil => simp [insertBy, hx]
  | cons y ys ih =>
    unfold insertBy
    split
    · simp [hx]
    · simp [List.find?_cons, ih]

end Sys2Proof

namespace Sys2Proof.Machine

/-! ## The live order of a number -/

theorem order?_number {s : State} {k : Nat} {o : Order} (h : s.order? k = some o) : o.number = k := by
  simpa using List.find?_some h

theorem order?_mem {s : State} {k : Nat} {o : Order} (h : s.order? k = some o) : o ∈ s.work.orders := List.mem_of_find?_eq_some h

theorem order?_eq_none_iff {s : State} {k : Nat} : s.order? k = none ↔ ∀ o ∈ s.work.orders, o.number ≠ k := by
  simp [State.order?]

theorem order?_isSome_iff {s : State} {k : Nat} : (s.order? k).isSome = true ↔ ∃ o ∈ s.work.orders, o.number = k := by
  simp [State.order?]

/-- With the order numbers distinct, a live order is the one of its number. -/
theorem order?_of_mem {s : State} (hd : NumbersDistinct s) {o : Order} (ho : o ∈ s.work.orders) : s.order? o.number = some o := by
  cases hk : s.order? o.number with
  | none => exact absurd rfl (order?_eq_none_iff.1 hk o ho)
  | some p => exact congrArg some (List.inj_on_of_nodup_map hd (order?_mem hk) ho (order?_number hk))

/-- The orders read the work list alone. -/
theorem order?_of_work {s t : State} (h : t.work = s.work) (k : Nat) : t.order? k = s.order? k := by
  unfold State.order?; rw [h]

/-- A change of an order that keeps its number is seen by the look-up of that number alone. -/
theorem order?_onOrder (n k : Nat) (f : Order → Order) (s : State) (hf : ∀ o, (f o).number = o.number) :
    (s.onOrder n f).order? k = if k = n then (s.order? n).map f else s.order? k := by
  have hp : ((fun o : Order => o.number == k) ∘ fun o => if o.number == n then f o else o) = fun o => o.number == k := by
    funext o
    simp only [Function.comp_apply]
    split <;> simp [hf]
  simp only [State.order?, State.onOrder, onWork_work, List.find?_map, hp]
  split
  · rename_i hk
    subst hk
    exact Option.map_congr fun o ho => by simp [order?_number (s := s) ho]
  · rename_i hk
    have : ∀ o, s.order? k = some o → (if o.number == n then f o else o) = o := fun o ho => by
      simp [order?_number ho, hk]
    exact (Option.map_congr this).trans Option.map_id'

theorem order?_freeOrder (n k : Nat) (s : State) : (freeOrder n s).order? k = if k = n then none else s.order? k := by
  simp only [State.order?, freeOrder, onWork_work, List.find?_filter]
  split
  · rename_i hk
    simp [hk]
  · rename_i hk
    congr 1
    funext o
    by_cases h : o.number = k <;> simp [h, hk]

/-- The state of the order of a number after it has been given one. -/
theorem order?_setOrderState (n k : Nat) (st : OrderState) (former : Option FormerState) (s : State) :
    (setOrderState n st former s).order? k
      = if k = n then (s.order? n).map fun o => { o with state := st, former := former } else s.order? k := by
  unfold setOrderState
  split
  · rename_i h
    split
    · rename_i hk; simp [hk, h]
    · rfl
  · have h1 := order?_onOrder n k (fun o => { o with state := st, former := former }) s fun _ => rfl
    simp only
    split
    · exact h1
    · exact (order?_of_work (queueNotice_work _ _) k).trans h1

/-! ## The soundness of the work list -/

/-- The soundness of the work list speaks of the work list alone. -/
theorem WorkSound.of_work {s t : State} (h : t.work = s.work) (hs : WorkSound s) : WorkSound t := by
  obtain ⟨hd, hn, hp, hl, hk, hc, hf, hq⟩ := hs
  have hcls : classOf t = classOf s := funext fun k => by unfold classOf; rw [order?_of_work h]
  refine ⟨?_, ?_, ?_, ?_, ?_, ?_, ?_, ?_⟩ <;> simp only [NumbersDistinct, h, hcls, order?_of_work h] <;> assumption

/-- A change of one order that keeps its number and sequence, and its class while it is in the stack, keeps the list sound. -/
theorem WorkSound.onOrder {s : State} (hs : WorkSound s) (n : Nat) (f : Order → Order)
    (hf : ∀ o, (f o).number = o.number ∧ (f o).seq = o.seq) (hcls : n ∈ s.work.stack → ∀ o, (f o).cls = o.cls) :
    WorkSound (s.onOrder n f) := by
  obtain ⟨hd, hn, hp, hl, hk, hc, hfl, hq⟩ := hs
  have hord := fun k => order?_onOrder n k f s fun o => (hf o).1
  have hclass : ∀ k ∈ s.work.stack, classOf (s.onOrder n f) k = classOf s k := fun k hk => by
    unfold classOf
    rw [hord]
    split
    · rename_i h
      subst h
      simp [Option.map_map, Function.comp_def, hcls hk]
    · rfl
  refine ⟨?_, ?_, ?_, hl, fun k hm => ?_, ?_, hfl, hq⟩
  · have : (fun o : Order => (if o.number == n then f o else o).number) = fun o => o.number := by
      funext o; split <;> simp [(hf o).1]
    simp only [NumbersDistinct, State.onOrder, onWork_work, List.map_map, Function.comp_def, this]
    exact hd
  · simpa [State.onOrder] using hn
  · refine List.pairwise_map.2 (hp.imp fun {a b} h => ?_)
    have : ∀ o : Order, (if o.number == n then f o else o).seq = o.seq := fun o => by split <;> simp [(hf o).2]
    simp only [this]
    exact h
  · rw [hord]
    split
    · rename_i h; subst h; simpa using hk _ hm
    · exact hk k hm
  · exact hc.imp_of_mem fun {a b} ha hb h => by rw [hclass a ha, hclass b hb]; exact h

/-- Orders that leave the stack leave the work list sound. -/
theorem WorkSound.unstack {s : State} (hs : WorkSound s) (test : Nat → Bool) :
    WorkSound (s.onWork fun w => { w with stack := w.stack.filter test }) := by
  obtain ⟨hd, hn, hp, hl, hk, hc, hf, hq⟩ := hs
  exact ⟨hd, hn, hp, (List.length_filter_le _ _).trans hl, fun k hm => hk k (List.mem_of_mem_filter hm), hc.filter _, hf, hq⟩

/-- An order that is in no place of the stack is freed. -/
theorem WorkSound.free {s : State} (hs : WorkSound s) (n : Nat) (hout : n ∉ s.work.stack) : WorkSound (freeOrder n s) := by
  obtain ⟨hd, hn, hp, hl, hk, hc, hf, hq⟩ := hs
  have hord : ∀ k ∈ s.work.stack, (freeOrder n s).order? k = s.order? k := fun k hm => by
    rw [order?_freeOrder, if_neg fun h : k = n => hout (h ▸ hm)]
  refine ⟨hd.sublist (List.filter_sublist.map _), (List.length_filter_le _ _).trans hn, hp.filter _, hl,
    fun k hm => by rw [hord k hm]; exact hk k hm, ?_, hf, hq⟩
  refine hc.imp_of_mem fun {a b} ha hb h => ?_
  simpa only [classOf, hord a ha, hord b hb] using h

/-- An order of a class above the current priority goes onto the stack, which has room for it. -/
theorem WorkSound.push {s : State} (hs : WorkSound s) {o : Order} (ho : o ∈ s.work.orders) (hcls : currentPriority s < o.cls)
    (hroom : s.work.stack.length < Config.maxStack) :
    WorkSound (s.onWork fun w => { w with stack := o.number :: w.stack }) := by
  obtain ⟨hd, hn, hp, hl, hk, hc, hf, hq⟩ := hs
  have hclass : classOf s o.number = o.cls := by simp [classOf, order?_of_mem hd ho]
  refine ⟨hd, hn, hp, hroom, fun k hm => ?_, List.pairwise_cons.2 ⟨fun k hm => ?_, hc⟩, hf, hq⟩
  · rcases List.mem_cons.1 hm with rfl | hm
    · exact order?_isSome_iff.2 ⟨o, ho, rfl⟩
    · exact hk k hm
  · change classOf s k < classOf s o.number
    rw [hclass]
    refine lt_of_le_of_lt ?_ (lt_of_le_of_lt (Nat.le_max_right s.work.floor _) hcls)
    cases hst : s.work.stack with
    | nil => simp [hst] at hm
    | cons top rest =>
      have htop : topClass s = classOf s top := by simp [topClass, classOf, hst]
      rw [hst] at hm hc
      rw [htop]
      rcases List.mem_cons.1 hm with rfl | hm
      · exact le_refl _
      · exact ((List.pairwise_cons.1 hc).1 k hm).le

/-- Every elementary change keeps the work list sound. -/
theorem Move.workSound (a b : State) (h : Move a b) (hs : WorkSound a) : WorkSound b := by
  cases h with
  | order number f _ hf => exact hs.onOrder number f (fun o => ⟨(hf o).1, (hf o).2.2⟩) fun _ o => (hf o).2.1
  | unstack test => exact hs.unstack test
  | free number _ hout => exact hs.free number hout
  | push o _ ho hc hl => exact hs.push ho hc hl
  | _ => exact hs.of_work rfl

/-! ## The requests that write the work list -/

/-- An accepted AMEND ORDER of an order in the stack does not select the class (R19). -/
theorem amended_cls_of_mem_stack {q : AmendReq} {s : State} (h : amendRefusal q s = none) (hin : q.number ∈ s.work.stack)
    (o : Order) : (amended q o).cls = o.cls := by
  have hstate := firstFailing_none h (!(q.mask.getLsbD 0 && inService s q.number), .state) (by simp)
  have hserv : inService s q.number = true := by simp [inService, hin]
  simp only [hserv, Bool.and_true, Bool.not_eq_true'] at hstate
  simp only [amended, pick, hstate, Bool.false_eq_true, if_false]

/-- A PLACE ORDER that passes its tests adds an order of a new number, behind those of its sequence (R3, R4). -/
theorem WorkSound.place {s : State} (hs : WorkSound s) (q : PlaceReq) (h : placeRefusal q s = none) :
    WorkSound (s.onWork fun w =>
      { w with orders := insertBy (fun a b => decide (a.seq < b.seq)) (placedOrder q w.placeSeq) w.orders,
               placeSeq := nextSeq w.placeSeq }) := by
  obtain ⟨hd, hn, hp, hl, hk, hc, hf, hq⟩ := hs
  have hfresh : s.order? q.number = none := by
    simpa using firstFailing_none h ((s.order? q.number).isNone, .duplicate) (by simp)
  have hroom : s.work.orders.length < Config.maxOrders := by
    simpa using firstFailing_none h (decide (s.work.orders.length < Config.maxOrders), .full) (by simp)
  have hord : ∀ k ∈ s.work.stack, (State.onWork (fun w =>
      { w with orders := insertBy (fun a b => decide (a.seq < b.seq)) (placedOrder q w.placeSeq) w.orders,
               placeSeq := nextSeq w.placeSeq }) s).order? k = s.order? k := fun k hm => by
    have hne : q.number ≠ k := fun h => by
      have := hk k hm
      rw [← h, hfresh] at this
      cases this
    exact find?_insertBy _ _ _ _ (by simpa [placedOrder] using hne)
  refine ⟨?_, ?_, ?_, hl, fun k hm => by rw [hord k hm]; exact hk k hm, ?_, hf, ?_⟩
  · refine ((insertBy_perm _ _ _).map fun o : Order => o.number).nodup_iff.2 (List.nodup_cons.2 ⟨?_, hd⟩)
    simpa [placedOrder] using order?_eq_none_iff.1 hfresh
  · rw [onWork_work, (insertBy_perm _ _ _).length_eq]
    exact hroom
  · refine insertBy_pairwise _ _ _ (fun _ _ _ => le_trans) (fun y hy => ?_) (fun y hy => ?_) hp
    · exact (of_decide_eq_true hy).le
    · exact not_lt.1 (of_decide_eq_false hy)
  · refine hc.imp_of_mem fun {a b} ha hb h => ?_
    simpa only [classOf, hord a ha, hord b hb] using h
  · exact Nat.mod_lt _ (by decide)

/-- The work list at power-on is sound. -/
theorem WorkSound.initial (rate : Nat) (tray gate : Bool) : WorkSound (State.initial rate tray gate) := by
  refine ⟨?_, ?_, ?_, ?_, ?_, ?_, ?_, ?_⟩ <;> simp [NumbersDistinct, State.initial, WorkList.initial]

/-- Every change that a command makes itself keeps the work list sound. -/
theorem OwnMove.workSound (o : Own) (a b : State) (h : OwnMove o a b) (hs : WorkSound a) : WorkSound b := by
  cases h with
  | place q _ h => exact hs.place q h
  | amend q _ h => exact hs.onOrder q.number _ (fun _ => ⟨rfl, rfl⟩) fun hin => amended_cls_of_mem_stack h hin
  | floor v _ hv =>
    obtain ⟨hd, hn, hp, hl, hk, hc, _, hq⟩ := hs
    exact ⟨hd, hn, hp, hl, hk, hc, hv, hq⟩
  | power s1 s0 tray gate => exact (WorkSound.initial (strapRate s1 s0) tray gate).of_work rfl
  | load b => cases b <;> exact hs.of_work rfl
  | unload b => cases b <;> exact hs.of_work rfl
  | clear b => cases b <;> exact hs.of_work rfl
  | _ => exact hs.of_work rfl

end Sys2Proof.Machine

/-! ## The kept work list -/

namespace Sys2Proof.Machine

/-- What a step is: idling, or the command at the front of the queue on the state with the queue's rest. -/
theorem step_cases {s t : State} (h : step s = .next t) : t = s ∨ ∃ c rest, exec c (s.withPending rest) = .next t := by
  unfold step at h
  split at h
  · cases h; exact .inl rfl
  · exact .inr ⟨_, _, h⟩

/-- A property that the elementary changes and every command's own changes keep, and that does not read the queue of commands, is
kept by a step. -/
theorem step_keeps {P : State → Prop} (hq : ∀ s q, P s → P (s.withPending q)) (hm : ∀ a b, Move a b → P a → P b)
    (ho : ∀ o a b, OwnMove o a b → P a → P b) {s t : State} (h : step s = .next t) (hs : P s) : P t := by
  rcases step_cases h with rfl | ⟨c, rest, hc⟩
  · exact hs
  · exact (exec_steps c _ t hc).keeps hm (fun o _ => ho o) (hq s rest hs)

/-- Settles O56: every elementary change and every command's own change keeps the work list sound. -/
theorem workListKept : Obligations.WorkListKept := fun _ _ hs h =>
  step_keeps (fun _ _ hs => WorkSound.of_work rfl hs) Move.workSound OwnMove.workSound h hs

end Sys2Proof.Machine
end

section
/-! SUPPORT. The operations that leave the work list as it is: one lemma each. -/

namespace Sys2Proof.Machine

/-! ## Film and backs -/

@[simp] theorem queueNotices_work (ns : List Notice) (s : State) : (queueNotices ns s).work = s.work := by
  unfold queueNotices
  induction ns generalizing s with
  | nil => rfl
  | cons n ns ih => exact ih _

@[simp] theorem onBack_work (b : BackId) (f : Back → Back) (s : State) : (s.onBack b f).work = s.work := rfl
@[simp] theorem onBackRoll_work (b : BackId) (f : Roll → Roll) (s : State) : (s.onBackRoll b f).work = s.work := rfl
@[simp] theorem onSlot_work (k : Nat) (f : Roll → Roll) (s : State) : (s.onSlot k f).work = s.work := rfl
@[simp] theorem writeFrame_work (b : BackId) (f : Roll → Frame) (s : State) : (writeFrame b f s).work = s.work := rfl

@[simp] theorem setBackState_work (b : BackId) (st : BackState) (s : State) : (setBackState b st s).work = s.work := by
  unfold setBackState; simp only; split <;> rfl

@[simp] theorem makeFull_work (b : BackId) (s : State) : (makeFull b s).work = s.work := by unfold makeFull; split <;> simp

@[simp] theorem startAdvance_work (b : BackId) (cause : AdvanceCause) (c : Bool) (s : State) :
    (startAdvance b cause c s).work = s.work := rfl

@[simp] theorem askAdvance_work (b : BackId) (cause : AdvanceCause) (c : Bool) (s : State) :
    (askAdvance b cause c s).work = s.work := by unfold askAdvance; split <;> rfl

@[simp] theorem spentAdvance_work (b : BackId) (s : State) : (spentAdvance b s).work = s.work := by
  unfold spentAdvance; split <;> rfl

@[simp] theorem startOwed_work (b : BackId) (s : State) : (startOwed b s).work = s.work := by unfold startOwed; split <;> rfl

@[simp] theorem beginSwap_work (b : BackId) (c : Bool) (s : State) : (beginSwap b c s).work = s.work := by
  unfold beginSwap; split <;> rfl

@[simp] theorem askSwap_work (b : BackId) (c : Bool) (s : State) : (askSwap b c s).work = s.work := by
  unfold askSwap; split <;> simp

@[simp] theorem emptyBack_work (b : BackId) (s : State) : (emptyBack b s).work = s.work := by simp [emptyBack]

@[simp] theorem fullWhenUsed_work (b : BackId) (s : State) : (fullWhenUsed b s).work = s.work := by
  unfold fullWhenUsed; repeat' split
  all_goals simp

@[simp] theorem startWaitingAdvance_work (b : BackId) (s : State) : (startWaitingAdvance b s).work = s.work := by
  unfold startWaitingAdvance; repeat' split
  all_goals simp

@[simp] theorem startWaitingSwap_work (s : State) : (startWaitingSwap s).work = s.work := by
  unfold startWaitingSwap; repeat' split
  all_goals simp

@[simp] theorem swapCompleteEvent_work (s : State) : (swapCompleteEvent s).work = s.work := by
  unfold swapCompleteEvent; split <;> rfl

@[simp] theorem rewindCompleteEvent_work (b : BackId) (s : State) : (rewindCompleteEvent b s).work = s.work := by
  unfold rewindCompleteEvent; split <;> simp

@[simp] theorem rewindTimeoutEvent_work (b : BackId) (s : State) : (rewindTimeoutEvent b s).work = s.work := by
  unfold rewindTimeoutEvent; split <;> simp

/-! ## The stand and the light head -/

@[simp] theorem onCycle_work (f : Cycle → Cycle) (s : State) : (onCycle f s).work = s.work := rfl
@[simp] theorem lampOff_work (s : State) : (lampOff s).work = s.work := rfl
@[simp] theorem lampLight_work (s : State) : (lampLight s).work = s.work := rfl
@[simp] theorem startIdle_work (s : State) : (startIdle s).work = s.work := rfl
@[simp] theorem stopIdle_work (s : State) : (stopIdle s).work = s.work := rfl
@[simp] theorem beginNd_work (target : Nat) (c : Bool) (s : State) : (beginNd target c s).work = s.work := rfl

@[simp] theorem setStandMode_work (m : StandMode) (s : State) : (setStandMode m s).work = s.work := by
  unfold setStandMode; simp only; split <;> rfl

@[simp] theorem setModeIf_work (m : Option StandMode) (s : State) : (setModeIf m s).work = s.work := by
  unfold setModeIf; split <;> simp

@[simp] theorem askNd_work (target : Nat) (c : Bool) (s : State) : (askNd target c s).work = s.work := by
  unfold askNd; split <;> rfl

@[simp] theorem askStepNd_work (s : State) : (askStepNd s).work = s.work := by
  unfold askStepNd; repeat' split
  all_goals simp

@[simp] theorem startWaitingNd_work (s : State) : (startWaitingNd s).work = s.work := by
  unfold startWaitingNd; split <;> rfl

@[simp] theorem ndCompleteEvent_work (s : State) : (ndCompleteEvent s).work = s.work := by
  unfold ndCompleteEvent; split <;> rfl

@[simp] theorem idleExpiryEvent_work (s : State) : (idleExpiryEvent s).work = s.work := by
  unfold idleExpiryEvent; split <;> rfl

@[simp] theorem standAfterCycle_work (s : State) : (standAfterCycle s).work = s.work := by
  unfold standAfterCycle; split <;> simp

@[simp] theorem stopEffect_work (s : State) : (stopEffect s).work = s.work := by
  unfold stopEffect; repeat' split
  all_goals simp

@[simp] theorem standEnd_work (before s : State) : (standEnd before s).work = s.work := by unfold standEnd; split <;> simp

@[simp] theorem exposeStartEvent_work (s : State) : (exposeStartEvent s).work = s.work := by
  unfold exposeStartEvent; repeat' split
  all_goals rfl

/-! ## The cycle's own operations -/

@[simp] theorem beginJob_work (job : FeederJob) (c : Bool) (s : State) : (beginJob job c s).work = s.work := rfl
@[simp] theorem waitJob_work (job : FeederJob) (c : Bool) (s : State) : (waitJob job c s).work = s.work := rfl
@[simp] theorem releaseOps_work (s : State) : (releaseOps s).work = s.work := rfl
@[simp] theorem makeCycle_work (c : Cycle) (s : State) : (makeCycle c s).work = s.work := rfl

@[simp] theorem askReturn_work (p : Nat) (s : State) : (askReturn p s).work = s.work := by unfold askReturn; split <;> simp

@[simp] theorem freePosition_work (c : Cycle) (s : State) : (freePosition c s).work = s.work := by
  unfold freePosition; repeat' split
  all_goals rfl

@[simp] theorem takePlan_work (c : Cycle) (d : Nat) (dense : Bool) (s : State) : (takePlan c d dense s).work = s.work := by
  unfold takePlan; split <;> simp

@[simp] theorem tryPlan_work (s : State) : (tryPlan s).work = s.work := by
  unfold tryPlan; repeat' split
  all_goals simp

@[simp] theorem meterEvent_work (r : Nat → Readings) (s : State) : (meterEvent r s).work = s.work := by
  unfold meterEvent; simp only; repeat' split
  all_goals simp

@[simp] theorem spoilFrame_work (c : Cycle) (s : State) : (spoilFrame c s).work = s.work := by
  unfold spoilFrame; repeat' split
  all_goals simp

@[simp] theorem homeSenseEvent_work (s : State) : (homeSenseEvent s).work = s.work := by
  unfold homeSenseEvent; repeat' split
  all_goals rfl

@[simp] theorem askTurretAndLamp_work (b : BackId) (s : State) : (askTurretAndLamp b s).work = s.work := by
  unfold askTurretAndLamp; repeat' split
  all_goals simp

@[simp] theorem mapEntry_work (e : TrayReq) (s : State) : (mapEntry e s).work = s.work := by
  unfold mapEntry; split <;> rfl

@[simp] theorem mapEntries_work (es : List TrayReq) (s : State) : (mapEntries es s).1.work = s.work := by
  induction es generalizing s with
  | nil => rfl
  | cons e es ih => exact (ih _).trans (mapEntry_work e s)

/-! ## Labels and the register -/

@[simp] theorem transmit_work (k : LabelKey) (s : State) : (transmit k s).work = s.work := rfl
@[simp] theorem dropHead_work (k : LabelKey) (token : Token) (s : State) : (dropHead k token s).work = s.work := rfl
@[simp] theorem lineAfterHead_work (s : State) : (lineAfterHead s).work = s.work := rfl
@[simp] theorem lineAfterLate_work (s : State) : (lineAfterLate s).work = s.work := rfl
@[simp] theorem stopLine_work (reason : StopReason) (s : State) : (stopLine reason s).work = s.work := rfl
@[simp] theorem labelSentEvent_work (s : State) : (labelSentEvent s).work = s.work := rfl

@[simp] theorem setLabelState_work (k : LabelKey) (st : LabelState) (s : State) : (setLabelState k st s).work = s.work := by
  unfold setLabelState; split <;> rfl

@[simp] theorem enqueue_work (k : LabelKey) (s : State) : (enqueue k s).work = s.work := by simp [enqueue]

@[simp] theorem fillBy_work (n : Nat) (s : State) : (fillBy n s).work = s.work := by
  induction n generalizing s with
  | zero => rfl
  | succ n ih =>
    unfold fillBy; repeat' split
    all_goals simp [ih]

@[simp] theorem fillQueue_work (s : State) : (fillQueue s).work = s.work := fillBy_work _ s

@[simp] theorem sendIfIdle_work (s : State) : (sendIfIdle s).work = s.work := by unfold sendIfIdle; split <;> rfl

@[simp] theorem printerEnd_work (before s : State) : (printerEnd before s).work = s.work := by
  unfold printerEnd; split <;> simp

@[simp] theorem printEnd_work (before s : State) : (printEnd before s).work = s.work := by simp [printEnd]

@[simp] theorem makeLabel_work (rec : LabelRecord) (s : State) : (makeLabel rec s).work = s.work := by
  unfold makeLabel; simp only; split <;> simp

@[simp] theorem learnFrom_work (g : Group) (step : LastStep) (s : State) : (learnFrom g step s).1.work = s.work := rfl

@[simp] theorem closeRoll_work (slot : Nat) (cause : CloseCause) (s : State) : (closeRoll slot cause s).work = s.work := by
  unfold closeRoll; split <;> rfl

@[simp] theorem closeTest_work (roll : Nat) (s : State) : (closeTest roll s).work = s.work := by
  unfold closeTest; repeat' split
  all_goals simp

@[simp] theorem closeTests_work (rolls : List Nat) (s : State) :
    (rolls.foldl (fun s k => closeTest k s) s).work = s.work := by
  induction rolls generalizing s with
  | nil => rfl
  | cons k ks ih => exact (ih _).trans (closeTest_work k s)

@[simp] theorem moveToRegister_work (b : BackId) (slot : Nat) (kind : UnloadKind) (s : State) :
    (moveToRegister b slot kind s).work = s.work := by
  unfold moveToRegister; split <;> simp

@[simp] theorem resumeLine_work (s : State) : (resumeLine s).work = s.work := by unfold resumeLine; split <;> rfl

@[simp] theorem printEffect_work (n : Nat) (s : State) : (printEffect n s).work = s.work := by
  unfold printEffect; simp only; split <;> simp

@[simp] theorem stopTokenEvent_work (token : Token) (reason : StopReason) (s : State) :
    (stopTokenEvent token reason s).work = s.work := by
  unfold stopTokenEvent; split <;> simp

@[simp] theorem formatErrorEvent_work (s : State) : (formatErrorEvent s).work = s.work := by
  unfold formatErrorEvent; repeat' split
  all_goals simp

@[simp] theorem tokenTimeoutEvent_work (s : State) : (tokenTimeoutEvent s).work = s.work := by
  unfold tokenTimeoutEvent; split <;> simp

end Sys2Proof.Machine
end

section
/-! SUPPORT. Order states and the stack. `ServedBut l s` says that the work list's orders, but for those of the numbers `l`, have
the state their place in the stack gives them (R9); the operations that move an order through the stack first give it its new
state and then mend the stack, so in between one order is exempt. -/

namespace Sys2Proof.Machine

/-! ## The state a place in the stack gives -/

/-- The state of the order at the top of the stack (R9). -/
def Order.atTop (o : Order) : Prop := o.state = .active ∨ (o.state = .filling ∧ o.former = some .active)

/-- The state of an order below the top (R9). -/
def Order.below (o : Order) : Prop := o.state = .preempted ∨ (o.state = .filling ∧ o.former = some .preempted)

/-- The state of an order in no place of the stack (R1, R9). -/
def Order.outside (o : Order) : Prop :=
  o.state ≠ .active ∧ o.state ≠ .preempted ∧ (o.state = .filling → o.former = some .pending)

/-- An order with another state and former state. -/
def Order.give (o : Order) (st : OrderState) (former : Option FormerState) : Order := { o with state := st, former := former }

@[simp] theorem give_number (o : Order) (st : OrderState) (former : Option FormerState) : (o.give st former).number = o.number := rfl

/-- The state of an order agrees with its place in a stack. -/
def Order.servedBy (stack : List Nat) (o : Order) : Prop :=
  if stack.head? = some o.number then o.atTop else if o.number ∈ stack then o.below else o.outside

/-- A state that only orders in no place of the stack have. -/
def OrderState.idle (st : OrderState) : Prop := st ≠ .active ∧ st ≠ .preempted ∧ st ≠ .filling

/-- The orders but for those of the numbers `l` have the states their places in the stack give them. -/
structure ServedBut (l : List Nat) (s : State) : Prop where
  distinct : NumbersDistinct s
  nodup : s.work.stack.Nodup
  known : ∀ k ∈ s.work.stack, (s.order? k).isSome = true
  agrees : ∀ o ∈ s.work.orders, o.number ∉ l → o.servedBy s.work.stack

/-- Every order has the state its place in the stack gives it. -/
abbrev Served (s : State) : Prop := ServedBut [] s

/-- What agreement asks of the orders of one number: the state of the top, of a place below it, or of no place. -/
theorem place_cases (stack : List Nat) (n : Nat) :
    (n ∈ stack ∧ ∀ o : Order, o.number = n → (o.servedBy stack ↔ o.atTop))
      ∨ (n ∈ stack ∧ ∀ o : Order, o.number = n → (o.servedBy stack ↔ o.below))
      ∨ (n ∉ stack ∧ ∀ o : Order, o.number = n → (o.servedBy stack ↔ o.outside)) := by
  by_cases hh : stack.head? = some n
  · exact .inl ⟨List.mem_of_mem_head? hh, fun o ho => by simp [Order.servedBy, ho, hh]⟩
  · by_cases hin : n ∈ stack
    · exact .inr (.inl ⟨hin, fun o ho => by simp [Order.servedBy, ho, hh, hin]⟩)
    · exact .inr (.inr ⟨hin, fun o ho => by simp [Order.servedBy, ho, hh, hin]⟩)

theorem servedBy_out {stack : List Nat} {o : Order} (h : o.number ∉ stack) : o.servedBy stack ↔ o.outside := by
  have hh : stack.head? ≠ some o.number := fun hh => h (List.mem_of_mem_head? hh)
  simp [Order.servedBy, hh, h]

theorem servedBy_top {top : Nat} {rest : List Nat} {o : Order} (h : o.number = top) : o.servedBy (top :: rest) ↔ o.atTop := by
  simp [Order.servedBy, h]

theorem servedBy_below {top : Nat} {rest : List Nat} {o : Order} (ht : o.number ≠ top) (h : o.number ∈ rest) :
    o.servedBy (top :: rest) ↔ o.below := by
  simp [Order.servedBy, h, Ne.symm ht]

/-- An idle state is that of an order in no place of the stack. -/
theorem outside_of_idle {o : Order} (h : o.state.idle) : o.outside := ⟨h.1, h.2.1, fun hf => absurd hf h.2.2⟩

/-- An order with an idle state is in no place of the stack. -/
theorem out_of_idle {stack : List Nat} {o : Order} (h : o.servedBy stack) (hi : o.state.idle) : o.number ∉ stack := by
  obtain ⟨ha, hp, hf⟩ := hi
  unfold Order.servedBy at h
  split at h
  · rcases h with h | ⟨h, _⟩
    · exact absurd h ha
    · exact absurd h hf
  · split at h
    · rcases h with h | ⟨h, _⟩
      · exact absurd h hp
      · exact absurd h hf
    · assumption

/-- Agreement reads the number, the state and the former state of an order alone. -/
theorem servedBy_congr {stack : List Nat} {o p : Order} (hn : p.number = o.number) (hs : p.state = o.state)
    (hf : p.former = o.former) : p.servedBy stack ↔ o.servedBy stack := by
  simp only [Order.servedBy, Order.atTop, Order.below, Order.outside, hn, hs, hf]

theorem idle_pending : OrderState.pending.idle := ⟨nofun, nofun, nofun⟩
theorem idle_exposed : OrderState.exposed.idle := ⟨nofun, nofun, nofun⟩
theorem idle_held (r : HoldReason) : (OrderState.held r).idle := ⟨nofun, nofun, nofun⟩

theorem idle_returnState (o : Order) : (returnState o).idle := by
  unfold returnState
  split
  · exact idle_pending
  · exact idle_exposed

theorem idle_of_isHeld {st : OrderState} (h : st.isHeld = true) : st.idle := by
  cases st with
  | held r => exact idle_held r
  | _ => cases h

/-! ## Exemptions -/

theorem ServedBut.of_work {l : List Nat} {s t : State} (hs : ServedBut l s) (h : t.work = s.work) : ServedBut l t := by
  obtain ⟨hd, hn, hk, ha⟩ := hs
  refine ⟨?_, ?_, ?_, ?_⟩ <;> simp only [NumbersDistinct, h, order?_of_work h] <;> assumption

theorem ServedBut.exempt {l : List Nat} {s : State} (hs : ServedBut l s) (n : Nat) : ServedBut (n :: l) s :=
  ⟨hs.distinct, hs.nodup, hs.known, fun o ho hl => hs.agrees o ho fun h => hl (List.mem_cons_of_mem n h)⟩

/-- An exemption ends once the order of the number agrees with its place. -/
theorem ServedBut.drop {l : List Nat} {s : State} {n : Nat} (hs : ServedBut (n :: l) s)
    (h : ∀ o, s.order? n = some o → n ∉ l → o.servedBy s.work.stack) : ServedBut l s := by
  refine ⟨hs.distinct, hs.nodup, hs.known, fun o ho hl => ?_⟩
  by_cases hn : o.number = n
  · subst hn
    exact h o (order?_of_mem hs.distinct ho) hl
  · exact hs.agrees o ho (by simp [hn, hl])

/-- With the stack empty, every order of it is exempt and the others are as before. -/
theorem Served.clearStack {s : State} (hs : Served s) :
    ServedBut s.work.stack (s.onWork fun w => { w with stack := [] }) := by
  refine ⟨hs.distinct, List.nodup_nil, nofun, fun o ho hl => ?_⟩
  exact (servedBy_out (by simp)).2 ((servedBy_out hl).1 (hs.agrees o ho (by simp)))

theorem Served.at_order {s : State} (hs : Served s) {n : Nat} {o : Order} (ho : s.order? n = some o) : o.servedBy s.work.stack :=
  hs.agrees o (order?_mem ho) (by simp)

/-! ## Changes of one order -/

/-- A change of one order that leaves its number, and its agreement where it is not exempt. -/
theorem ServedBut.onOrder {l : List Nat} {s : State} {n : Nat} {f : Order → Order} (hs : ServedBut (n :: l) s)
    (hf : ∀ o, (f o).number = o.number) (h : ∀ o, s.order? n = some o → n ∉ l → (f o).servedBy s.work.stack) :
    ServedBut l (s.onOrder n f) := by
  have hnum : (fun o : Order => (if o.number == n then f o else o).number) = fun o => o.number := by
    funext o; split <;> simp [hf]
  refine ⟨?_, hs.nodup, fun k hk => ?_, fun o ho hl => ?_⟩
  · simp only [NumbersDistinct, State.onOrder, onWork_work, List.map_map, Function.comp_def, hnum]
    exact hs.distinct
  · rw [order?_onOrder n k f s hf]
    split
    · rename_i hkn; subst hkn; simpa using hs.known _ hk
    · exact hs.known k hk
  · obtain ⟨p, hp, rfl⟩ := List.mem_map.1 ho
    by_cases hn : p.number = n
    · subst hn
      simp only [beq_self_eq_true, if_true, hf] at hl ⊢
      exact h p (order?_of_mem hs.distinct hp) hl
    · simp only [beq_iff_eq, hn, if_false] at hl ⊢
      exact hs.agrees p hp (by simp [hn, hl])

/-- A change that leaves an order's number, state and former state. -/
theorem ServedBut.onOrder_same {l : List Nat} {s : State} {n : Nat} {f : Order → Order} (hs : ServedBut l s)
    (hf : ∀ o, (f o).number = o.number ∧ (f o).state = o.state ∧ (f o).former = o.former) : ServedBut l (s.onOrder n f) :=
  (hs.exempt n).onOrder (fun o => (hf o).1) fun o ho hl =>
    (servedBy_congr (hf o).1 (hf o).2.1 (hf o).2.2).2 (hs.agrees o (order?_mem ho) (order?_number ho ▸ hl))

theorem setOrderState_served {l : List Nat} {s : State} {n : Nat} {st : OrderState} {former : Option FormerState}
    (hs : ServedBut (n :: l) s)
    (h : ∀ o, s.order? n = some o → n ∉ l → (o.give st former).servedBy s.work.stack) :
    ServedBut l (setOrderState n st former s) := by
  unfold setOrderState
  split
  · rename_i hn
    exact hs.drop fun o ho => by rw [hn] at ho; cases ho
  · have h1 := hs.onOrder (f := fun o => { o with state := st, former := former }) (fun _ => rfl) h
    simp only
    split
    · exact h1
    · exact h1.of_work (queueNotice_work _ _)

/-- An exempt order takes any state. -/
theorem setOrderState_exempt {s : State} {l : List Nat} {n : Nat} {st : OrderState} {former : Option FormerState}
    (hs : ServedBut l s) (hn : n ∈ l) : ServedBut l (setOrderState n st former s) :=
  setOrderState_served (hs.exempt n) fun _ _ hl => absurd hn hl

/-- An order in no place of the stack takes an idle state. -/
theorem setOrderState_idle_served {l : List Nat} {s : State} {n : Nat} {st : OrderState} {former : Option FormerState}
    (hs : ServedBut (n :: l) s) (hout : n ∉ s.work.stack) (hst : st.idle) : ServedBut l (setOrderState n st former s) :=
  setOrderState_served hs fun o ho _ => 
    (servedBy_out (o := o.give st former) (by simpa [Order.give, order?_number ho] using hout)).2 (outside_of_idle hst)

theorem releaseOne_served {l : List Nat} {s : State} {n : Nat} (hs : ServedBut (n :: l) s) (hout : n ∉ s.work.stack) :
    ServedBut l (releaseOne n s) := by
  unfold releaseOne
  split
  · rename_i hn
    exact hs.drop fun o ho => by rw [hn] at ho; cases ho
  · exact setOrderState_idle_served hs hout (idle_returnState _)

@[simp] theorem releaseOne_stack (n : Nat) (s : State) : (releaseOne n s).work.stack = s.work.stack := by
  unfold releaseOne; split <;> simp

theorem onSlide_served {l : List Nat} {s : State} {n i : Nat} {f : Slide → Slide} (hs : ServedBut l s) :
    ServedBut l (onSlide n i f s) := hs.onOrder_same fun _ => ⟨rfl, rfl, rfl⟩

/-! ## The stack -/

/-- The top of the stack, whatever its state was, is made to agree with its place. -/
theorem promoteTop_served {l : List Nat} {s : State} (hs : ServedBut (s.work.stack.head?.toList ++ l) s) :
    ServedBut l (promoteTop s) := by
  unfold promoteTop
  split
  · rename_i hst
    simpa [hst] using hs
  · rename_i top rest hst
    have hs' : ServedBut (top :: l) s := by simpa [hst] using hs
    split
    · rename_i hn
      exact hs'.drop fun o ho => by rw [hn] at ho; cases ho
    · rename_i o ho
      split
      · rename_i hfill
        refine hs'.onOrder (fun _ => rfl) fun p hp _ => ?_
        rw [ho] at hp
        cases hp
        rw [hst]
        exact (servedBy_top ((give_number o _ _).trans (order?_number ho))).2 (.inr ⟨hfill, rfl⟩)
      · refine setOrderState_served hs' fun p hp _ => ?_
        rw [hst]
        exact (servedBy_top ((give_number p _ _).trans (order?_number hp))).2 (.inl rfl)

/-- An exempt order leaves the stack: the others keep their places, but for the one that comes to the top. -/
theorem removeFromStack_served {l : List Nat} {s : State} {n : Nat} (hs : ServedBut l s) (hn : n ∈ l) :
    ServedBut l (removeFromStack n s) := by
  unfold removeFromStack
  split
  · refine promoteTop_served ⟨hs.distinct, hs.nodup.filter _, fun k hk => hs.known k (List.mem_of_mem_filter hk), fun o ho hl => ?_⟩
    simp only [onWork_work, List.mem_append, not_or] at ho hl ⊢
    obtain ⟨htop, hl⟩ := hl
    have hne : o.number ≠ n := fun h => hl (h ▸ hn)
    have hag := hs.agrees o ho hl
    by_cases hin : o.number ∈ s.work.stack
    · have hin' : o.number ∈ s.work.stack.filter fun k => k != n := by simp [hin, hne]
      generalize hst' : (s.work.stack.filter fun k => k != n) = stack' at htop hin' ⊢
      cases stack' with
      | nil => cases hin'
      | cons top' rest' =>
        have htop' : o.number ≠ top' := by simpa using htop
        have hrest' : o.number ∈ rest' := by simpa [htop'] using hin'
        refine (servedBy_below htop' hrest').2 ?_
        cases hst : s.work.stack with
        | nil => rw [hst] at hin; cases hin
        | cons top rest =>
          have hnt : o.number ≠ top := by
            rintro rfl
            rw [hst, List.filter_cons_of_pos (by simpa using hne)] at hst'
            exact htop' (List.cons.inj hst').1
          rw [hst] at hag hin
          exact (servedBy_below hnt (by simpa [hnt] using hin)).1 hag
    · refine (servedBy_out fun h => hin (List.mem_of_mem_filter h)).2 ((servedBy_out hin).1 hag)
  · exact hs

/-- The order that leaves the stack is itself not changed by it. -/
theorem order?_removeFromStack_self (n : Nat) (s : State) : (removeFromStack n s).order? n = s.order? n := by
  unfold removeFromStack
  split
  · have key : ∀ t : State, n ∉ t.work.stack → (promoteTop t).order? n = t.order? n := fun t hout => by
      unfold promoteTop
      split
      · rfl
      · rename_i top rest hst
        have hne : n ≠ top := fun h => hout (by simp [hst, h])
        split
        · rfl
        · split
          · rw [order?_onOrder _ _ _ _ (by exact fun _ => rfl), if_neg hne]
          · rw [order?_setOrderState, if_neg hne]
    exact key _ (by simp)
  · rfl

/-- An order takes an idle state and leaves the stack. -/
theorem leave_served {s : State} {n : Nat} {st : OrderState} (hs : Served s) (hst : st.idle) :
    Served (removeFromStack n (setOrderState n st none s)) := by
  refine (removeFromStack_served (setOrderState_exempt (hs.exempt n) (by simp)) (by simp)).drop fun o ho _ => ?_
  have hnum := order?_number ho
  rw [order?_removeFromStack_self, order?_setOrderState, if_pos rfl] at ho
  obtain ⟨p, _, rfl⟩ := Option.map_eq_some_iff.1 ho
  refine (servedBy_out ?_).2 (outside_of_idle hst)
  rw [hnum]
  exact removeFromStack_out n _

theorem holdWith_served {s : State} {n : Nat} {r : HoldReason} (hs : Served s) : Served (holdWith n r s) :=
  leave_served hs (idle_held r)

/-- An order in no place of the stack is freed. -/
theorem freeOrder_served {l : List Nat} {s : State} {n : Nat} (hs : ServedBut (n :: l) s) (hout : n ∉ s.work.stack) :
    ServedBut l (freeOrder n s) := by
  refine ⟨hs.distinct.sublist (List.filter_sublist.map _), hs.nodup, fun k hk => ?_, fun o ho hl => ?_⟩
  · rw [order?_freeOrder, if_neg fun h : k = n => hout (h ▸ hk)]
    exact hs.known k hk
  · obtain ⟨ho, hne⟩ := List.mem_filter.1 ho
    exact hs.agrees o ho (by simpa [hl] using hne)

/-- An order leaves the stack and is freed. -/
theorem finish_served {s : State} {n : Nat} {notice : Notice} (hs : Served s) :
    Served (queueNotice notice (freeOrder n (removeFromStack n s))) :=
  (freeOrder_served (removeFromStack_served (hs.exempt n) (by simp)) (removeFromStack_out n s)).of_work (queueNotice_work _ _)

/-! ## Releases -/

theorem releaseAll_served {ks : List Nat} {s : State} (hs : Served s) (hout : ∀ k ∈ ks, k ∉ s.work.stack) :
    Served (ks.foldl (fun s k => releaseOne k s) s) := by
  induction ks generalizing s with
  | nil => exact hs
  | cons k ks ih =>
    refine ih (releaseOne_served (hs.exempt k) (hout k (by simp))) fun j hj => ?_
    rw [releaseOne_stack]
    exact hout j (by simp [hj])

theorem releaseWhere_served {test : Order → Bool} {s : State} (hs : Served s) (ht : ∀ o, test o = true → o.state.idle) :
    Served (releaseWhere test s) := by
  refine releaseAll_served hs fun k hk => ?_
  obtain ⟨o, ho, rfl⟩ := List.mem_map.1 hk
  obtain ⟨ho, htest⟩ := List.mem_filter.1 ho
  exact out_of_idle (hs.agrees o ho (by simp)) (ht o htest)

theorem releaseCeiling_served {s : State} (hs : Served s) : Served (releaseCeiling s) := by
  refine releaseWhere_served hs fun o ho => ?_
  unfold OrderState.isCeiling at ho
  split at ho
  · rename_i h; rw [h]; exact idle_held _
  · cases ho

theorem releaseFilm_served {stock : Nat} {s : State} (hs : Served s) : Served (releaseFilm stock s) :=
  releaseWhere_served hs fun o ho => by
    simp only [Bool.and_eq_true, decide_eq_true_eq] at ho
    rw [ho.1]
    exact idle_held _

theorem releaseOriginal_served {s : State} (hs : Served s) : Served (releaseOriginal s) :=
  releaseWhere_served hs fun o ho => by
    simp only [Bool.and_eq_true, decide_eq_true_eq] at ho
    rw [ho.1]
    exact idle_held _

/-- The stack is emptied, and each order that was in it returned (R27). -/
theorem emptyStack_served {s : State} (hs : Served s) : Served (emptyStack s) := by
  have key : ∀ (ks : List Nat) (t : State), ServedBut ks t → t.work.stack = [] →
      Served (ks.foldl (fun s k => releaseOne k s) t) := by
    intro ks
    induction ks with
    | nil => exact fun t ht _ => ht
    | cons k ks ih => exact fun t ht hst => ih _ (releaseOne_served ht (by simp [hst])) (by simpa using hst)
  exact key _ _ hs.clearStack rfl

theorem takeOutcomeChange_served {n : Nat} {s : State} (hs : Served s) : Served (takeOutcomeChange n s) := by
  unfold takeOutcomeChange
  split
  · exact hs
  · rename_i o ho
    split
    · exact finish_served hs
    · split
      · rename_i hexp
        refine setOrderState_idle_served (hs.exempt n) ?_ idle_pending
        have := out_of_idle (hs.at_order ho) (by rw [hexp.1]; exact idle_exposed)
        rwa [order?_number ho] at this
      · exact hs

/-! ## Postings, selections and settlements -/

theorem post_served {kind : PostKind} {account : Nat} {stock : Option Nat} {amount : Int} {s : State} (hs : Served s) :
    Served (post kind account stock amount s) := by
  unfold post
  simp only
  split
  · exact releaseCeiling_served (hs.of_work (by simp))
  · exact hs.of_work (by simp)

theorem creditFrames_served {stock : Nat} {fs : List Frame} {s : State} (hs : Served s) : Served (creditFrames stock fs s) := by
  induction fs generalizing s with
  | nil => exact hs
  | cons f fs ih =>
    unfold creditFrames
    split
    · exact ih (post_served hs)
    · exact ih hs

theorem postMount_served {k : LabelKey} {s : State} (hs : Served s) : Served (postMount k s) := by
  unfold postMount
  split
  · exact post_served hs
  · exact hs

theorem completeHead_served {k : LabelKey} {s : State} (hs : Served s) : Served (completeHead k s) :=
  ServedBut.of_work (postMount_served (k := k) (s := setLabelState k .printed (dropHead k .printed s)) (hs.of_work (by simp))) (by simp [completeHead])

theorem applyKeep_served {slot : Nat} {r : Roll} {g : Group} {j : Int} {s : State} (hs : Served s) :
    Served (applyKeep slot r g j s).1 := by
  unfold applyKeep
  simp only
  refine takeOutcomeChange_served (onSlide_served (hs.of_work ?_))
  rw [learnFrom_work]
  split <;> simp

theorem applyRejectExposure_served {slot : Nat} {g : Group} {d : Bool} {s : State} (hs : Served s) :
    Served (applyRejectExposure slot g d s).1 := by
  unfold applyRejectExposure
  simp only
  exact takeOutcomeChange_served (onSlide_served (hs.of_work (by simp)))

theorem applyReject_served {slot : Nat} {g : Group} {s : State} (hs : Served s) : Served (applyReject slot g s) :=
  takeOutcomeChange_served (onSlide_served (hs.of_work (by simp)))

theorem applyEntry_served {slot : Nat} {e : SelectReq} {s : State} (hs : Served s) : Served (applyEntry slot e s).1 := by
  unfold applyEntry
  split
  · exact hs
  · split
    · exact hs
    · split
      · exact hs
      · split
        · exact hs
        · split
          · split
            · exact hs
            · exact applyKeep_served hs
          · exact applyRejectExposure_served hs
          · exact applyRejectExposure_served hs
          · exact applyReject_served hs

theorem settleLost_served {slot : Nat} {g : Group} {s : State} (hs : Served s) : Served (settleLost slot g s) := by
  unfold settleLost
  split
  · exact hs
  · exact takeOutcomeChange_served (onSlide_served (creditFrames_served (hs.of_work (by simp))))

theorem settleAbandon_served {slot : Nat} {g : Group} {s : State} (hs : Served s) : Served (settleAbandon slot g s) :=
  takeOutcomeChange_served (onSlide_served (hs.of_work (by simp)))

theorem settleGroups_served {d slot : Nat} {s : State} (hs : Served s) : Served (settleGroups d slot s) := by
  unfold settleGroups
  generalize slotGroups s slot = gs
  induction gs generalizing s with
  | nil => exact hs
  | cons g gs ih =>
    refine ih ?_
    split
    · exact settleLost_served hs
    · exact settleAbandon_served hs

theorem cancelEffect_served {n : Nat} {s : State} (hs : Served s) : Served (cancelEffect n s) := by
  unfold cancelEffect
  exact ServedBut.of_work (finish_served (hs.of_work (by simp))) (closeTests_work _ _)

/-! ## The ends of a cycle and the abort -/

/-- A FILLING order returns to the state its place in the stack gives it (R17). -/
theorem returnFilling_served {o : Order} {s : State} (hs : Served s) (ho : s.order? o.number = some o) (hfill : o.state = .filling) :
    Served (returnFilling o s) := by
  have hag := hs.at_order ho
  have hstate : ∀ st : OrderState, (o.give st none).servedBy s.work.stack →
      Served (setOrderState o.number st none s) := fun st h =>
    setOrderState_served (hs.exempt _) fun p hp _ => by rw [ho] at hp; cases hp; exact h
  unfold returnFilling
  rcases place_cases s.work.stack o.number with ⟨_, hplace⟩ | ⟨_, hplace⟩ | ⟨hout, hplace⟩
  · have hf : o.former = some .active := by simpa [Order.atTop, hfill] using (hplace o rfl).1 hag
    rw [hf]
    exact hstate _ ((hplace (o.give .active none) rfl).2 (.inl rfl))
  · have hf : o.former = some .preempted := by simpa [Order.below, hfill] using (hplace o rfl).1 hag
    rw [hf]
    exact hstate _ ((hplace (o.give .preempted none) rfl).2 (.inl rfl))
  · have hf : o.former = some .pending := ((hplace o rfl).1 hag).2.2 hfill
    rw [hf]
    exact hstate _ ((hplace (o.give (returnState o) none) rfl).2 (outside_of_idle (idle_returnState o)))

theorem takeMarks_served {n : Nat} {s : State} (hs : Served s) : Served (takeMarks n s) := by
  unfold takeMarks
  split
  · exact hs
  · rename_i o ho
    split
    · exact cancelEffect_served hs
    · split
      · exact holdWith_served (hs.onOrder_same (by exact fun _ => ⟨rfl, rfl, rfl⟩))
      · split
        · rename_i hfill
          exact returnFilling_served hs (by rwa [order?_number ho]) hfill
        · exact hs

theorem takeReport_served {c : Cycle} {complete : Bool} {s : State} (hs : Served s) : Served (takeReport c complete s) := by
  unfold takeReport
  refine takeMarks_served ?_
  split
  · exact onSlide_served hs
  · exact hs

theorem endCycle_served {s : State} (hs : Served s) : Served (endCycle s) := by
  unfold endCycle
  split
  · exact hs
  · exact ServedBut.of_work (takeReport_served (hs.of_work (by simp))) (standAfterCycle_work _)

theorem tryEndAborted_served {s : State} (hs : Served s) : Served (tryEndAborted s) := by
  unfold tryEndAborted
  split
  · exact hs
  · split
    · exact hs
    · exact endCycle_served hs
    · split
      · exact hs
      · split
        · exact hs.of_work (by simp)
        · exact endCycle_served hs

theorem tryEndNormal_served {s : State} (hs : Served s) : Served (tryEndNormal s) := by
  unfold tryEndNormal
  split
  · exact hs
  · split
    · exact endCycle_served hs
    · exact hs

theorem settleGroup_served {c : Cycle} {s : State} (hs : Served s) : Served (settleGroup c s) := by
  unfold settleGroup
  split
  · exact hs
  · split
    · exact creditFrames_served (hs.of_work (by simp))
    · exact hs

theorem abortCycle_served {cause : AbortCause} {mode : Option StandMode} {s : State} (hs : Served s) :
    Served (abortCycle cause mode s) := by
  unfold abortCycle
  split
  · exact hs.of_work (by simp)
  · split
    · exact hs.of_work (by simp)
    · exact ServedBut.of_work (settleGroup_served (hs.of_work (by simp))) (setModeIf_work _ _)

theorem abort_served {cause : AbortCause} {mode : Option StandMode} {s : State} (hs : Served s) : Served (abort cause mode s) :=
  tryEndAborted_served (abortCycle_served hs)

theorem haltReport_served {reason : HaltReason} {stale : Bool} {s : State} (hs : Served s) : Served (haltReport reason stale s) := by
  unfold haltReport
  split
  · exact hs
  · split
    · exact abort_served hs
    · exact abort_served hs
    · exact hs
    · exact hs

theorem backFailed_served {b : BackId} {cause : AbortCause} {s : State} (hs : Served s) : Served (backFailed b cause s) := by
  unfold backFailed
  split
  · exact hs
  · split
    · split
      · exact tryEndNormal_served hs
      · exact abort_served hs
    · exact hs

theorem feederFail_served {stale : Bool} {s : State} (hs : Served s) : Served (feederFail stale s) :=
  tryEndAborted_served (haltReport_served (hs.of_work (by simp)))

theorem startJob_served {job : FeederJob} {c : Bool} {s : State} (hs : Served s) : Served (startJob job c s) := by
  unfold startJob
  split
  · split
    · exact hs.of_work (by simp)
    · exact feederFail_served hs
  · exact hs.of_work (by simp)
  · exact hs.of_work (by simp)

theorem askJob_served {job : FeederJob} {c : Bool} {s : State} (hs : Served s) : Served (askJob job c s) := by
  unfold askJob
  split
  · exact startJob_served hs
  · exact hs.of_work (by simp)

/-! ## The choice -/

theorem popDone_served {m : Nat} {s : State} (hs : Served s) : Served (popDone m s) := by
  induction m generalizing s with
  | zero => exact hs
  | succ m ih =>
    unfold popDone
    split
    · exact hs
    · split
      · exact hs
      · split
        · exact ih (leave_served hs idle_exposed)
        · exact hs

theorem candidate_mem {s : State} {c : Order} (h : candidate s = some c) : c ∈ s.work.orders ∧ c.state = .pending := by
  obtain ⟨hm, hp⟩ := List.mem_filter.1 (highestOf_mem _ _ h)
  exact ⟨hm, by simpa using hp⟩

/-- The former top, whatever its state was, is made to agree with a place below the top. -/
theorem preempt_served {l : List Nat} {s : State} {n : Nat} (hs : ServedBut (n :: l) s) (hin : n ∈ s.work.stack)
    (hne : s.work.stack.head? ≠ some n) : ServedBut l (preempt n s) := by
  have hserved : ∀ o : Order, o.number = n → o.below → o.servedBy s.work.stack := fun o hn hb => by
    unfold Order.servedBy
    rw [hn, if_neg hne, if_pos hin]
    exact hb
  unfold preempt
  split
  · rename_i hn
    exact hs.drop fun o ho => by rw [hn] at ho; cases ho
  · rename_i o ho
    split
    · rename_i hfill
      refine hs.onOrder (fun _ => rfl) fun p hp _ => hserved (p.give p.state (some .preempted)) ((give_number p _ _).trans (order?_number hp)) (.inr ⟨?_, rfl⟩)
      rw [ho] at hp
      cases hp
      exact hfill
    · exact setOrderState_served hs fun p hp _ => hserved (p.give .preempted none) ((give_number p _ _).trans (order?_number hp)) (.inl rfl)

theorem push_served {s : State} {c : Order} (hs : Served s) (hc : c ∈ s.work.orders) (hp : c.state = .pending) :
    Served (push c.number s) := by
  have hout : c.number ∉ s.work.stack := out_of_idle (hs.agrees c hc (by simp)) (by rw [hp]; exact idle_pending)
  have h1 : ServedBut (c.number :: s.work.stack.head?.toList) (s.onWork fun w => { w with stack := c.number :: w.stack }) := by
    refine ⟨hs.distinct, List.nodup_cons.2 ⟨hout, hs.nodup⟩, fun k hk => ?_, fun o ho hl => ?_⟩
    · rcases List.mem_cons.1 hk with rfl | hk
      · exact order?_isSome_iff.2 ⟨c, hc, rfl⟩
      · exact hs.known k hk
    · simp only [List.mem_cons, not_or] at hl
      have hag := hs.agrees o ho (by simp)
      change o.servedBy (c.number :: s.work.stack)
      by_cases hin : o.number ∈ s.work.stack
      · refine (servedBy_below hl.1 hin).2 ?_
        have hh : s.work.stack.head? ≠ some o.number := fun hh => hl.2 (by simp [hh])
        simpa [Order.servedBy, hh, hin] using hag
      · exact (servedBy_out (by simp [hl.1, hin])).2 ((servedBy_out hin).1 hag)
  have h2 : ServedBut s.work.stack.head?.toList
      (setOrderState c.number .active none (s.onWork fun w => { w with stack := c.number :: w.stack })) :=
    setOrderState_served h1 fun o ho _ => (servedBy_top ((give_number o _ _).trans (order?_number ho))).2 (.inl rfl)
  unfold push
  simp only
  split
  · rename_i hst
    simpa [hst] using h2
  · rename_i top rest hst
    have hne : c.number ≠ top := fun h => hout (by simp [hst, h])
    exact preempt_served (by simpa [hst] using h2) (by simp [hst]) (by simpa using hne)

theorem pushCandidate_served {s : State} (hs : Served s) : Served (pushCandidate s) := by
  unfold pushCandidate
  split
  · exact hs
  · rename_i c hc
    obtain ⟨hm, hp⟩ := candidate_mem hc
    split
    · exact push_served hs hm hp
    · exact hs

theorem startSlide_served {o : Order} {b : BackId} {s : State} (hs : Served s) : Served (startSlide o b s) := by
  unfold startSlide
  split
  · exact hs
  · split
    · exact hs
    · exact ServedBut.of_work (askJob_served (hs.of_work (by simp))) (askTurretAndLamp_work _ _)

/-- The order that a fit sends to fill is a live one, PENDING or PREEMPTED (R14). -/
theorem testTop_fill {s : State} {o c : Order} {b : BackId} (h : testTop s o = .fill c b) :
    c ∈ s.work.orders ∧ (c.state = .pending ∨ c.state = .preempted) := by
  have hfit : fitFails s o.stock = .fill c b := by
    unfold testTop at h
    split at h
    · cases h
    · split at h
      · cases h
      · split at h
        · exact h
        · split at h <;> cases h
  have hcand : fillCandidate s o.stock = some c := by
    unfold fitFails at hfit
    split at hfit
    · rename_i p hp
      split at hfit
      · cases hfit
        split at hp
        · exact hp
        · cases hp
      · cases hfit
    · split at hfit <;> cases hfit
  obtain ⟨hm, hel⟩ := List.mem_filter.1 (highestOf_mem _ _ hcand)
  simp only [fillEligible, Bool.and_eq_true, Bool.or_eq_true, decide_eq_true_eq] at hel
  exact ⟨hm, hel.1.1.1.1.2⟩

/-- A PENDING or PREEMPTED order is FILLING with the former state its place gives it (R1, R14). -/
theorem fill_served {s : State} {c : Order} (hs : Served s) (hc : c ∈ s.work.orders)
    (hst : c.state = .pending ∨ c.state = .preempted) :
    Served (setOrderState c.number .filling (some (formerOf c)) s) := by
  have hag := hs.agrees c hc (by simp)
  refine setOrderState_served (hs.exempt _) fun p hp _ => ?_
  rw [order?_of_mem hs.distinct hc] at hp
  cases hp
  rcases place_cases s.work.stack c.number with ⟨_, hplace⟩ | ⟨_, hplace⟩ | ⟨_, hplace⟩
  · have := (hplace c rfl).1 hag
    simp only [Order.atTop] at this
    rcases hst with hst | hst <;> simp [hst] at this
  · refine (hplace (c.give .filling (some (formerOf c))) rfl).2 (.inr ⟨rfl, ?_⟩)
    rcases hst with hst | hst
    · have := (hplace c rfl).1 hag
      simp [Order.below, hst] at this
    · simp [Order.give, formerOf, hst]
  · refine (hplace (c.give .filling (some (formerOf c))) rfl).2 ⟨by simp [Order.give], by simp [Order.give], fun _ => ?_⟩
    rcases hst with hst | hst
    · simp [Order.give, formerOf, hst]
    · exact absurd hst ((hplace c rfl).1 hag).2.1

theorem choiceLoop_served {m : Nat} {s : State} (hs : Served s) : Served (choiceLoop m s) := by
  induction m generalizing s with
  | zero => exact hs
  | succ m ih =>
    have h1 : Served (pushCandidate (popDone s.work.stack.length s)) := pushCandidate_served (popDone_served hs)
    unfold choiceLoop
    simp only
    split
    · exact h1
    · split
      · exact ih (holdWith_served h1)
      · exact startSlide_served h1
      · rename_i hfill
        obtain ⟨hm, hst⟩ := testTop_fill hfill
        exact startSlide_served (fill_served h1 hm hst)
      · exact ih (h1.of_work (by simp))
      · exact h1

theorem runChoice_served {s : State} (hs : Served s) : Served (runChoice s) := by
  unfold runChoice
  split
  · exact choiceLoop_served hs
  · exact hs

theorem eventEnd_served {asked : Bool} {before s : State} (hs : Served s) : Served (eventEnd asked before s) := by
  unfold eventEnd
  refine ServedBut.of_work ?_ (standEnd_work _ _)
  split
  · exact runChoice_served hs
  · exact hs

theorem labelEventEnd_served {before s : State} (hs : Served s) : Served (labelEventEnd before s) :=
  ServedBut.of_work (eventEnd_served (hs.of_work (by simp))) (printerEnd_work _ _)

theorem takeEntries_served {slot : Nat} {es : List SelectReq} {s : State} (hs : Served s) : Served (takeEntries slot es s).1 := by
  induction es generalizing s with
  | nil => exact hs
  | cons e es ih => exact ih (labelEventEnd_served (applyEntry_served hs))

end Sys2Proof.Machine
end

section
/-! SUPPORT. The events and requests keep every order in the state its place in the stack gives it, and with it the service
states kept (R9). -/

namespace Sys2Proof.Machine

/-! ## What the desk link can do, said once -/

/-- A request row is the arrival of its request on the desk link. -/
theorem exec_of_request {c : Instr} {r : Request} (h : c.request = some r) (s : State) : exec c s = .next (arrive r s) := by
  cases c <;> cases h <;> rfl

/-- A refused request leaves the state, an accepted one has its effect. -/
theorem answer_keeps {P : State → Prop} {kind : Nat} {refusal : Option Code} {s : State} {tr : Bool} {fields : List Field}
    {after : State} (hs : P s) (h : refusal = none → P after) : P (answer kind refusal s tr fields after).1 := by
  unfold answer
  split
  · exact hs
  · exact h rfl

theorem onNamedBack_keeps {P : State → Prop} {kind back : Nat} {s : State} {f : BackId → State × Msg} (hs : P s)
    (h : ∀ b, P (f b).1) : P (onNamedBack kind back s f).1 := by
  unfold onNamedBack
  split
  · exact answer_keeps hs fun _ => hs
  · exact h _

section

variable {P : State → Prop} (hlink : ∀ s f, P s → P (s.onLink f)) (hreq : ∀ r s, P s → P (answerRequest r s).1)

include hlink

theorem rejectFrame_keeps {reason : RejectReason} {kind : Byte} {s : State} (hs : P s) : P (rejectFrame reason kind s) :=
  hlink _ _ hs

include hreq

/-- A property that the desk link's own updates and the answers to requests keep is kept by a request that is taken. -/
theorem takeRequest_keeps {inc : Incoming} {s : State} (hs : P s) : P (takeRequest inc s) := by
  cases inc with
  | read r => exact hlink _ (fun l => { l with reply := some _ }) (hreq r s hs)
  | refuse kind code => exact hlink s (fun l => { l with reply := some _ }) hs

theorem offerRequest_keeps {inc : Incoming} {s : State} (hs : P s) : P (offerRequest inc s) := by
  unfold offerRequest
  simp only
  split
  · exact takeRequest_keeps hlink hreq (hlink _ _ hs)
  · exact hlink _ _ (hlink _ _ hs)

theorem arrive_keeps {r : Request} {s : State} (hs : P s) : P (arrive r s) := by
  unfold arrive
  split
  · exact rejectFrame_keeps hlink hs
  · exact offerRequest_keeps hlink hreq hs

theorem testFrame_keeps {kind : Byte} {body : List Byte} {check : Byte} {s : State} (hs : P s) :
    P (testFrame kind body check s) := by
  unfold testFrame
  split
  · exact rejectFrame_keeps hlink hs
  · split
    · exact rejectFrame_keeps hlink hs
    · split
      · exact offerRequest_keeps hlink hreq hs
      · exact rejectFrame_keeps hlink hs

omit hreq in
theorem frameEnds_keeps {received : State → State} {s : State} (hs : P s) (h : P (received s)) : P (frameEnds received s) := by
  unfold frameEnds
  split
  · exact hs
  · exact h
  · exact rejectFrame_keeps hlink hs

theorem finishSending_keeps {s : State} (hs : P s) : P (finishSending s) := by
  unfold finishSending
  split
  · exact hs
  · split
    · unfold takeHeld
      split
      · exact hlink _ _ hs
      · exact takeRequest_keeps hlink hreq (hlink _ _ (hlink _ _ hs))
    · exact hlink _ _ hs
    · exact hlink _ _ hs

theorem heldTakenEvent_keeps {s : State} (hs : P s) : P (heldTakenEvent s) := by
  unfold heldTakenEvent
  split
  · split
    · exact finishSending_keeps hlink hreq hs
    · exact hs
  · exact hs

omit hreq in
theorem sendNext_keeps {s : State} (hs : P s) : P (sendNext s) := hlink _ _ hs

omit hreq in
theorem overrunEndEvent_keeps {s : State} (hs : P s) : P (overrunEndEvent s) := by
  unfold overrunEndEvent
  split
  · exact rejectFrame_keeps hlink hs
  · exact hs
  · exact hs

end

/-! ## Requests -/

/-- What a request does to the work list agrees with the stack, when its effect before the end of the event does. -/
theorem answer_eventEnd_served {kind : Nat} {refusal : Option Code} {s : State} {tr : Bool} {fields : List Field} {asked : Bool}
    {after : State} (hs : Served s) (h : refusal = none → Served after) :
    Served (answer kind refusal s tr fields (eventEnd asked s after)).1 :=
  answer_keeps hs fun hr => eventEnd_served (h hr)

/-- A new order is PENDING, in no place of the stack. -/
theorem placeEffect_served {q : PlaceReq} {s : State} (hs : Served s) (h : placeRefusal q s = none) : Served (placeEffect q s) := by
  have hfresh : s.order? q.number = none := by
    simpa using firstFailing_none h ((s.order? q.number).isNone, .duplicate) (by simp)
  have hmem : ∀ o, o ∈ (placeEffect q s).work.orders ↔ o = placedOrder q s.work.placeSeq ∨ o ∈ s.work.orders := fun o =>
    (insertBy_perm _ _ _).mem_iff.trans List.mem_cons
  have hout : q.number ∉ s.work.stack := fun hin => by
    have := hs.known _ hin
    rw [hfresh] at this
    cases this
  refine ⟨?_, hs.nodup, fun k hk => ?_, fun o ho hl => ?_⟩
  · refine ((insertBy_perm _ _ _).map fun o : Order => o.number).nodup_iff.2 (List.nodup_cons.2 ⟨?_, hs.distinct⟩)
    simpa [placedOrder] using order?_eq_none_iff.1 hfresh
  · obtain ⟨o, ho, hn⟩ := order?_isSome_iff.1 (hs.known k hk)
    exact order?_isSome_iff.2 ⟨o, (hmem o).2 (.inr ho), hn⟩
  · rcases (hmem o).1 ho with rfl | ho
    · exact (servedBy_out (by exact hout)).2 (outside_of_idle (by exact idle_pending))
    · exact hs.agrees o ho hl

theorem amendEffect_served {q : AmendReq} {s : State} (hs : Served s) : Served (amendEffect q s) := by
  have h1 : Served (s.onOrder q.number (amended q)) := hs.onOrder_same fun _ => ⟨rfl, rfl, rfl⟩
  unfold amendEffect
  simp only
  split
  · rename_i hheld
    refine releaseOne_served (h1.exempt _) fun hin => ?_
    simp only [heldForCeiling, Bool.and_eq_true] at hheld
    obtain ⟨hheld, _⟩ := hheld
    split at hheld
    · rename_i o ho
      have hidle : o.state.idle := by
        unfold OrderState.isCeiling at hheld
        split at hheld
        · rename_i h; rw [h]; exact idle_held _
        · cases hheld
      exact out_of_idle (hs.at_order ho) hidle (order?_number ho ▸ hin)
    · cases hheld
  · exact h1

theorem cancelRequestEffect_served {n : Nat} {s : State} (hs : Served s) : Served (cancelRequestEffect n s) := by
  unfold cancelRequestEffect
  split
  · exact hs.onOrder_same (by exact fun _ => ⟨rfl, rfl, rfl⟩)
  · exact cancelEffect_served hs

theorem holdRequestEffect_served {n : Nat} {s : State} (hs : Served s) : Served (holdRequestEffect n s) := by
  unfold holdRequestEffect
  split
  · exact hs.onOrder_same (by exact fun _ => ⟨rfl, rfl, rfl⟩)
  · exact holdWith_served hs

theorem releaseRequestEffect_served {n : Nat} {s : State} (hs : Served s) : Served (releaseRequestEffect n s) := by
  unfold releaseRequestEffect
  split
  · rename_i hheld
    refine releaseOne_served (hs.exempt n) fun hin => ?_
    unfold State.orderHas at hheld
    split at hheld
    · rename_i o ho
      exact out_of_idle (hs.at_order ho) (idle_of_isHeld hheld) (order?_number ho ▸ hin)
    · cases hheld
  · exact hs.onOrder_same (by exact fun _ => ⟨rfl, rfl, rfl⟩)

theorem loadEffect_served {b : BackId} {roll stock declared : Nat} {s : State} (hs : Served s) :
    Served (loadEffect b roll stock declared s) := by
  unfold loadEffect
  split
  · exact releaseFilm_served (hs.of_work (by rw [setBackState_work]; rfl))
  · exact hs.of_work (by rw [askAdvance_work, setBackState_work]; rfl)

theorem answerUnload_served {code back : Nat} {b : BackId} {kind : UnloadKind} {refusal : Option Code} {s : State}
    (hs : Served s) : Served (answerUnload code back b kind refusal s).1 := by
  unfold answerUnload
  split
  · exact answer_keeps hs fun _ => hs
  · exact answer_keeps hs fun _ => hs
  · exact answer_eventEnd_served hs fun _ => hs.of_work (by simp)

theorem startEffect_served {s : State} (hs : Served s) : Served (startEffect s) := by
  have hhome : Served (startHome (setStandMode .running s)) := by
    unfold startHome
    split
    · exact askJob_served (hs.of_work (by simp))
    · exact hs.of_work (by simp)
  have hswap : ∀ s : State, (startSwap s).work = s.work := fun s => by unfold startSwap; split <;> simp
  have hnd : ∀ s : State, (startNd s).work = s.work := fun s => by unfold startNd; split <;> simp
  exact hhome.of_work (by simp [startEffect, hswap, hnd])

theorem resetCycle_served {s : State} (hs : Served s) : Served (resetCycle s) := by
  unfold resetCycle
  split
  · exact hs
  · split
    · exact endCycle_served (hs.of_work (by simp))
    · exact abort_served hs

theorem resetEffect_served {s : State} (hs : Served s) : Served (resetEffect s) := by
  have h1 : Served (resetOps (resetCycle (resetFeeder s))) :=
    (resetCycle_served (s := resetFeeder s) (hs.of_work (by rfl))).of_work (by rfl)
  exact (emptyStack_served h1).of_work (by simp [resetEffect, resetStand])

theorem setCounterEffect_served {q : CounterReq} {s : State} (hs : Served s) : Served (setCounterEffect q s) := by
  unfold setCounterEffect
  simp only
  split
  · exact releaseCeiling_served (hs.of_work rfl)
  · exact hs.of_work rfl

/-- A request that carries fields and changes nothing. -/
theorem answer_read_served {kind : Nat} {refusal : Option Code} {s : State} {tr : Bool} {fields : List Field} (hs : Served s) :
    Served (answer kind refusal s tr fields s).1 := answer_keeps hs fun _ => hs

/-- The answer to any request keeps every order in the state its place gives it. -/
theorem answerRequest_served (r : Request) (s : State) (hs : Served s) : Served (answerRequest r s).1 := by
  cases r with
  | placeOrder q => exact answer_eventEnd_served hs fun h => placeEffect_served hs h
  | amendOrder q => exact answer_eventEnd_served hs fun _ => amendEffect_served hs
  | cancelOrder n => exact answer_eventEnd_served hs fun _ => cancelRequestEffect_served hs
  | holdOrder n => exact answer_eventEnd_served hs fun _ => holdRequestEffect_served hs
  | releaseOrder n => exact answer_eventEnd_served hs fun _ => releaseRequestEffect_served hs
  | setFloor v => exact answer_eventEnd_served hs fun _ => ⟨hs.distinct, hs.nodup, hs.known, hs.agrees⟩
  | readOrder n i =>
    simp only [answerRequest, answerReadOrder]
    split
    · exact answer_read_served hs
    · split <;> exact answer_read_served hs
  | setStock q => exact answer_keeps hs fun _ => hs.of_work rfl
  | readStock => exact answer_read_served hs
  | setProfile c m p f =>
    simp only [answerRequest, answerSetProfile]
    split <;> exact answer_keeps hs fun _ => hs.of_work rfl
  | setRange k b e p => exact answer_keeps hs fun _ => hs.of_work rfl
  | dropProfile t k => exact answer_keeps hs fun _ => hs.of_work rfl
  | setPlacement k => exact answer_keeps hs fun _ => hs.of_work rfl
  | readProfileTable t k => exact answer_read_served hs
  | readProfileLookup c => exact answer_read_served hs
  | mapTray es => exact answer_eventEnd_served hs fun _ => releaseOriginal_served (hs.of_work (mapEntries_work es s))
  | readTray f => exact answer_read_served hs
  | readHead => exact answer_keeps hs fun _ => hs.of_work rfl
  | loadRoll b r k f => exact onNamedBack_keeps hs fun b => answer_eventEnd_served hs fun _ => loadEffect_served hs
  | rewindBack b => exact onNamedBack_keeps hs fun b => answer_eventEnd_served hs fun _ => hs.of_work (setBackState_work _ _ _)
  | unloadBack b => exact onNamedBack_keeps hs fun b => answerUnload_served hs
  | clearBack b => exact onNamedBack_keeps hs fun b => answerUnload_served hs
  | readBack => exact answer_read_served hs
  | startStand => exact answer_eventEnd_served hs fun _ => startEffect_served hs
  | stopStand => exact answer_eventEnd_served hs fun _ => hs.of_work (stopEffect_work s)
  | abortSlide => exact answer_eventEnd_served hs fun _ => abort_served hs
  | resetStand => exact answer_eventEnd_served hs fun _ => resetEffect_served hs
  | setStand q => exact answer_eventEnd_served hs fun _ => hs.of_work rfl
  | readStand => exact answer_read_served hs
  | reportSelections r es => exact answer_keeps hs fun _ => (takeEntries_served hs).of_work (closeTest_work _ _)
  | closeRoll r d => exact answer_eventEnd_served hs fun _ => (settleGroups_served hs).of_work (closeRoll_work _ _ _)
  | readRoll r i =>
    simp only [answerRequest, answerReadRoll]
    split
    · exact answer_read_served hs
    · split
      · exact answer_read_served hs
      · split <;> exact answer_read_served hs
  | readFrames r i =>
    simp only [answerRequest, answerReadFrames]
    split
    · exact answer_read_served hs
    · split <;> exact answer_read_served hs
  | printLabels c => exact answer_keeps hs fun _ => hs.of_work (by simp)
  | pausePrinter => exact answer_keeps hs fun _ => hs.of_work (by rw [printEnd_work]; rfl)
  | resumePrinter => exact answer_keeps hs fun _ => hs.of_work (by simp)
  | relabel r f => exact answer_keeps hs fun _ => hs.of_work (by simp [relabelEffect])
  | setDate d => exact answer_keeps hs fun _ => hs.of_work rfl
  | readLabelsLine i => exact answer_read_served hs
  | readLabelsRecord r f =>
    simp only [answerRequest, answerReadLabelsRecord]
    split
    · exact answer_read_served hs
    · split <;> exact answer_read_served hs
  | setRates m t c => exact answer_eventEnd_served hs fun _ => releaseCeiling_served (hs.of_work rfl)
  | setCounter q => exact answer_eventEnd_served hs fun _ => setCounterEffect_served hs
  | lockCounter k => exact answer_keeps hs fun _ => hs.of_work rfl
  | adjustAccount a v => exact answer_eventEnd_served hs fun _ => post_served hs
  | closePeriod => exact answer_eventEnd_served hs fun _ => releaseCeiling_served (hs.of_work rfl)
  | readCounters k => exact answer_read_served hs

/-! ## Events -/

theorem startWaitingJob_served {s : State} (hs : Served s) : Served (startWaitingJob s) := by
  unfold startWaitingJob
  split
  · exact startJob_served (hs.of_work rfl)
  · exact hs

theorem gateLoadedEvent_served {s : State} (hs : Served s) : Served (gateLoadedEvent s) := by
  unfold gateLoadedEvent
  split
  · split
    · exact hs.of_work rfl
    · exact tryEndAborted_served (hs.of_work (by simp))
  · exact hs.of_work rfl

theorem gateClearedEvent_served {s : State} (hs : Served s) : Served (gateClearedEvent s) := by
  unfold gateClearedEvent
  split
  · exact tryEndAborted_served (tryEndNormal_served (hs.of_work rfl))
  · split
    · simp only
      split
      · exact tryEndAborted_served (haltReport_served (hs.of_work rfl))
      · exact hs.of_work rfl
    · exact hs.of_work rfl

theorem feederTimeoutEvent_served {s : State} (hs : Served s) : Served (feederTimeoutEvent s) := by
  unfold feederTimeoutEvent
  split
  · exact hs
  · exact feederFail_served hs

theorem trayOutEvent_served {s : State} (hs : Served s) : Served (trayOutEvent s) := by
  unfold trayOutEvent
  simp only
  split
  · exact tryEndAborted_served (haltReport_served (hs.of_work rfl))
  · exact hs.of_work rfl

theorem lampFail_served {s : State} (hs : Served s) : Served (lampFail s) := haltReport_served (hs.of_work rfl)

theorem lampFailureEvent_served {s : State} (hs : Served s) : Served (lampFailureEvent s) := by
  unfold lampFailureEvent
  split
  · exact lampFail_served hs
  · exact hs

theorem warmUpEvent_served {sense : Bool} {s : State} (hs : Served s) : Served (warmUpEvent sense s) := by
  unfold warmUpEvent
  split
  · split
    · exact hs.of_work (by simp)
    · exact lampFail_served hs
  · exact hs

theorem meterTimeoutEvent_served {s : State} (hs : Served s) : Served (meterTimeoutEvent s) := by
  unfold meterTimeoutEvent
  split
  · exact hs
  · exact ServedBut.of_work (haltReport_served (hs.of_work (by rfl))) (tryPlan_work _)

theorem ndTimeoutEvent_served {s : State} (hs : Served s) : Served (ndTimeoutEvent s) := by
  unfold ndTimeoutEvent
  split
  · exact hs
  · exact haltReport_served (hs.of_work rfl)

theorem leaderStep_served {b : BackId} {s : State} (hs : Served s) : Served (leaderStep b s) := by
  unfold leaderStep
  split
  · exact hs.of_work rfl
  · simp only
    split
    · exact releaseFilm_served (hs.of_work (by simp))
    · exact hs.of_work (by simp)

theorem stepAdvanced_served {s : State} (hs : Served s) : Served (stepAdvanced s) := by
  unfold stepAdvanced
  split
  · exact hs
  · split
    · exact hs.of_work (by simp)
    · exact tryEndNormal_served hs

theorem advanceCompleteEvent_served {b : BackId} {s : State} (hs : Served s) : Served (advanceCompleteEvent b s) := by
  have h1 : Served (s.onBack b fun k => { k with advance := none, gateFrame := .fresh }) := hs.of_work rfl
  unfold advanceCompleteEvent
  split
  · exact hs
  · simp only
    refine ServedBut.of_work ?_ (startOwed_work _ _)
    split
    · refine stepAdvanced_served ?_
      split
      · exact leaderStep_served h1
      · exact h1.of_work (by simp)
      · exact h1
    · split
      · exact leaderStep_served h1
      · exact h1.of_work (by simp)
      · exact h1

theorem advanceFails_served {b : BackId} {st : BackState} {cause : AbortCause} {s : State} (hs : Served s) :
    Served (advanceFails b st cause s) := by
  unfold advanceFails
  simp only
  split
  · exact backFailed_served (hs.of_work (by simp))
  · exact hs.of_work rfl

theorem advanceTimeoutEvent_served {b : BackId} {s : State} (hs : Served s) : Served (advanceTimeoutEvent b s) := by
  unfold advanceTimeoutEvent
  split
  · exact advanceFails_served hs
  · exact hs

theorem filmEndEvent_served {b : BackId} {s : State} (hs : Served s) : Served (filmEndEvent b s) := by
  unfold filmEndEvent
  split
  · exact advanceFails_served (hs.of_work rfl)
  · exact hs

theorem swapTimeoutEvent_served {s : State} (hs : Served s) : Served (swapTimeoutEvent s) := by
  unfold swapTimeoutEvent
  split
  · exact hs
  · exact haltReport_served (hs.of_work rfl)

theorem exposeDone_served {c : Cycle} {p : PlanStep} {s : State} (hs : Served s) : Served (exposeDone c p s) := by
  have h1 : Served (post .frame c.account (some c.stock) (frameAmount s c.stock c.cls) s) := post_served hs
  unfold exposeDone
  simp only
  split <;> exact h1.of_work (by simp)

theorem shutterClosedEvent_served {s : State} (hs : Served s) : Served (shutterClosedEvent s) := by
  unfold shutterClosedEvent
  split
  · exact hs
  · split
    · split
      · exact hs.of_work rfl
      · split
        · exact hs.of_work rfl
        · exact exposeDone_served hs
    · exact haltReport_served hs

theorem exposeTimeoutEvent_served {s : State} (hs : Served s) : Served (exposeTimeoutEvent s) := by
  unfold exposeTimeoutEvent
  split
  · exact haltReport_served hs
  · exact hs

theorem printedEvent_served {s : State} (hs : Served s) : Served (printedEvent s) := by
  unfold printedEvent
  split
  · exact hs
  · rename_i k _
    have h1 := completeHead_served (k := k) hs
    split
    · exact h1.of_work (by simp)
    · split
      · exact h1.of_work (by simp)
      · exact hs

theorem printerByteEvent_served {x : Byte} {s : State} (hs : Served s) : Served (printerByteEvent x s) := by
  unfold printerByteEvent
  split
  · rename_i token _
    cases token with
    | printed => exact printedEvent_served hs
    | jammed => exact hs.of_work (stopTokenEvent_work _ _ s)
    | outOfLabels => exact hs.of_work (stopTokenEvent_work _ _ s)
    | formatError => exact hs.of_work (formatErrorEvent_work s)
  · exact hs

/-- At power-on there is no order and the stack is empty. -/
theorem powerOnEvent_served {a b x y : Bool} {s : State} : Served (powerOnEvent a b x y s) :=
  ⟨List.nodup_nil, List.nodup_nil, nofun, nofun⟩

/-- Every command keeps every order in the state its place gives it. -/
theorem exec_served {c : Instr} {s t : State} (hs : Served s) (h : exec c s = .next t) : Served t := by
  have hlink : ∀ (s : State) f, Served s → Served (s.onLink f) := fun s f hs => hs.of_work rfl
  cases hr : c.request with
  | some r =>
    rw [exec_of_request hr] at h
    cases h
    exact arrive_keeps hlink answerRequest_served hs
  | none =>
    cases c with
    | powerOn _ _ _ _ => cases h; exact powerOnEvent_served
    | frameEnd _ _ _ => cases h; exact frameEnds_keeps hlink hs (testFrame_keeps hlink answerRequest_served hs)
    | badLengthByte => cases h; exact frameEnds_keeps hlink hs (rejectFrame_keeps hlink hs)
    | gapTimeout _ => cases h; exact frameEnds_keeps hlink hs (rejectFrame_keeps hlink hs)
    | heldRequestTaken => cases h; exact heldTakenEvent_keeps hlink answerRequest_served hs
    | overrunFrameEnd => cases h; exact overrunEndEvent_keeps hlink hs
    | linkBreak => cases h; exact hlink _ _ hs
    | lineFreeSend => cases h; exact sendNext_keeps hlink (finishSending_keeps hlink answerRequest_served hs)
    | syncReceived => cases h; exact hlink _ _ hs
    | feederOpStart => cases h; exact eventEnd_served (startWaitingJob_served hs)
    | feedHomeDone => cases h; exact hs.of_work (homeSenseEvent_work s)
    | homeComplete => cases h; exact hs.of_work (homeSenseEvent_work s)
    | feedComplete => cases h; exact eventEnd_served (gateLoadedEvent_served hs)
    | returnComplete => cases h; exact eventEnd_served (gateClearedEvent_served hs)
    | feederTimeout => cases h; exact eventEnd_served (feederTimeoutEvent_served hs)
    | trayOut => cases h; exact eventEnd_served (trayOutEvent_served hs)
    | trayIn => cases h; exact eventEnd_served (hs.of_work rfl)
    | gateLoaded => cases h; exact eventEnd_served (gateLoadedEvent_served hs)
    | gateCleared => cases h; exact eventEnd_served (gateClearedEvent_served hs)
    | warmUpEnd _ => cases h; exact eventEnd_served (warmUpEvent_served hs)
    | lampFailure => cases h; exact eventEnd_served (lampFailureEvent_served hs)
    | idleTimerExpiry => cases h; exact eventEnd_served (hs.of_work (idleExpiryEvent_work s))
    | meterComplete _ _ _ _ _ => cases h; exact hs.of_work (meterEvent_work _ s)
    | meterTimeout => cases h; exact eventEnd_served (meterTimeoutEvent_served hs)
    | ndSetStart => cases h; exact hs.of_work (startWaitingNd_work s)
    | ndSetComplete => cases h; exact hs.of_work (ndCompleteEvent_work s)
    | ndTimeout => cases h; exact eventEnd_served (ndTimeoutEvent_served hs)
    | advanceStart _ => cases h; exact hs.of_work (startWaitingAdvance_work _ s)
    | advanceComplete _ => cases h; exact eventEnd_served (advanceCompleteEvent_served hs)
    | advanceTimeout _ => cases h; exact eventEnd_served (advanceTimeoutEvent_served hs)
    | filmEnd _ => cases h; exact eventEnd_served (filmEndEvent_served hs)
    | swapStart => cases h; exact hs.of_work (startWaitingSwap_work s)
    | swapComplete => cases h; exact hs.of_work (swapCompleteEvent_work s)
    | swapTimeout => cases h; exact eventEnd_served (swapTimeoutEvent_served hs)
    | rewindComplete _ => cases h; exact hs.of_work (rewindCompleteEvent_work _ s)
    | rewindTimeout _ => cases h; exact hs.of_work (rewindTimeoutEvent_work _ s)
    | exposeStart => cases h; exact hs.of_work (exposeStartEvent_work s)
    | shutterTicksEnd => cases h; exact hs.of_work rfl
    | exposeComplete => cases h; exact eventEnd_served (shutterClosedEvent_served hs)
    | exposeTimeout => cases h; exact eventEnd_served (exposeTimeoutEvent_served hs)
    | shutterEarlyClose => cases h; exact eventEnd_served (shutterClosedEvent_served hs)
    | printedToken => cases h; exact printerByteEvent_served hs
    | jammedToken => cases h; exact printerByteEvent_served hs
    | outOfLabelsToken => cases h; exact printerByteEvent_served hs
    | formatErrorToken => cases h; exact printerByteEvent_served hs
    | tokenTimeout => cases h; exact hs.of_work (tokenTimeoutEvent_work s)
    | unknownPrinterByte _ => cases h; exact printerByteEvent_served hs
    | labelFrameSent => cases h; exact hs.of_work (labelSentEvent_work s)
    | _ => cases hr

/-! ## The service states kept -/

theorem served_of_sound {s : State} (hw : WorkSound s) (hs : ServiceSound s) : Served s := by
  obtain ⟨hd, _, _, _, hk, hc, _, _⟩ := hw
  obtain ⟨htop, hbelow, hout⟩ := hs
  have hnodup : s.work.stack.Nodup := hc.imp fun {a b} h hab => by subst hab; exact lt_irrefl _ h
  refine ⟨hd, hnodup, hk, fun o ho _ => ?_⟩
  have hord := order?_of_mem hd ho
  cases hst : s.work.stack with
  | nil => exact (servedBy_out (by simp)).2 (hout o ho (by simp [hst]))
  | cons top rest =>
    by_cases ht : o.number = top
    · exact (servedBy_top ht).2 (htop top (by simp [hst]) o (by rw [← ht]; exact hord))
    · by_cases hr : o.number ∈ rest
      · exact (servedBy_below ht hr).2 (hbelow _ (by simpa [hst] using hr) o hord)
      · have hno : o.number ∉ top :: rest := by simp [ht, hr]
        exact (servedBy_out hno).2 (hout o ho (hst ▸ hno))

theorem Served.serviceSound {s : State} (hs : Served s) : ServiceSound s := by
  refine ⟨fun k hk o ho => ?_, fun k hk o ho => ?_, fun o ho hno => (servedBy_out hno).1 (hs.agrees o ho (by simp))⟩
  · have hag := hs.at_order ho
    cases hst : s.work.stack with
    | nil => simp [hst] at hk
    | cons top rest =>
      rw [hst] at hag
      exact (servedBy_top ((order?_number ho).trans (by simpa [hst, eq_comm] using hk))).1 hag
  · have hag := hs.at_order ho
    have hnd := hs.nodup
    cases hst : s.work.stack with
    | nil => simp [hst] at hk
    | cons top rest =>
      rw [hst] at hag hk hnd
      have hne : o.number ≠ top := fun h => (List.nodup_cons.1 hnd).1 (by rw [← h, order?_number ho]; exact hk)
      exact (servedBy_below hne (by rw [order?_number ho]; exact hk)).1 hag

/-- Settles O57: a sound work list and sound service states are the agreement of every order with its place, which every command
keeps. -/
theorem serviceStatesKept : Obligations.ServiceStatesKept := by
  rintro s t ⟨hw, hs⟩ h
  rcases step_cases h with rfl | ⟨c, rest, hc⟩
  · exact hs
  · exact (exec_served ((served_of_sound hw hs).of_work (by rfl)) hc).serviceSound

end Sys2Proof.Machine
end

section
/-! SUPPORT. The frame of the settings: a field that no elementary change touches is changed only by the commands whose own changes
touch it. -/

namespace Sys2Proof.Machine

/-! ## A field and the own changes that touch it -/

/-- A field that no elementary change touches has changed only if a kind of own change that touches it was there to make. -/
theorem Steps.changed {α : Type} {field : State → α} {touches : Own → Bool} (hm : ∀ a b, Move a b → field b = field a)
    (ho : ∀ o a b, OwnMove o a b → touches o = false → field b = field a) {os : List Own} {s t : State} (h : Steps os s t)
    (hne : field t ≠ field s) : ∃ o ∈ os, touches o = true := by
  by_contra hno
  have hout : ∀ o ∈ os, touches o = false := fun o hmem => by
    cases hto : touches o with
    | false => rfl
    | true => exact absurd ⟨o, hmem, hto⟩ hno
  exact hne (h.keeps (P := fun x => field x = field s) (fun a b hab ha => (hm a b hab).trans ha)
    (fun o hmem a b hab ha => (ho o a b hab (hout o hmem)).trans ha) rfl)

/-- The commands that can make an own change of a kind, but for the events that can take any request. -/
def Own.madeBy : Own → Instr → Prop
  | .place, c => ∃ q, c = .placeOrder q
  | .amend, c => ∃ q, c = .amendOrder q
  | .floor, c => ∃ v, c = .setFloor v
  | .stock, c => ∃ q, c = .setStock q
  | .original, c => (∃ x m p f, c = .setProfile x m p f) ∨ ∃ x k, c = .dropProfile x k
  | .range, c => (∃ k b e p, c = .setRange k b e p) ∨ ∃ x k, c = .dropProfile x k
  | .pointer, c => ∃ k, c = .setPlacement k
  | .map, c => ∃ es, c = .mapTray es
  | .tray, c => c = .trayOut ∨ c = .trayIn
  | .gate, c => c = .feedComplete ∨ c = .returnComplete ∨ c = .gateLoaded ∨ c = .gateCleared
  | .load, c => ∃ b r k f, c = .loadRoll b r k f
  | .unload, c => (∃ b, c = .unloadBack b) ∨ ∃ b, c = .clearBack b
  | .settings, c => ∃ q, c = .setStand q
  | .date, c => ∃ d, c = .setDate d
  | .rates, c => ∃ m h x, c = .setRates m h x
  | .counter, c => ∃ q, c = .setCounter q
  | .lock, c => ∃ k, c = .lockCounter k
  | .period, c => c = .closePeriod
  | .link, _ => True
  | .free, c => c = .readHead
  | .power, _ => False

/-- Power-on, or one of the three events of the desk link that can take any request. -/
def takesAny : Instr → Bool
  | .powerOn _ _ _ _ => true
  | .frameEnd _ _ _ => true
  | .heldRequestTaken => true
  | .lineFreeSend => true
  | _ => false

theorem madeBy_of_request {c : Instr} {r : Request} {o : Own} (hc : c.request = some r) (h : o ∈ requestOwns r) : o.madeBy c := by
  cases c <;> cases hc <;> simp only [requestOwns, List.mem_cons, List.not_mem_nil, or_false] at h
  all_goals rcases h with rfl | rfl <;> simp [Own.madeBy]

theorem madeBy_of_mem {c : Instr} {o : Own} (hc : takesAny c = false) (h : o ∈ ownsOf c) : o.madeBy c := by
  have hone : ∀ p : Own, p.madeBy c → o ∈ [p] → o.madeBy c := fun p hp hm => by rw [List.mem_singleton.1 hm]; exact hp
  cases hr : c.request with
  | some r =>
    have e : ownsOf c = .link :: requestOwns r := by unfold ownsOf; rw [hr]
    rcases List.mem_cons.1 (e ▸ h) with rfl | h
    · trivial
    · exact madeBy_of_request hr h
  | none =>
    cases c with
    | powerOn _ _ _ _ => cases hc
    | frameEnd _ _ _ => cases hc
    | heldRequestTaken => cases hc
    | lineFreeSend => cases hc
    | badLengthByte => exact hone .link trivial h
    | gapTimeout _ => exact hone .link trivial h
    | overrunFrameEnd => exact hone .link trivial h
    | linkBreak => exact hone .link trivial h
    | syncReceived => exact hone .link trivial h
    | trayOut => exact hone .tray (.inl rfl) h
    | trayIn => exact hone .tray (.inr rfl) h
    | feedComplete => exact hone .gate (.inl rfl) h
    | returnComplete => exact hone .gate (.inr (.inl rfl)) h
    | gateLoaded => exact hone .gate (.inr (.inr (.inl rfl))) h
    | gateCleared => exact hone .gate (.inr (.inr (.inr rfl))) h
    | _ => cases hr <;> cases h

/-! ## The fields the elementary changes leave -/

section

variable (a b : State) (h : Move a b)

include h

theorem Move.stocks_same : b.stocks = a.stocks := by cases h <;> rfl
theorem Move.floor_same : b.work.floor = a.work.floor := by cases h <;> rfl
theorem Move.placeSeq_same : b.work.placeSeq = a.work.placeSeq := by cases h <;> rfl
theorem Move.freeIx_same : b.freeIx = a.freeIx := by cases h <;> rfl
theorem Move.pending_same : b.pending = a.pending := by cases h <;> rfl
theorem Move.period_same : b.tally.period = a.tally.period := by cases h <;> rfl

theorem Move.rates_same : (b.tally.mountRate, b.tally.rushClass, b.tally.surcharge)
    = (a.tally.mountRate, a.tally.rushClass, a.tally.surcharge) := by cases h <;> rfl

theorem Move.settings_same : b.stand.settings = a.stand.settings := by
  cases h with
  | stand f _ hf => exact hf
  | _ => rfl

theorem Move.date_same : b.labels.date = a.labels.date := by
  cases h with
  | labels f _ hf => exact hf.1
  | _ => rfl

theorem Move.map_same : b.feeder.map = a.feeder.map := by
  cases h with
  | feeder f _ hf => exact hf.1
  | _ => rfl

theorem Move.rate_same : b.link.rate = a.link.rate := by
  cases h with
  | notice n =>
    unfold queueNotice
    simp only [onLink_link]
    split <;> rfl
  | _ => rfl

end

/-! ## The profile table's pointer and ranges -/

theorem mark_pointer_ranges (t : ProfileTable) (source : ProfileSource) :
    (t.mark source).pointer = t.pointer ∧ (t.mark source).ranges = t.ranges := by cases source <;> exact ⟨rfl, rfl⟩

/-- The slot of a write is chosen with the pointer and the range entries as they are. -/
theorem choose_pointer_ranges {t : ProfileTable} {x : Nat} {c : SlotChoice} (h : t.choose x = some c) :
    c.table.pointer = t.pointer ∧ c.table.ranges = t.ranges := by
  unfold ProfileTable.choose at h
  split at h
  · cases h; exact ⟨rfl, rfl⟩
  · split at h <;> cases h <;> exact ⟨rfl, rfl⟩
  · cases h; exact ⟨rfl, rfl⟩
  · unfold ProfileTable.victim at h
    split at h
    · cases h; exact ⟨rfl, rfl⟩
    · split at h
      · cases h; exact ⟨rfl, rfl⟩
      · split at h
        · cases h; exact ⟨rfl, rfl⟩
        · cases h

theorem learn_pointer_ranges (t : ProfileTable) (x n spacing : Nat) (p : Int) (step : LastStep) :
    (t.learn x n spacing p step).1.pointer = t.pointer ∧ (t.learn x n spacing p step).1.ranges = t.ranges := by
  unfold ProfileTable.learn
  split
  · split
    · split <;> exact ⟨rfl, rfl⟩
    · exact ⟨rfl, rfl⟩
  · split
    · rename_i hc; exact choose_pointer_ranges hc
    · exact ⟨rfl, rfl⟩

theorem Move.pointer_ranges_same (a b : State) (h : Move a b) :
    b.profiles.pointer = a.profiles.pointer ∧ b.profiles.ranges = a.profiles.ranges := by
  cases h with
  | mark source => exact mark_pointer_ranges _ source
  | learn x n spacing p step => exact learn_pointer_ranges _ x n spacing p step
  | _ => exact ⟨rfl, rfl⟩

/-! ## The sequence counters of the rolls -/

@[simp] theorem onBack_loadSeq (b : BackId) (f : Back → Back) (s : State) : (s.onBack b f).film.loadSeq = s.film.loadSeq := by
  cases b <;> rfl
@[simp] theorem onBack_unloadSeq (b : BackId) (f : Back → Back) (s : State) : (s.onBack b f).film.unloadSeq = s.film.unloadSeq := by
  cases b <;> rfl

theorem Move.rollSeqs_same (a b : State) (h : Move a b) :
    b.film.loadSeq = a.film.loadSeq ∧ b.film.unloadSeq = a.film.unloadSeq := by
  cases h with
  | turret f _ hf => exact ⟨hf.2.2.1, hf.2.2.2⟩
  | back b f => exact ⟨onBack_loadSeq b f _, onBack_unloadSeq b f _⟩
  | backRoll b g => exact ⟨onBack_loadSeq b _ _, onBack_unloadSeq b _ _⟩
  | frame b f => exact ⟨onBack_loadSeq b _ _, onBack_unloadSeq b _ _⟩
  | _ => exact ⟨rfl, rfl⟩

/-! ## The events of the tray and the gate that leave the map -/

theorem Moves.map_same {s t : State} (h : Moves s t) : t.feeder.map = s.feeder.map :=
  h.keeps (P := fun x => x.feeder.map = s.feeder.map) (fun a b hab ha => (hab.map_same a b).trans ha) rfl

/-- The gate-loaded sense leaves the tray map (R71, R74). -/
theorem gateLoadedEvent_map (s : State) : (gateLoadedEvent s).feeder.map = s.feeder.map := by
  unfold gateLoadedEvent
  split
  · split
    · rfl
    · exact ((tryPlan_moves _).trans (tryEndAborted_moves _)).map_same
  · rfl

/-! ## The frame of the settings -/

section

variable {c : Instr} {s t : State} (hx : exec c s = .next t) (hc : takesAny c = false)

include hx hc

/-- A field that the elementary changes leave and one kind of own change touches, beside power-on, changes by the commands that
make that kind alone. -/
theorem changed_madeBy {α : Type} {field : State → α} (o : Own) (hm : ∀ a b, Move a b → field b = field a)
    (ho : ∀ p a b, OwnMove p a b → p ≠ o → p ≠ .power → field b = field a) (hne : field t ≠ field s) : o.madeBy c := by
  obtain ⟨p, hp, htouch⟩ := Steps.changed (touches := fun p => decide (p = o ∨ p = .power)) hm
    (fun p a b hab hp => by
      obtain ⟨h1, h2⟩ := not_or.1 (of_decide_eq_false hp)
      exact ho p a b hab h1 h2) (exec_steps c s t hx) hne
  have hmade := madeBy_of_mem hc hp
  rcases of_decide_eq_true htouch with rfl | rfl
  · exact hmade
  · exact hmade.elim

theorem stocks_changed (h : t.stocks ≠ s.stocks) : ∃ q, c = .setStock q :=
  changed_madeBy hx hc .stock Move.stocks_same (fun p a b hab h1 h2 => by
    cases hab with
    | stock => exact absurd rfl h1
    | power => exact absurd rfl h2
    | _ => rfl) h

theorem floor_changed (h : t.work.floor ≠ s.work.floor) : ∃ v, c = .setFloor v :=
  changed_madeBy hx hc (field := fun s => s.work.floor) .floor Move.floor_same (fun p a b hab h1 h2 => by
    cases hab with
    | floor => exact absurd rfl h1
    | power => exact absurd rfl h2
    | _ => rfl) h

theorem placeSeq_changed (h : t.work.placeSeq ≠ s.work.placeSeq) : ∃ q, c = .placeOrder q :=
  changed_madeBy hx hc (field := fun s => s.work.placeSeq) .place Move.placeSeq_same (fun p a b hab h1 h2 => by
    cases hab with
    | place => exact absurd rfl h1
    | power => exact absurd rfl h2
    | _ => rfl) h

theorem settings_changed (h : t.stand.settings ≠ s.stand.settings) : ∃ q, c = .setStand q :=
  changed_madeBy hx hc (field := fun s => s.stand.settings) .settings Move.settings_same (fun p a b hab h1 h2 => by
    cases hab with
    | settings => exact absurd rfl h1
    | power => exact absurd rfl h2
    | _ => rfl) h

theorem rates_changed (h : (t.tally.mountRate, t.tally.rushClass, t.tally.surcharge)
    ≠ (s.tally.mountRate, s.tally.rushClass, s.tally.surcharge)) : ∃ m h x, c = .setRates m h x :=
  changed_madeBy hx hc (field := fun s => (s.tally.mountRate, s.tally.rushClass, s.tally.surcharge)) .rates Move.rates_same
    (fun p a b hab h1 h2 => by
      cases hab with
      | rates => exact absurd rfl h1
      | power => exact absurd rfl h2
      | _ => rfl) h

theorem period_changed (h : t.tally.period ≠ s.tally.period) : c = .closePeriod :=
  changed_madeBy hx hc (field := fun s => s.tally.period) .period Move.period_same (fun p a b hab h1 h2 => by
    cases hab with
    | period => exact absurd rfl h1
    | power => exact absurd rfl h2
    | _ => rfl) h

theorem date_changed (h : t.labels.date ≠ s.labels.date) : ∃ d, c = .setDate d :=
  changed_madeBy hx hc (field := fun s => s.labels.date) .date Move.date_same (fun p a b hab h1 h2 => by
    cases hab with
    | date => exact absurd rfl h1
    | power => exact absurd rfl h2
    | _ => rfl) h

theorem pointer_changed (h : t.profiles.pointer ≠ s.profiles.pointer) : ∃ k, c = .setPlacement k :=
  changed_madeBy hx hc (field := fun s => s.profiles.pointer) .pointer (fun a b hab => (hab.pointer_ranges_same a b).1)
    (fun p a b hab h1 h2 => by
      cases hab with
      | pointer => exact absurd rfl h1
      | power => exact absurd rfl h2
      | setOriginal cat mode p fixed m c _ _ _ hch => exact (choose_pointer_ranges hch).1
      | _ => rfl) h

theorem ranges_changed (h : t.profiles.ranges ≠ s.profiles.ranges) :
    (∃ k b e p, c = .setRange k b e p) ∨ ∃ x k, c = .dropProfile x k :=
  changed_madeBy hx hc (field := fun s => s.profiles.ranges) .range (fun a b hab => (hab.pointer_ranges_same a b).2)
    (fun p a b hab h1 h2 => by
      cases hab with
      | setRange => exact absurd rfl h1
      | dropRange => exact absurd rfl h1
      | power => exact absurd rfl h2
      | setOriginal cat mode p fixed m c _ _ _ hch => exact (choose_pointer_ranges hch).2
      | _ => rfl) h

theorem loadSeq_changed (h : t.film.loadSeq ≠ s.film.loadSeq) : ∃ b r k f, c = .loadRoll b r k f :=
  changed_madeBy hx hc (field := fun s => s.film.loadSeq) .load (fun a b hab => (hab.rollSeqs_same a b).1)
    (fun p a b hab h1 h2 => by
      cases hab with
      | load => exact absurd rfl h1
      | power => exact absurd rfl h2
      | unload b => cases b <;> rfl
      | clear b => cases b <;> rfl
      | _ => rfl) h

theorem unloadSeq_changed (h : t.film.unloadSeq ≠ s.film.unloadSeq) : (∃ b, c = .unloadBack b) ∨ ∃ b, c = .clearBack b :=
  changed_madeBy hx hc (field := fun s => s.film.unloadSeq) .unload (fun a b hab => (hab.rollSeqs_same a b).2)
    (fun p a b hab h1 h2 => by
      cases hab with
      | unload => exact absurd rfl h1
      | clear => exact absurd rfl h1
      | power => exact absurd rfl h2
      | load b => cases b <;> rfl
      | _ => rfl) h

theorem freeIx_changed (h : t.freeIx ≠ s.freeIx) : c = .readHead :=
  changed_madeBy hx hc (field := fun s => s.freeIx) .free Move.freeIx_same (fun p a b hab h1 h2 => by
    cases hab with
    | free => exact absurd rfl h1
    | power => exact absurd rfl h2
    | _ => rfl) h

/-- The tray map changes by MAP TRAY, by the tray's removal and by the gate-cleared sense alone. -/
theorem map_changed (h : t.feeder.map ≠ s.feeder.map) :
    (∃ es, c = .mapTray es) ∨ c = .trayOut ∨ c = .gateCleared ∨ c = .returnComplete := by
  obtain ⟨p, hp, htouch⟩ := Steps.changed (field := fun s => s.feeder.map)
    (touches := fun p => decide (p = .map ∨ p = .tray ∨ p = .gate ∨ p = .power)) Move.map_same
    (fun p a b hab hp => by
      cases hab with
      | map => exact absurd hp (by decide)
      | trayOut => exact absurd hp (by decide)
      | trayIn => exact absurd hp (by decide)
      | gateOn => exact absurd hp (by decide)
      | gateOff => exact absurd hp (by decide)
      | power => exact absurd hp (by decide)
      | _ => rfl) (exec_steps c s t hx) h
  have hmade := madeBy_of_mem hc hp
  have hloaded : exec c s ≠ .next (eventEnd false s (gateLoadedEvent s)) := fun heq => by
    rw [hx] at heq
    cases heq
    exact h ((eventEnd_moves _ _ _).map_same.trans (gateLoadedEvent_map s))
  rcases of_decide_eq_true htouch with rfl | rfl | rfl | rfl
  · exact .inl hmade
  · rcases hmade with rfl | rfl
    · exact .inr (.inl rfl)
    · cases hx
      exact absurd ((eventEnd_moves _ _ _).map_same.trans rfl) h
  · rcases hmade with rfl | rfl | rfl | rfl
    · exact absurd rfl hloaded
    · exact .inr (.inr (.inr rfl))
    · exact absurd rfl hloaded
    · exact .inr (.inr (.inl rfl))
  · exact hmade.elim

theorem rate_kept : t.link.rate = s.link.rate := by
  by_contra h
  exact changed_madeBy hx hc (field := fun s => s.link.rate) .power Move.rate_same (fun p a b hab h1 _ => by
    cases hab with
    | power => exact absurd rfl h1
    | link f _ hf => exact hf.1
    | _ => rfl) h

theorem pending_kept : t.pending = s.pending := by
  by_contra h
  exact changed_madeBy hx hc (field := fun s => s.pending) .power Move.pending_same (fun p a b hab _ _ => by
    cases hab <;> rfl) h

end

/-- Settles O14: each field is left by the elementary changes and by every own change but those of its own commands. -/
theorem onlyTheirOwnCommandsChange : Obligations.OnlyTheirOwnCommandsChange := by
  intro c s t hx hpower hframe hheld hfree
  have hc : takesAny c = false := by
    cases c with
    | powerOn a b x y => exact absurd rfl (hpower a b x y)
    | frameEnd kind body check => exact absurd rfl (hframe kind body check)
    | heldRequestTaken => exact absurd rfl hheld
    | lineFreeSend => exact absurd rfl hfree
    | _ => rfl
  exact ⟨stocks_changed hx hc, floor_changed hx hc, placeSeq_changed hx hc, settings_changed hx hc, rates_changed hx hc,
    period_changed hx hc, date_changed hx hc, pointer_changed hx hc, ranges_changed hx hc, map_changed hx hc,
    loadSeq_changed hx hc, unloadSeq_changed hx hc, freeIx_changed hx hc, rate_kept hx hc, pending_kept hx hc⟩

end Sys2Proof.Machine
end

section
/-! SUPPORT. A request taken at once, said once: what it answers is what its block answers with the receiver HUNTING. With it the
requests on orders and the work list (01_orders_and_the_work_list). -/

namespace Sys2Proof.Machine

/-! ## A request taken at once -/

/-- With the desk link free a request is taken and its reply placed (R191). -/
theorem arrive_of_linkFree {s : State} (hf : LinkFree s) (r : Request) :
    arrive r s = placeReply (answerRequest r (hunting s)).2 (answerRequest r (hunting s)).1 := by
  obtain ⟨hreply, hheld, hrx⟩ := hf
  have h1 : ¬(s.link.held.isSome ∨ s.link.rx = .counting) := by simp [hheld, hrx]
  rw [arrive, if_neg h1, offerRequest]
  simp only [hreply, Option.isNone_none, if_true]
  rfl

/-- A request taken at once and refused. -/
theorem exec_refused {c : Instr} {r : Request} {s : State} {kind : Nat} {code : Code} (hc : c.request = some r) (hf : LinkFree s)
    (h : answerRequest r (hunting s) = (hunting s, refusedMsg kind code)) : exec c s = .next (refusedWith kind code s) := by
  rw [exec_of_request hc, arrive_of_linkFree hf, h]
  rfl

/-- A request taken at once and accepted. -/
theorem exec_replied {c : Instr} {r : Request} {s : State} {m : Msg} {effect : State → State} (hc : c.request = some r)
    (hf : LinkFree s) (h : answerRequest r (hunting s) = (effect (hunting s), m)) : exec c s = .next (replied m effect s) := by
  rw [exec_of_request hc, arrive_of_linkFree hf, h]
  rfl

theorem answer_refused {kind : Nat} {refusal : Option Code} {code : Code} {s : State} {tr : Bool} {fields : List Field}
    {after : State} (h : refusal = some code) : answer kind refusal s tr fields after = (s, refusedMsg kind code) := by
  rw [h]; rfl

theorem answer_accepted {kind : Nat} {refusal : Option Code} {s : State} {tr : Bool} {fields : List Field} {after : State}
    (h : refusal = none) : answer kind refusal s tr fields after = (after, acceptedMsg kind tr fields) := by
  rw [h]; rfl

@[simp] theorem firstFailing_nil : firstFailing [] = none := rfl

@[simp] theorem firstFailing_cons (ok : Bool) (code : Code) (rest : List (Bool × Code)) :
    firstFailing ((ok, code) :: rest) = if ok then firstFailing rest else some code := rfl

/-- `lo ≤ x ≤ hi`, as a test and as a proposition. -/
theorem inNat_iff {lo hi x : Nat} : inNat lo hi x = true ↔ lo ≤ x ∧ x ≤ hi := by simp [inNat]

theorem inInt_iff {lo hi x : Int} : inInt lo hi x = true ↔ lo ≤ x ∧ x ≤ hi := by simp [inInt]

/-- A selected value passes its test; one not selected passes. -/
theorem okIf_iff {mask : BitVec 16} {bit : Nat} {ok : Bool} :
    okIf mask bit ok = true ↔ (mask.getLsbD bit = true → ok = true) := by
  cases h : mask.getLsbD bit <;> simp only [okIf, h] <;> simp

/-! ## PLACE ORDER -/

theorem okBracket_iff {n : Nat} : okBracket n = true ↔ n ∈ [1, 3, 5, 7, 9] := by simp [okBracket, or_assoc]

theorem okSpacing_iff {x : Nat} : okSpacing x = true ↔ x ∈ [3, 4, 6, 12] := by simp [okSpacing, or_assoc]

theorem okAdjust_iff {x : Option Int} : okAdjust x = true ↔ ∀ v ∈ x, -12 ≤ v ∧ v ≤ 12 := by
  cases x <;> simp [okAdjust, inInt_iff]

/-- The ranges of a PLACE ORDER, spelled out (R3, test 1). -/
theorem okPlace_iff (q : PlaceReq) :
    okPlace q = true ↔
      (1 ≤ q.number ∧ q.number ≤ 65535) ∧ (1 ≤ q.account ∧ q.account ≤ 0xFFFE) ∧ q.lecturer ≤ 65535
        ∧ (1 ≤ q.cls ∧ q.cls ≤ 15) ∧ q.stock ≤ 3 ∧ q.n ∈ [1, 3, 5, 7, 9] ∧ q.spacing ∈ [3, 4, 6, 12]
        ∧ (-36 ≤ q.offset ∧ q.offset ≤ 36) ∧ q.magn ≤ 15 ∧ (1 ≤ q.slides.length ∧ q.slides.length ≤ 40)
        ∧ ∀ x ∈ q.slides, 1 ≤ x.cat ∧ x.cat ≤ 16777215 ∧ ∀ v ∈ x.adjust, -12 ≤ v ∧ v ≤ 12 := by
  simp only [okPlace, okOrderNumber, okAccount, okLecturer, okClass, okStock, okOffset, okMagn, okCat, Bool.and_eq_true, inNat_iff,
    inInt_iff, okBracket_iff, okSpacing_iff, okAdjust_iff, decide_eq_true_eq, List.all_eq_true, Nat.zero_le, true_and, and_assoc]

theorem storedText_length (max : Nat) (t : Text) : (storedText max t).length = min max t.length := by simp [storedText]

/-- A character of a text as it is stored. -/
theorem storedText_get {max i : Nat} {t : Text} {c : Byte} (hi : i < max) (hc : t[i]? = some c) :
    (storedText max t)[i]? = some (storedChar c) := by
  simp [storedText, hi, hc]

/-- Settles O15: the tests in R3's order, and the record made. -/
theorem placeOrder : Obligations.PlaceOrder := by
  refine ⟨fun q s inRange isEnabled isFresh hasRoom hf hrange hen hfresh hroom => ?_, fun max t => ⟨storedText_length max t, ?_⟩⟩
  · have hrange := hrange.trans (okPlace_iff q).symm
    have hfresh : isFresh ↔ s.order? q.number = none := hfresh.trans order?_eq_none_iff.symm
    refine ⟨fun h => ?_, fun h1 h => ?_, fun h1 h2 h => ?_, fun h1 h2 h3 h => ?_, fun h1 h2 h3 h4 => ?_⟩
    · rw [hrange] at h
      exact exec_refused rfl hf (answer_refused (show placeRefusal q s = some .range by simp [placeRefusal, h]))
    · rw [hrange] at h1
      rw [hen] at h
      exact exec_refused rfl hf (answer_refused (show placeRefusal q s = some .state by simp [placeRefusal, h1, h]))
    · rw [hrange] at h1
      rw [hen] at h2
      rw [hfresh] at h
      exact exec_refused rfl hf (answer_refused (show placeRefusal q s = some .duplicate by
        simp [placeRefusal, h1, h2, h]))
    · rw [hrange] at h1
      rw [hen] at h2
      rw [hfresh] at h3
      rw [hroom] at h
      exact exec_refused rfl hf (answer_refused (show placeRefusal q s = some .full by
        simp [placeRefusal, h1, h2, h3, h, Config.maxOrders]))
    · rw [hrange] at h1
      rw [hen] at h2
      rw [hfresh] at h3
      rw [hroom] at h4
      exact exec_replied rfl hf (answer_accepted (show placeRefusal q s = none by
        simp [placeRefusal, h1, h2, h3, h4, Config.maxOrders]))
  · exact fun i hi c hc => storedText_get hi hc

/-! ## AMEND ORDER -/

/-- The ranges of an AMEND ORDER, spelled out (R19, R194). -/
theorem okAmend_iff (q : AmendReq) :
    okAmend q = true ↔
      q.mask.toNat < 256 ∧ (q.mask.getLsbD 0 = true → 1 ≤ q.cls ∧ q.cls ≤ 15)
        ∧ (q.mask.getLsbD 1 = true → q.n ∈ [1, 3, 5, 7, 9]) ∧ (q.mask.getLsbD 2 = true → q.spacing ∈ [3, 4, 6, 12])
        ∧ (q.mask.getLsbD 3 = true → -36 ≤ q.offset ∧ q.offset ≤ 36) ∧ (q.mask.getLsbD 4 = true → q.magn ≤ 15)
        ∧ (q.mask.getLsbD 5 = true → 1 ≤ q.account ∧ q.account ≤ 0xFFFE) ∧ (q.mask.getLsbD 6 = true → q.lecturer ≤ 65535) := by
  simp only [okAmend, okAccount, okLecturer, okClass, okOffset, okMagn, Bool.and_eq_true, okIf_iff, inNat_iff, inInt_iff,
    okBracket_iff, okSpacing_iff, decide_eq_true_eq, Nat.zero_le, true_and, and_assoc]

/-- An order is in service when it is in the stack or FILLING (R19). -/
theorem inService_iff {s : State} {n : Nat} {o : Order} (ho : s.order? n = some o) :
    inService s n = true ↔ n ∈ s.work.stack ∨ o.state = .filling := by
  simp [inService, ho]

/-- Settles O16: the tests UNKNOWN, RANGE and STATE, then the selected fields and the release of a CEILING hold. -/
theorem amendOrder : Obligations.AmendOrder := by
  intro q s inRange hf hrange
  have hrange := hrange.trans (okAmend_iff q).symm
  refine ⟨fun hn => ?_, fun o ho => ?_⟩
  · exact exec_refused rfl hf (answer_refused (show amendRefusal q s = some .unknown by simp [amendRefusal, hn]))
  · have hserv := inService_iff ho
    refine ⟨fun h => ?_, fun h hbit hin => ?_, fun h hno => ?_⟩
    · rw [hrange] at h
      exact exec_refused rfl hf (answer_refused (show amendRefusal q s = some .range by simp [amendRefusal, ho, h]))
    · rw [hrange] at h
      rw [← hserv] at hin
      refine exec_refused rfl hf (answer_refused (show amendRefusal q s = some .state from ?_))
      simp only [amendRefusal, ho, h, hbit, hin]
      rfl
    · rw [hrange] at h
      rw [← hserv] at hno
      refine exec_replied rfl hf ((answer_accepted (show amendRefusal q s = none from ?_)).trans ?_)
      · have : (q.mask.getLsbD 0 && inService s q.number) = false := by
          rw [← Bool.not_eq_true, Bool.and_eq_true]; exact hno
        simp only [amendRefusal, ho, h, this]
        rfl
      · have hheld : heldForCeiling (hunting s) q.number = o.state.isCeiling := by
          have ho' : (hunting s).order? q.number = some o := ho
          simp [heldForCeiling, ho']
        refine Prod.ext ?_ rfl
        change eventEnd true _ (amendEffect q (hunting s)) = eventEnd true _ _
        congr 1
        rw [amendEffect, hheld]
        by_cases hc : o.state.isCeiling = true ∧ (q.mask.getLsbD 1 = true ∨ q.mask.getLsbD 5 = true)
        · rw [if_pos (by simpa only [Bool.and_eq_true, Bool.or_eq_true] using hc), if_pos hc]
          rfl
        · rw [if_neg (by simpa only [Bool.and_eq_true, Bool.or_eq_true] using hc), if_neg hc]
          rfl

end Sys2Proof.Machine
end

section
/-! SUPPORT. CANCEL ORDER, HOLD ORDER, RELEASE ORDER and SET FLOOR: what a cancel discards on a roll and what a release makes of each
order. -/

namespace Sys2Proof.Machine

/-! ## The blocks an order's way through the stack leaves -/

@[simp] theorem queueNotice_film (x : Notice) (s : State) : (queueNotice x s).film = s.film := rfl
@[simp] theorem queueNotice_register (x : Notice) (s : State) : (queueNotice x s).register = s.register := rfl

/-- What the updates of orders and the notices leave of the state: everything but the work list and the desk link. -/
def SameBut (s t : State) : Prop := t = { s with work := t.work, link := t.link }

theorem SameBut.refl (s : State) : SameBut s s := rfl

theorem SameBut.trans {a b c : State} (h : SameBut a b) (k : SameBut b c) : SameBut a c := by
  unfold SameBut at h k ⊢
  rw [k, h]

theorem sameBut_queueNotice (x : Notice) (s : State) : SameBut s (queueNotice x s) := rfl
theorem sameBut_onWork (f : WorkList → WorkList) (s : State) : SameBut s (s.onWork f) := rfl

theorem sameBut_setOrderState (n : Nat) (st : OrderState) (former : Option FormerState) (s : State) :
    SameBut s (setOrderState n st former s) := by
  unfold setOrderState
  split
  · exact .refl s
  · simp only; split
    · exact sameBut_onWork _ s
    · exact (sameBut_onWork _ s).trans (sameBut_queueNotice _ _)

theorem sameBut_promoteTop (s : State) : SameBut s (promoteTop s) := by
  unfold promoteTop
  split
  · exact .refl s
  · split
    · exact .refl s
    · split
      · exact sameBut_onWork _ s
      · exact sameBut_setOrderState _ _ _ s

theorem sameBut_removeFromStack (n : Nat) (s : State) : SameBut s (removeFromStack n s) := by
  unfold removeFromStack
  split
  · exact (sameBut_onWork _ s).trans (sameBut_promoteTop _)
  · exact .refl s

theorem sameBut_holdWith (n : Nat) (r : HoldReason) (s : State) : SameBut s (holdWith n r s) :=
  (sameBut_setOrderState _ _ _ s).trans (sameBut_removeFromStack _ _)

theorem sameBut_releaseOne (n : Nat) (s : State) : SameBut s (releaseOne n s) := by
  unfold releaseOne
  split
  · exact .refl s
  · exact sameBut_setOrderState _ _ _ s

theorem sameBut_foldl {α : Type} {f : State → α → State} (h : ∀ s x, SameBut s (f s x)) (l : List α) (s : State) :
    SameBut s (l.foldl f s) := by
  induction l generalizing s with
  | nil => exact .refl s
  | cons x xs ih => exact (h s x).trans (ih _)

theorem sameBut_releaseWhere (test : Order → Bool) (s : State) : SameBut s (releaseWhere test s) :=
  sameBut_foldl (fun s k => sameBut_releaseOne k s) _ s

theorem SameBut.film {s t : State} (h : SameBut s t) : t.film = s.film := by rw [h]
theorem SameBut.register {s t : State} (h : SameBut s t) : t.register = s.register := by rw [h]
theorem SameBut.allRolls {s t : State} (h : SameBut s t) : t.allRolls = s.allRolls := by rw [h]; rfl

/-! ## What a cancel discards -/

theorem mapVec_eq_map {α β : Type} {n : Nat} (f : α → β) (v : Vector α n) : mapVec f v = v.map f := by
  apply Vector.toArray_inj.1
  apply Array.toList_inj.1
  simp [mapVec]

/-- Groups discarded one after another: each group and frame of their first frames is discarded. -/
theorem foldl_discardGroup (gs : List Group) (r : Roll) :
    gs.foldl (fun r g => r.discardGroup g.first .discarded) r
      = { r with
          groups := r.groups.map fun h => if gs.any fun g => g.first == h.first then { h with outcome := .discarded } else h,
          frames := r.frames.map fun f => if gs.any fun g => g.first == f.group then { f with selection := .discarded } else f } := by
  induction gs generalizing r with
  | nil => simp
  | cons g gs ih =>
    rw [List.foldl_cons, ih]
    simp only [Roll.discardGroup, Roll.onGroup, Roll.onFramesOf, List.map_map, Roll.mk.injEq, true_and]
    refine ⟨List.map_congr_left fun h _ => ?_, List.map_congr_left fun f _ => ?_⟩
    · by_cases hg : h.first = g.first
      · simp [hg]
      · simp [hg, Ne.symm hg]
    · by_cases hg : f.group = g.first
      · simp [hg]
      · simp [hg, Ne.symm hg]

/-- A group that a cancel reaches is discarded, and the others stay. -/
theorem cancelOrder_groups (r : Roll) (n : Nat) {g : Group} (h : g ∈ (r.cancelOrder n).groups) : g.cancelledBy n = false := by
  rw [Roll.cancelOrder, foldl_discardGroup] at h
  obtain ⟨p, hp, rfl⟩ := List.mem_map.1 h
  split
  · simp [Group.cancelledBy]
  · rename_i hno
    by_contra hc
    refine hno (List.any_eq_true.2 ⟨p, List.mem_filter.2 ⟨hp, by simpa using hc⟩, beq_self_eq_true _⟩)

/-- With no first frame twice, the groups a cancel discards are those of the order that are UNSELECTED, with their frames. -/
theorem cancelOrder_eq (r : Roll) (n : Nat) (hd : (r.groups.map fun g => g.first).Nodup) :
    r.cancelOrder n
      = { r with
          groups := r.groups.map fun g =>
            if g.order = n ∧ g.outcome = .unselected then { g with outcome := .discarded } else g,
          frames := r.frames.map fun f =>
            if r.groups.any (fun g => g.first == f.group && (g.order == n && decide (g.outcome = .unselected))) then
              { f with selection := .discarded } else f } := by
  rw [Roll.cancelOrder, foldl_discardGroup]
  congr 1
  · refine List.map_congr_left fun g hg => ?_
    have : ((r.groups.filter fun g => g.cancelledBy n).any fun h => h.first == g.first) = g.cancelledBy n := by
      rw [Bool.eq_iff_iff, List.any_eq_true]
      constructor
      · rintro ⟨h, hh, heq⟩
        obtain ⟨hm, hc⟩ := List.mem_filter.1 hh
        have : h = g := List.inj_on_of_nodup_map hd hm hg (by simpa using heq)
        exact this ▸ hc
      · exact fun hc => ⟨g, List.mem_filter.2 ⟨hg, hc⟩, beq_self_eq_true _⟩
    rw [this]
    simp [Group.cancelledBy]
  · refine List.map_congr_left fun f _ => ?_
    rw [List.any_filter]
    simp [Group.cancelledBy, Bool.and_comm]

/-- A close test takes no roll record in. -/
theorem closeTest_allRolls (k : Nat) (s : State) : ∀ r ∈ (closeTest k s).allRolls, r ∈ s.allRolls := by
  have hclose : ∀ (slot : Nat) (cause : CloseCause) (s : State), ∀ r ∈ (closeRoll slot cause s).allRolls, r ∈ s.allRolls := by
    intro slot cause s r hr
    unfold closeRoll at hr
    split at hr
    · exact hr
    · simp only [State.allRolls, List.mem_append, List.mem_filterMap, onLabels_film, onRegister_film, queueNotice_film,
        onLabels_register, onRegister_register, queueNotice_register] at hr ⊢
      refine hr.imp_right fun ⟨x, hx, hxr⟩ => ⟨x, ?_, hxr⟩
      simp only [id] at hxr
      subst hxr
      rw [Vector.toList_setIfInBounds] at hx
      exact (List.mem_or_eq_of_mem_set hx).resolve_right nofun
  unfold closeTest
  split
  · exact fun r hr => hr
  · split
    · split
      · exact hclose _ _ s
      · exact fun r hr => hr
    · exact fun r hr => hr

theorem closeTests_allRolls (ks : List Nat) (s : State) :
    ∀ r ∈ (ks.foldl (fun s k => closeTest k s) s).allRolls, r ∈ s.allRolls := by
  induction ks generalizing s with
  | nil => exact fun r hr => hr
  | cons k ks ih => exact fun r hr => closeTest_allRolls k s r (ih _ r hr)

/-- The rolls of every place, each changed by a function. -/
def mapRolls (f : Roll → Roll) (s : State) : State :=
  ((s.onBackRoll .backA f).onBackRoll .backB f).onRegister fun v => mapVec (fun x => x.map f) v

theorem mem_allRolls {s : State} {r : Roll} :
    r ∈ s.allRolls ↔ s.film.backA.roll = some r ∨ s.film.backB.roll = some r ∨ some r ∈ s.register.toList := by
  simp [State.allRolls]

theorem mapRolls_allRolls (f : Roll → Roll) (s : State) : (mapRolls f s).allRolls = s.allRolls.map f := by
  simp only [State.allRolls, mapRolls, onRegister_register, mapVec_eq_map, Vector.toList_map, List.map_append, List.map_filterMap,
    List.filterMap_map]
  congr 2
  · exact Option.toList_map
  · exact Option.toList_map

/-- A cancel that takes effect, its first step named. -/
theorem cancelEffect_eq (n : Nat) (s : State) :
    cancelEffect n s
      = (cancelledRolls s n).foldl (fun s k => closeTest k s)
          (queueNotice (.orderCancelled n) (freeOrder n (removeFromStack n (mapRolls (fun r => r.cancelOrder n) s)))) := rfl

/-- What a cancel leaves: no order of the number, no place of it in the stack, no UNSELECTED group of it (R20, R144). -/
theorem cancelEffect_leaves (n : Nat) (s : State) :
    (∀ o ∈ (cancelEffect n s).work.orders, o.number ≠ n) ∧ n ∉ (cancelEffect n s).work.stack
      ∧ ∀ r ∈ (cancelEffect n s).allRolls, ∀ g ∈ r.groups, g.order = n → g.outcome ≠ .unselected := by
  rw [cancelEffect_eq]
  refine ⟨fun o ho => ?_, ?_, fun r hr g hg hn hu => ?_⟩
  · rw [closeTests_work, queueNotice_work] at ho
    simpa using (List.mem_filter.1 ho).2
  · rw [closeTests_work, queueNotice_work]
    exact removeFromStack_out n _
  · have h1 := closeTests_allRolls _ _ r hr
    have hsame : SameBut (mapRolls (fun r => r.cancelOrder n) s)
        (queueNotice (.orderCancelled n) (freeOrder n (removeFromStack n (mapRolls (fun r => r.cancelOrder n) s)))) :=
      ((sameBut_removeFromStack _ _).trans (sameBut_onWork _ _)).trans (sameBut_queueNotice _ _)
    rw [hsame.allRolls, mapRolls_allRolls] at h1
    obtain ⟨p, _, rfl⟩ := List.mem_map.1 h1
    have := cancelOrder_groups p n hg
    simp [Group.cancelledBy, hn, hu] at this

theorem cycleIsOf_iff {s : State} {n : Nat} : cycleIsOf s n = true ↔ ∃ c, s.stand.cycle = some c ∧ c.order = n := by
  cases h : s.stand.cycle <;> simp [cycleIsOf, h]

/-- Settles O17: the marks of a cycle in flight, and all that a cancel in effect does. -/
theorem cancelAndHoldOrder : Obligations.CancelAndHoldOrder := by
  refine ⟨fun n s hf => ⟨fun hn => ?_, fun hsome hc => ?_, fun hsome hc => ?_⟩, cancelEffect_leaves, ?_⟩
  · have hr : firstFailing [((s.order? n).isSome, .unknown)] = some .unknown := by simp [hn]
    exact ⟨exec_refused rfl hf (answer_refused (by exact hr)), exec_refused rfl hf (answer_refused (by exact hr))⟩
  · have hr : firstFailing [((s.order? n).isSome, .unknown)] = none := by simp [hsome]
    have hcyc : cycleIsOf (hunting s) n = true := cycleIsOf_iff.2 hc
    constructor
    · refine exec_replied rfl hf ((answer_accepted (by exact hr)).trans ?_)
      rw [cancelRequestEffect, if_pos hcyc, hcyc]
      rfl
    · refine exec_replied rfl hf ((answer_accepted (by exact hr)).trans ?_)
      rw [holdRequestEffect, if_pos hcyc, hcyc]
      rfl
  · have hr : firstFailing [((s.order? n).isSome, .unknown)] = none := by simp [hsome]
    have hcyc : cycleIsOf (hunting s) n = false := by
      rw [← Bool.not_eq_true, cycleIsOf_iff]
      exact fun ⟨c, h1, h2⟩ => hc c h1 h2
    constructor
    · refine exec_replied rfl hf ((answer_accepted (by exact hr)).trans ?_)
      rw [cancelRequestEffect, hcyc]
      rfl
    · refine exec_replied rfl hf ((answer_accepted (by exact hr)).trans ?_)
      rw [holdRequestEffect, hcyc]
      rfl
  · intro n s t u discard hd hdis ht hu
    have hroll : ∀ r ∈ s.allRolls, r.cancelOrder n = discard r := fun r hr => by rw [cancelOrder_eq r n (hd r hr), hdis]
    have hback : ∀ x : Option Roll, (∀ r ∈ x, r ∈ s.allRolls) → x.map (fun r => r.cancelOrder n) = x.map discard :=
      fun x hx => Option.map_congr fun r hr => hroll r (hx r hr)
    have hmap : mapRolls (fun r => r.cancelOrder n) s = t := by
      rw [ht]
      have hA := hback s.film.backA.roll fun r hr => mem_allRolls.2 (.inl hr)
      have hB := hback s.film.backB.roll fun r hr => mem_allRolls.2 (.inr (.inl hr))
      have hR : mapVec (fun x : Option Roll => x.map fun r => r.cancelOrder n) s.register
          = s.register.map fun x => x.map discard := by
        rw [mapVec_eq_map]
        refine Vector.map_congr_left fun x hx => hback x fun r hr => mem_allRolls.2 (.inr (.inr ?_))
        rw [Option.mem_def] at hr
        subst hr
        exact Vector.mem_toList_iff.2 hx
      simp only [mapRolls, State.onRegister, State.onBackRoll, State.onBack, State.onFilm, hA, hB, hR]
    rw [cancelEffect_eq, hmap, ← hu]
    rfl

end Sys2Proof.Machine
end

section
/-! SUPPORT. What a change of an order's state and a release make of the list of orders; the next slide of an order; RELEASE ORDER,
SET FLOOR and the finish of an order (R6, R7, R22 to R24). -/

namespace Sys2Proof.Machine

/-! ## The list of orders after a change of state -/

/-- A change of state rewrites the orders of the number; with no such order there is none to rewrite. -/
theorem setOrderState_orders (n : Nat) (st : OrderState) (former : Option FormerState) (s : State) :
    (setOrderState n st former s).work.orders = s.work.orders.map fun o => if o.number = n then o.give st former else o := by
  unfold setOrderState
  split
  · rename_i h
    refine (List.map_id _).symm.trans (List.map_congr_left fun o ho => ?_)
    simp [order?_eq_none_iff.1 h o ho]
  · have hb : ∀ k : Nat, (k == n) = decide (k = n) := fun _ => rfl
    simp only
    split <;> simp [State.onOrder, hb, Order.give]

/-- An order as a release returns it (R7). -/
def Order.returned (o : Order) : Order := o.give (returnState o) none

@[simp] theorem returned_number (o : Order) : o.returned.number = o.number := rfl
@[simp] theorem returned_returned (o : Order) : o.returned.returned = o.returned := rfl

theorem releaseOne_orders {s : State} (hd : NumbersDistinct s) (n : Nat) :
    (releaseOne n s).work.orders = s.work.orders.map fun o => if o.number = n then o.returned else o := by
  unfold releaseOne
  split
  · rename_i h
    refine (List.map_id _).symm.trans (List.map_congr_left fun o ho => ?_)
    simp [order?_eq_none_iff.1 h o ho]
  · rename_i o ho
    rw [setOrderState_orders]
    refine List.map_congr_left fun p hp => ?_
    split
    · rename_i hn
      have := order?_of_mem hd hp
      rw [hn, ho] at this
      cases this
      rfl
    · rfl

/-- The numbers of the orders, and with them their distinctness, are those of the orders before a rewriting that keeps numbers. -/
theorem distinct_of_map {s t : State} {f : Order → Order} (h : t.work.orders = s.work.orders.map f)
    (hf : ∀ o, (f o).number = o.number) (hd : NumbersDistinct s) : NumbersDistinct t := by
  simpa only [NumbersDistinct, h, List.map_map, Function.comp_def, hf] using hd

theorem releaseAll_orders (ks : List Nat) {s : State} (hd : NumbersDistinct s) :
    (ks.foldl (fun s k => releaseOne k s) s).work.orders
      = s.work.orders.map fun o => if o.number ∈ ks then o.returned else o := by
  induction ks generalizing s with
  | nil => simp
  | cons k ks ih =>
    have h1 := releaseOne_orders hd k
    rw [List.foldl_cons, ih (distinct_of_map h1 (fun o => by split <;> rfl) hd), h1, List.map_map]
    refine List.map_congr_left fun o _ => ?_
    by_cases hk : o.number = k
    · simp [hk]
    · simp [hk]

/-- A release by a test returns the orders that meet it. -/
theorem releaseWhere_orders (test : Order → Bool) {s : State} (hd : NumbersDistinct s) :
    (releaseWhere test s).work.orders = s.work.orders.map fun o => if test o then o.returned else o := by
  refine (releaseAll_orders _ hd).trans (List.map_congr_left fun o ho => ?_)
  have : o.number ∈ (s.work.orders.filter test).map (fun o => o.number) ↔ test o = true := by
    constructor
    · intro h
      obtain ⟨p, hp, heq⟩ := List.mem_map.1 h
      obtain ⟨hp, htest⟩ := List.mem_filter.1 hp
      exact List.inj_on_of_nodup_map hd hp ho heq ▸ htest
    · exact fun h => List.mem_map_of_mem (List.mem_filter.2 ⟨ho, h⟩)
  simp only [this]

/-! ## The tray map -/

theorem mapAt_eq_some_iff {s : State} {p x : Nat} : s.mapAt p = some x ↔ s.feeder.map[p]? = some (some x) := by
  rw [State.mapAt, Option.join_eq_some_iff]

/-- The tray map holds a number just when one of its 80 positions does. -/
theorem map_contains_iff {s : State} {x : Nat} :
    s.feeder.map.toList.contains (some x) = true ↔ ∃ p < 80, s.mapAt p = some x := by
  rw [List.contains_iff_mem, Vector.mem_toList_iff, Vector.mem_iff_getElem]
  constructor
  · rintro ⟨p, hp, h⟩
    exact ⟨p, hp, mapAt_eq_some_iff.2 (by rw [Vector.getElem?_eq_getElem hp, h])⟩
  · rintro ⟨p, hp, h⟩
    rw [mapAt_eq_some_iff, Vector.getElem?_eq_getElem hp] at h
    exact ⟨p, hp, Option.some.inj h⟩

/-! ## RELEASE ORDER, SET FLOOR and the releases -/

@[simp] theorem hunting_order? (n : Nat) (s : State) : (hunting s).order? n = s.order? n := rfl

theorem isHeld_iff {st : OrderState} : st.isHeld = true ↔ ∃ r, st = .held r := by
  cases st <;> simp [OrderState.isHeld]

theorem isCeiling_iff {st : OrderState} : st.isCeiling = true ↔ ∃ k, st = .held (.ceiling k) := by
  cases st with
  | held r => cases r <;> simp [OrderState.isCeiling]
  | _ => simp [OrderState.isCeiling]

/-- The three releases by hold reason are releases by a test that decides the reason. -/
theorem release_eq_releaseWhere {s : State} {release : State → State} {test : Order → Prop}
    (h : release = releaseCeiling ∧ (∀ o, test o ↔ ∃ k, o.state = .held (.ceiling k))
      ∨ (∃ stock, release = releaseFilm stock ∧ ∀ o, test o ↔ o.state = .held .film ∧ o.stock = stock)
      ∨ release = releaseOriginal
        ∧ (∀ o, test o ↔ o.state = .held .original ∧ ∃ x p, nextCat o = some x ∧ p < 80 ∧ s.mapAt p = some x)) :
    ∃ b : Order → Bool, release s = releaseWhere b s ∧ ∀ o, b o = true ↔ test o := by
  rcases h with ⟨rfl, ht⟩ | ⟨stock, rfl, ht⟩ | ⟨rfl, ht⟩
  · exact ⟨_, rfl, fun o => isCeiling_iff.trans (ht o).symm⟩
  · exact ⟨_, rfl, fun o => by simp [ht]⟩
  · refine ⟨_, rfl, fun o => ?_⟩
    rw [ht, Bool.and_eq_true, decide_eq_true_eq]
    refine and_congr_right fun _ => ?_
    cases hx : nextCat o with
    | none => simp
    | some x =>
      rw [map_contains_iff]
      simp

/-- Settles O18: RELEASE ORDER and SET FLOOR, and what the releases by hold reason make of each order. -/
theorem releaseOrderAndSetFloor : Obligations.ReleaseOrderAndSetFloor := by
  refine ⟨fun n s hf => ⟨fun hn => ?_, fun o ho => ⟨fun hr => ?_, fun hr hp => ?_, fun hr hp => ?_⟩⟩,
    fun floor s hf => ⟨fun h => ?_, fun h => ?_⟩, fun s release test hd hrel => ?_⟩
  · exact exec_refused rfl hf (answer_refused (by simp [hn]))
  · have hh : o.state.isHeld = true := isHeld_iff.2 hr
    refine exec_replied rfl hf ((answer_accepted (by simp [State.orderHas, ho, hh])).trans ?_)
    simp only [releaseRequestEffect, State.orderHas, releaseOne, hunting_order?, ho, hh, if_true]
    rfl
  · have hh : o.state.isHeld = false := by rw [← Bool.not_eq_true, isHeld_iff]; exact fun ⟨r, h⟩ => hr r h
    refine exec_replied rfl hf ((answer_accepted (by simp [State.orderHas, ho, hh, hp])).trans ?_)
    simp only [releaseRequestEffect, State.orderHas, hunting_order?, ho, hh]
    rfl
  · have hh : o.state.isHeld = false := by rw [← Bool.not_eq_true, isHeld_iff]; exact fun ⟨r, h⟩ => hr r h
    exact exec_refused rfl hf (answer_refused (by simp [State.orderHas, ho, hh, hp]))
  · exact exec_replied rfl hf ((answer_accepted (by simp [h])).trans rfl)
  · exact exec_refused rfl hf (answer_refused (by simp [Nat.not_le.2 h]))
  · obtain ⟨b, hb, htest⟩ := release_eq_releaseWhere hrel
    rw [hb, releaseWhere_orders b hd]
    refine ⟨List.length_map _, fun i o hi => ⟨fun ht => ?_, fun ht => ?_⟩⟩
    · simp only [List.getElem?_map, hi, Option.map_some, (htest o).2 ht, if_true]
      rfl
    · simp [List.getElem?_map, hi, htest o, ht]

/-! ## The next slide and the finish of an order -/

/-- The first entry of an outcome. -/
theorem findIdx?_outcome {l : List Slide} {x : SlideOutcome} {i : Nat} :
    (l.findIdx? fun y => y.outcome = x) = some i
      ↔ ∃ y, l[i]? = some y ∧ y.outcome = x ∧ ∀ j < i, ∀ z, l[j]? = some z → z.outcome ≠ x := by
  rw [List.findIdx?_eq_some_iff_getElem]
  constructor
  · rintro ⟨hi, h, hmin⟩
    refine ⟨l[i], List.getElem?_eq_getElem hi, by simpa using h, fun j hj z hz => ?_⟩
    have := hmin j hj
    rw [List.getElem?_eq_getElem (hj.trans hi)] at hz
    cases hz
    simpa using this
  · rintro ⟨y, hy, h, hmin⟩
    obtain ⟨hi, rfl⟩ := List.getElem?_eq_some_iff.1 hy
    exact ⟨hi, by simpa using h, fun j hj => by simpa using hmin j hj _ (List.getElem?_eq_getElem (hj.trans hi))⟩

theorem findIdx?_outcome_none {l : List Slide} {x : SlideOutcome} :
    (l.findIdx? fun y => y.outcome = x) = none ↔ ∀ y ∈ l, y.outcome ≠ x := by
  simp [List.findIdx?_eq_none_iff]

/-- The next slide: the lowest NOT_SHOT, else the lowest RESHOOT_DUE (R7). -/
theorem nextSlide_eq_some_iff {o : Order} {i : Nat} :
    nextSlide o = some i ↔
      ∃ x, o.slides[i]? = some x
        ∧ ((x.outcome = .notShot ∧ ∀ j < i, ∀ y, o.slides[j]? = some y → y.outcome ≠ .notShot)
          ∨ (x.outcome = .reshootDue ∧ (∀ y ∈ o.slides, y.outcome ≠ .notShot)
              ∧ ∀ j < i, ∀ y, o.slides[j]? = some y → y.outcome ≠ .reshootDue)) := by
  unfold nextSlide
  split
  · rename_i k hk
    obtain ⟨y, hy, hout, hmin⟩ := findIdx?_outcome.1 hk
    constructor
    · intro h
      cases h
      exact ⟨y, hy, .inl ⟨hout, hmin⟩⟩
    · rintro ⟨x, hx, ⟨hn, hmin'⟩ | ⟨_, hno, _⟩⟩
      · exact hk.symm.trans (findIdx?_outcome.2 ⟨x, hx, hn, hmin'⟩)
      · exact absurd hout (hno y (List.mem_of_getElem? hy))
  · rename_i hnone
    rw [findIdx?_outcome_none] at hnone
    rw [findIdx?_outcome]
    constructor
    · rintro ⟨x, hx, hr, hmin⟩
      exact ⟨x, hx, .inr ⟨hr, hnone, hmin⟩⟩
    · rintro ⟨x, hx, ⟨hn, _⟩ | ⟨hr, _, hmin⟩⟩
      · exact absurd hn (hnone x (List.mem_of_getElem? hx))
      · exact ⟨x, hx, hr, hmin⟩

theorem nextSlide_eq_none_iff {o : Order} :
    nextSlide o = none ↔ ∀ x ∈ o.slides, x.outcome ≠ .notShot ∧ x.outcome ≠ .reshootDue := by
  unfold nextSlide
  split
  · rename_i k hk
    obtain ⟨y, hy, hout, _⟩ := findIdx?_outcome.1 hk
    simp only [reduceCtorEq, false_iff]
    exact fun h => (h y (List.mem_of_getElem? hy)).1 hout
  · rename_i hnone
    rw [findIdx?_outcome_none] at hnone ⊢
    exact ⟨fun h x hx => ⟨hnone x hx, h x hx⟩, fun h x hx => (h x hx).2⟩

theorem isFinal_iff {x : SlideOutcome} : x.isFinal = true ↔ x = .kept ∨ x = .rejected := by
  cases x <;> simp [SlideOutcome.isFinal]

/-- A change of the state of a live order, with its ORDER CHANGED (R6). -/
theorem setOrderState_eq {n : Nat} {st : OrderState} {former : Option FormerState} {s : State} {o : Order}
    (ho : s.order? n = some o) :
    setOrderState n st former s
      = (if o.state = st then id else queueNotice (.orderChanged n st)) (s.onOrder n fun o => o.give st former) := by
  simp only [setOrderState, ho]
  split <;> rfl

/-- Settles O19: the next slide, ORDER CHANGED, and the finish of an order. -/
theorem nextSlideAndOrderChanged : Obligations.NextSlideAndOrderChanged := by
  refine ⟨fun o i => nextSlide_eq_some_iff, fun o => nextSlide_eq_none_iff, fun n st former s o ho => ?_,
    fun n s o ho => ⟨fun hfin => ?_, fun hfin => ⟨fun he hn => ?_, fun h => ?_⟩⟩⟩
  · rw [setOrderState_eq ho]
    simp [State.onOrder, State.onWork, Order.give]
  · have hall : (o.slides.all fun x => x.outcome.isFinal) = true := by
      simpa only [List.all_eq_true, isFinal_iff] using hfin
    have heq : takeOutcomeChange n s
        = queueNotice
            (.orderCompleted n (o.slides.countP fun x => x.outcome = .kept) (o.slides.countP fun x => x.outcome = .rejected))
            (freeOrder n (removeFromStack n s)) := by
      simp [takeOutcomeChange, ho, hall]
    refine ⟨fun p hp => ?_, ?_, heq⟩
    · rw [heq, queueNotice_work] at hp
      simpa using (List.mem_filter.1 hp).2
    · rw [heq, queueNotice_work]
      exact removeFromStack_out n s
  · have hall : ¬(o.slides.all fun x => x.outcome.isFinal) = true := by
      simpa only [List.all_eq_true, isFinal_iff] using hfin
    have : (nextSlide o).isSome = true := Option.isSome_iff_ne_none.2 hn
    simp only [takeOutcomeChange, ho, if_neg hall, he, this, and_self, if_true]
  · have hall : ¬(o.slides.all fun x => x.outcome.isFinal) = true := by
      simpa only [List.all_eq_true, isFinal_iff] using hfin
    have : ¬(o.state = .exposed ∧ (nextSlide o).isSome = true) := by rwa [Option.isSome_iff_ne_none]
    simp only [takeOutcomeChange, ho, if_neg hall, if_neg this]

end Sys2Proof.Machine
end

section
/-! SUPPORT. The end of an event, and the tests and choices of R11 to R15 read as propositions: backs, tray positions, candidates,
the push of an order (R8 to R15, R110). -/

namespace Sys2Proof.Machine

/-! ## The end of an event -/

theorem orderMoved_iff {t : State} {o : Order} :
    orderMoved t o = true ↔
      (∀ p ∈ t.work.orders, ¬(p.number = o.number ∧ p.seq = o.seq))
        ∨ ∃ p, (t.work.orders.find? fun p => p.number == o.number && p.seq == o.seq) = some p
            ∧ (((∃ r, o.state = .held r) ∧ ∀ r, p.state ≠ .held r) ∨ (o.state = .exposed ∧ p.state = .pending)) := by
  unfold orderMoved
  split
  · rename_i hnone
    simpa only [true_iff, List.find?_eq_none, Bool.and_eq_true, beq_iff_eq] using Or.inl (List.find?_eq_none.1 hnone)
  · rename_i p hp
    have hsome : ¬∀ p ∈ t.work.orders, ¬(p.number = o.number ∧ p.seq = o.seq) := fun h =>
      h p (List.mem_of_find?_eq_some hp) (by simpa using List.find?_some hp)
    have hnot : p.state.isHeld = false ↔ ∀ r, p.state ≠ .held r := by
      rw [← Bool.not_eq_true, isHeld_iff, not_exists]
    have hfound : ∀ q, some p = some q ↔ q = p := fun q => by rw [Option.some.injEq, eq_comm]
    simp only [hp, hfound, exists_eq_left, Bool.or_eq_true, Bool.and_eq_true, Bool.not_eq_true', isHeld_iff, hnot,
      decide_eq_true_eq]
    exact (or_iff_right hsome).symm

theorem becameReady_iff {s t : State} :
    (becameReady s.film.backA t.film.backA = true ∨ becameReady s.film.backB t.film.backB = true)
      ↔ ∃ b, (s.back b).state ≠ .ready ∧ (t.back b).state = .ready := by
  simp only [becameReady, Bool.and_eq_true, decide_eq_true_eq]
  constructor
  · rintro (h | h)
    · exact ⟨.backA, h⟩
    · exact ⟨.backB, h⟩
  · rintro ⟨b, h⟩
    cases b with
    | backA => exact .inl h
    | backB => exact .inr h

/-- The events of R10 as they are read off what an event changed. -/
theorem choiceTriggered_iff {s t : State} :
    choiceTriggered s t = true ↔
      (s.stand.mode ≠ .running ∧ t.stand.mode = .running) ∨ (s.stand.cycle.isSome = true ∧ t.stand.cycle = none)
        ∨ (∃ o ∈ s.work.orders, orderMoved t o = true)
        ∨ (∃ b, (s.back b).state ≠ .ready ∧ (t.back b).state = .ready)
        ∨ s.stand.settings.fill ≠ t.stand.settings.fill := by
  simp only [choiceTriggered, Bool.or_eq_true, Bool.and_eq_true, decide_eq_true_eq, Option.isNone_iff_eq_none, List.any_eq_true,
    bne_iff_ne, ← becameReady_iff, or_assoc]

/-- Settles O20: the choice for an event of R10, then STAND CHANGED for a change it speaks of. -/
theorem eventsEndByTheirRules : Obligations.EventsEndByTheirRules := by
  intro asked s t event hev
  have hev : event ↔ (asked || choiceTriggered s t) = true := by
    rw [hev, Bool.or_eq_true, choiceTriggered_iff]
    simp only [orderMoved_iff]
  refine ⟨if asked || choiceTriggered s t then runChoice t else t, ?_, fun h => ?_, fun h => ?_⟩
  · simp only [hev, runChoice, choiceAllowed, Bool.and_eq_true, decide_eq_true_eq, Option.isNone_iff_eq_none]
    split
    · split <;> rfl
    · exact (ite_self _).symm
  · simp only [Prod.mk.injEq] at h
    rw [eventEnd, standEnd, if_pos h]
  · simp only [ne_eq, Prod.mk.injEq] at h
    rw [eventEnd, standEnd, if_neg h]
    rfl

/-! ## Tests of backs and tray positions -/

/-- READY with a roll of the stock (R12, step 2). -/
theorem readyFor_iff {k : Back} {stock : Nat} :
    k.readyFor stock = true ↔ k.state = .ready ∧ ∃ r, k.roll = some r ∧ r.stock = stock := by
  simp only [Back.readyFor, Bool.and_eq_true, decide_eq_true_eq]
  refine and_congr_right fun h => ?_
  rw [Back.stock?, if_neg (by simp [h]), Option.map_eq_some_iff]

theorem remaining_pos_iff {r : Roll} {n : Nat} (hn : 0 < n) :
    n ≤ r.remaining ↔ r.endMark = none ∧ n ≤ r.declared + 1 - r.next := by
  unfold Roll.remaining
  cases r.endMark with
  | none => simp
  | some x => simp; omega

theorem takesBracket_iff {k : Back} {stock n : Nat} :
    k.takesBracket stock n = true ↔ k.state = .ready ∧ ∃ r, k.roll = some r ∧ r.stock = stock ∧ n ≤ r.remaining := by
  simp only [Back.takesBracket, Bool.and_eq_true, readyFor_iff, Back.fits, decide_eq_true_eq, Back.remaining]
  constructor
  · rintro ⟨⟨hs, r, hr, hstock⟩, -, hn⟩
    exact ⟨hs, r, hr, hstock, by simpa [hr] using hn⟩
  · rintro ⟨hs, r, hr, hstock, hn⟩
    exact ⟨⟨hs, r, hr, hstock⟩, hs, by simpa [hr] using hn⟩

theorem filmTest_iff {s : State} {stock : Nat} : filmTest s stock = true ↔ ∃ b, (s.back b).readyFor stock = true := by
  rw [filmTest, Bool.or_eq_true]
  constructor
  · rintro (h | h)
    · exact ⟨.backA, h⟩
    · exact ⟨.backB, h⟩
  · rintro ⟨b, h⟩
    cases b with
    | backA => exact .inl h
    | backB => exact .inr h

theorem otherBack_ne (b : BackId) : otherBack b ≠ b := by cases b <;> nofun

theorem eq_or_eq_otherBack (a b : BackId) : a = b ∨ a = otherBack b := by cases a <;> cases b <;> simp [otherBack]

/-- The back for a bracket: one that takes it, the one at the camera position first (R13). -/
theorem findBack_eq_some_iff {s : State} {stock n : Nat} {b : BackId} :
    findBack s stock n = some b ↔
      (s.back b).takesBracket stock n = true ∧ (b = cameraBack s ∨ ¬(s.back (cameraBack s)).takesBracket stock n = true) := by
  have hother := otherBack_ne (cameraBack s)
  unfold findBack
  split
  · rename_i h
    constructor
    · intro hb
      cases hb
      exact ⟨h, .inl rfl⟩
    · rintro ⟨-, rfl | hno⟩
      · rfl
      · exact absurd h hno
  · rename_i h
    split
    · rename_i ho
      constructor
      · intro hb
        cases hb
        exact ⟨ho, .inr h⟩
      · rintro ⟨hb, -⟩
        rcases eq_or_eq_otherBack b (cameraBack s) with rfl | rfl
        · exact absurd hb h
        · rfl
    · rename_i ho
      refine ⟨nofun, ?_⟩
      rintro ⟨hb, -⟩
      rcases eq_or_eq_otherBack b (cameraBack s) with rfl | rfl
      · exact absurd hb h
      · exact absurd hb ho

/-- The back found is one of those that take the bracket. -/
theorem findBack_takes {s : State} {stock n : Nat} {b : BackId} (h : findBack s stock n = some b) :
    (s.back b).takesBracket stock n = true := (findBack_eq_some_iff.1 h).1

theorem filmTest_of_findBack {s : State} {stock n : Nat} {b : BackId} (h : findBack s stock n = some b) :
    filmTest s stock = true := by
  have := findBack_takes h
  rw [Back.takesBracket, Bool.and_eq_true] at this
  exact filmTest_iff.2 ⟨b, this.1⟩

/-- The tray position of a number is the first that holds it. -/
theorem trayPos?_eq_some {s : State} {x p : Nat} (h : trayPos? s x = some p) : p < 80 ∧ s.mapAt p = some x := by
  obtain ⟨hp, heq, -⟩ := List.findIdx?_eq_some_iff_getElem.1 h
  rw [Vector.length_toList] at hp
  refine ⟨hp, mapAt_eq_some_iff.2 ?_⟩
  rw [Vector.getElem?_eq_getElem hp]
  simpa using heq

theorem trayPos?_isSome_iff {s : State} {x : Nat} : (trayPos? s x).isSome = true ↔ ∃ p < 80, s.mapAt p = some x := by
  rw [← map_contains_iff, trayPos?, List.findIdx?_isSome, List.contains_eq_any_beq]
  have : (fun e : Option Nat => some x == e) = fun e => decide (e = some x) := by
    funext e
    rw [Bool.eq_iff_iff, beq_iff_eq, decide_eq_true_eq]
    exact eq_comm
  rw [this]

theorem trayPos?_eq_none_iff {s : State} {x : Nat} : trayPos? s x = none ↔ ∀ p < 80, s.mapAt p ≠ some x := by
  rw [← Option.not_isSome_iff_eq_none, trayPos?_isSome_iff]
  simp

/-! ## Candidates -/

/-- Of the orders that meet a test, the one of highest class, the first in the list among equals (R11, R14). -/
theorem highestOf_filter {test : Order → Bool} {l : List Order} {c : Order} (h : highestOf (l.filter test) = some c) :
    test c = true ∧ (∀ o ∈ l, test o = true → o.cls ≤ c.cls)
      ∧ ∃ older younger, l = older ++ c :: younger ∧ ∀ o ∈ older, test o = true → o.cls < c.cls := by
  induction l generalizing c with
  | nil => cases h
  | cons o l ih =>
    by_cases ho : test o = true
    · rw [List.filter_cons_of_pos ho, highestOf] at h
      have first : ∀ (hl : ∀ p ∈ l, test p = true → p.cls ≤ o.cls), o = c → test c = true
          ∧ (∀ p ∈ o :: l, test p = true → p.cls ≤ c.cls)
          ∧ ∃ older younger, o :: l = older ++ c :: younger ∧ ∀ p ∈ older, test p = true → p.cls < c.cls := by
        rintro hl rfl
        refine ⟨ho, fun p hp ht => ?_, [], l, rfl, nofun⟩
        rcases List.mem_cons.1 hp with rfl | hp
        · exact le_refl _
        · exact hl p hp ht
      cases hp : highestOf (l.filter test) with
      | none =>
        rw [hp] at h
        refine first (fun p hpm ht => ?_) (Option.some.inj h)
        have hmem := List.mem_filter.2 ⟨hpm, ht⟩
        cases hf : l.filter test with
        | nil => rw [hf] at hmem; cases hmem
        | cons q qs =>
          rw [hf, highestOf] at hp
          split at hp
          · split at hp <;> cases hp
          · cases hp
      | some q =>
        rw [hp] at h
        simp only at h
        obtain ⟨hq, hmax, older, younger, hl, holder⟩ := ih hp
        split at h
        · rename_i hlt
          cases h
          refine ⟨hq, fun p hpm ht => ?_, o :: older, younger, by rw [hl]; rfl, fun p hpm ht => ?_⟩
          · rcases List.mem_cons.1 hpm with rfl | hpm
            · exact hlt.le
            · exact hmax p hpm ht
          · rcases List.mem_cons.1 hpm with rfl | hpm
            · exact hlt
            · exact holder p hpm ht
        · rename_i hle
          exact first (fun p hpm ht => (hmax p hpm ht).trans (not_lt.1 hle)) (Option.some.inj h)
    · rw [List.filter_cons_of_neg ho] at h
      obtain ⟨hc, hmax, older, younger, hl, holder⟩ := ih h
      refine ⟨hc, fun p hpm ht => ?_, o :: older, younger, by rw [hl]; rfl, fun p hpm ht => ?_⟩
      · rcases List.mem_cons.1 hpm with rfl | hpm
        · exact absurd ht ho
        · exact hmax p hpm ht
      · rcases List.mem_cons.1 hpm with rfl | hpm
        · exact absurd ht ho
        · exact holder p hpm ht

theorem highestOf_eq_none_iff {l : List Order} : highestOf l = none ↔ l = [] := by
  cases l with
  | nil => exact ⟨fun _ => rfl, fun _ => rfl⟩
  | cons o l =>
    refine ⟨fun h => ?_, nofun⟩
    rw [highestOf] at h
    split at h
    · split at h <;> cases h
    · cases h

theorem highestOf_filter_eq_none_iff {test : Order → Bool} {l : List Order} :
    highestOf (l.filter test) = none ↔ ∀ o ∈ l, ¬test o = true := by
  rw [highestOf_eq_none_iff, List.filter_eq_nil_iff]

/-! ## The push -/

/-- Above the current priority: above the floor and, where there is one, above the top of the stack (R8). -/
theorem currentPriority_lt_iff {s : State} {k : Nat} :
    currentPriority s < k ↔ s.work.floor < k ∧ ∀ top, s.work.stack.head?.bind s.order? = some top → top.cls < k := by
  rw [currentPriority, topClass, max_lt_iff]
  refine and_congr_right fun hf => ?_
  cases s.work.stack.head?.bind s.order? with
  | none => simpa using Nat.zero_lt_of_lt hf
  | some top => simp

theorem preempt_stack (n : Nat) (s : State) : (preempt n s).work.stack = s.work.stack := by
  unfold preempt
  split
  · rfl
  · split
    · rfl
    · exact setOrderState_stack _ _ _ s

theorem push_stack (n : Nat) (s : State) : (push n s).work.stack = n :: s.work.stack := by
  unfold push
  simp only
  split
  · rw [setOrderState_stack, onWork_work]
  · rw [preempt_stack, setOrderState_stack, onWork_work]

theorem push_of_empty {n : Nat} {s : State} (h : s.work.stack = []) :
    push n s = setOrderState n .active none (s.onWork fun w => { w with stack := n :: w.stack }) := by
  simp [push, h]

/-- The former top of the stack is preempted on the state with the pushed order ACTIVE. -/
theorem push_of_top {n top : Nat} {s : State} (h : s.work.stack.head? = some top) :
    push n s = preempt top (setOrderState n .active none (s.onWork fun w => { w with stack := n :: w.stack })) := by
  unfold push
  cases hst : s.work.stack with
  | nil => rw [hst] at h; cases h
  | cons t rest =>
    rw [hst] at h
    cases h
    rfl

theorem pushCandidate_eq_push {s : State} {c : Order} (hc : candidate s = some c) (h : currentPriority s < c.cls)
    (hl : s.work.stack.length < 4) : pushCandidate s = push c.number s := by
  simp only [pushCandidate, hc]
  exact if_pos ⟨h, hl⟩

/-- Settles O21: the back of a bracket, the tests of the top's next slide in their order, and the push. -/
theorem pushAndTopSlideTests : Obligations.PushAndTopSlideTests := by
  refine ⟨fun s stock n takes b htakes hn => ?_, fun s o x hx => ?_, fun s => ⟨fun c hc => ?_, ?_, fun c hc hfl htop hlen => ?_,
    fun c hc hno => ?_⟩⟩
  · have htakes : ∀ b, takes b ↔ (s.back b).takesBracket stock n = true := fun b => by
      simp only [htakes, takesBracket_iff, remaining_pos_iff hn]
    rw [findBack_eq_some_iff, htakes, htakes]
  · have hpos : ((nextCat o).bind (trayPos? s)).isNone = true ↔ ∀ p < 80, s.mapAt p ≠ some x := by
      rw [hx, Option.isNone_iff_eq_none]
      exact trayPos?_eq_none_iff
    have hheld : (∃ p < 80, s.mapAt p = some x) → ¬((nextCat o).bind (trayPos? s)).isNone = true :=
      fun ⟨p, hp, hm⟩ h => hpos.1 h p hp hm
    refine ⟨fun h => if_pos (hpos.2 h), fun h hb => ?_, fun b h hb => ?_, fun b h hno hfill hclose => ?_,
      fun p b h hno hfilm hfill hp hb => ?_⟩
    · have : (!filmTest s o.stock) = true := by
        rw [Bool.not_eq_true', ← Bool.not_eq_true, filmTest_iff]
        exact fun ⟨b, hready⟩ => hb b (readyFor_iff.1 hready)
      rw [testTop, if_neg (hheld h), if_pos this]
    · have hfilm : ¬(!filmTest s o.stock) = true := by simp [filmTest_of_findBack hb]
      constructor
      · intro k hk
        rw [testTop, if_neg (hheld h), if_neg hfilm]
        simp only [hb, hk]
      · intro hk
        rw [testTop, if_neg (hheld h), if_neg hfilm]
        simp only [hb, hk]
    · have hfilm : filmTest s o.stock = true := by
        rw [filmTest, Bool.or_eq_true]
        unfold backToClose at hclose
        split at hclose
        · rename_i hA; exact .inl hA
        · split at hclose
          · rename_i hB; exact .inr hB
          · cases hclose
      rw [testTop, if_neg (hheld h), if_neg (by simp [hfilm])]
      simp [hno, fitFails, hfill, hclose]
    · rw [testTop, if_neg (hheld h), if_neg (by simp [hfilm])]
      simp [hno, fitFails, hfill, hp, hb]
  · obtain ⟨htest, hmax, older, younger, hl, holder⟩ := highestOf_filter hc
    exact ⟨by simpa using htest, fun o ho hp => hmax o ho (by simpa using hp), older, younger, hl,
      fun o ho hp => holder o ho (by simpa using hp)⟩
  · exact highestOf_filter_eq_none_iff.trans (by simp)
  · have hpush := pushCandidate_eq_push hc (currentPriority_lt_iff.2 ⟨hfl, htop⟩) hlen
    refine ⟨by rw [hpush, push_stack], fun t ht => ⟨fun he => ?_, fun top o htop ho hne => ?_⟩⟩
    · rw [hpush, push_of_empty he, ht]
      rfl
    · have hpush : pushCandidate s = preempt top t := by rw [hpush, push_of_top htop, ht]; rfl
      have hto : t.order? top = some o := by
        rw [ht, order?_setOrderState, if_neg hne]
        exact ho
      constructor
      · intro hf
        rw [hpush, preempt, hto]
        exact if_neg hf
      · intro hf
        rw [hpush, preempt, hto]
        exact if_pos hf
  · have : ¬(currentPriority s < c.cls ∧ s.work.stack.length < Config.maxStack) := by
      rintro ⟨hlt, hlen⟩
      obtain ⟨hfl, htop⟩ := currentPriority_lt_iff.1 hlt
      rcases hno with h | ⟨top, hb, hle⟩ | h
      · exact absurd hfl (not_lt.2 h)
      · exact absurd (htop top hb) (not_lt.2 hle)
      · exact absurd hlen (not_lt.2 h)
    simp only [pushCandidate, hc]
    exact if_neg this

end Sys2Proof.Machine
end

section
/-! SUPPORT. The choice of R11 step by step, and why it ends: each repetition puts an order out of play for good or makes a READY back
FULL. -/

namespace Sys2Proof.Machine

/-! ## One repetition -/

theorem popDone_of_empty {n : Nat} {s : State} (h : s.work.stack = []) : popDone n s = s := by
  cases n with
  | zero => rfl
  | succ n => simp [popDone, h]

theorem popDone_of_top {n top : Nat} {rest : List Nat} {s : State} {o : Order} (h : s.work.stack = top :: rest)
    (ho : s.order? top = some o) :
    popDone (n + 1) s
      = if nextSlide o = none then popDone n (removeFromStack top (setOrderState top .exposed none s)) else s := by
  simp [popDone, h, ho]

theorem popDone_of_due {n top : Nat} {rest : List Nat} {s : State} {o : Order} (h : s.work.stack = top :: rest)
    (ho : s.order? top = some o) (hdue : nextSlide o ≠ none) : popDone n s = s := by
  cases n with
  | zero => rfl
  | succ n => rw [popDone_of_top h ho, if_neg hdue]

/-- The state on which the top's next slide is tested: what is done is popped, and the candidate pushed. -/
def tested (s : State) : State := pushCandidate (popDone s.work.stack.length s)

/-- What the choice does once the top of the stack has been tested. -/
def afterTest (n : Nat) (s : State) (o : Order) : TopTest → State
  | .hold reason => choiceLoop n (holdWith o.number reason s)
  | .start o b => startSlide o b s
  | .fill c b => startSlide c b (setOrderState c.number .filling (some (formerOf c)) s)
  | .close b => choiceLoop n (makeFull b s)
  | .stuck => s

theorem choiceLoop_none {n : Nat} {s : State} (h : (tested s).work.stack.head?.bind (tested s).order? = none) :
    choiceLoop (n + 1) s = tested s := by
  unfold tested at *
  simp only [choiceLoop, h]

theorem choiceLoop_top {n : Nat} {s : State} {o : Order} (h : (tested s).work.stack.head?.bind (tested s).order? = some o) :
    choiceLoop (n + 1) s = afterTest n (tested s) o (testTop (tested s) o) := by
  unfold tested at *
  simp only [choiceLoop, h]
  cases testTop (pushCandidate (popDone s.work.stack.length s)) o <;> rfl

/-- A back is closed only where it is READY with a roll of the stock. -/
theorem backToClose_readyFor {s : State} {stock : Nat} {b : BackId} (h : backToClose s stock = some b) :
    (s.back b).readyFor stock = true := by
  unfold backToClose at h
  split at h
  · rename_i hA
    split at h
    · rename_i hB
      cases h
      exact hB.1
    · cases h
      exact hA
  · split at h
    · rename_i hB
      cases h
      exact hB
    · cases h

/-- What each outcome of the test of the top says of the state. -/
theorem testTop_cases (s : State) (o : Order) :
    (∃ r, testTop s o = .hold r) ∨ testTop s o = .stuck ∨ (∃ b, testTop s o = .close b ∧ (s.back b).state = .ready)
      ∨ (∃ b, testTop s o = .start o b ∧ ((nextCat o).bind (trayPos? s)).isSome = true ∧ findBack s o.stock o.n = some b
          ∧ ceilingCheck s o.account o.stock o.cls o.n = none)
      ∨ ∃ c b, testTop s o = .fill c b ∧ fillCandidate s o.stock = some c ∧ findBack s c.stock c.n = some b := by
  unfold testTop
  split
  · exact .inl ⟨_, rfl⟩
  · rename_i hpos
    split
    · exact .inl ⟨_, rfl⟩
    · split
      · unfold fitFails
        split
        · rename_i c hc
          have hc : fillCandidate s o.stock = some c := by
            split at hc
            · exact hc
            · cases hc
          split
          · rename_i b hb
            exact .inr (.inr (.inr (.inr ⟨c, b, rfl, hc, hb⟩)))
          · exact .inr (.inl rfl)
        · split
          · rename_i b hb
            exact .inr (.inr (.inl ⟨b, rfl, (readyFor_iff.1 (backToClose_readyFor hb)).1⟩))
          · exact .inr (.inl rfl)
      · rename_i b hb
        split
        · exact .inl ⟨_, rfl⟩
        · rename_i hk
          refine .inr (.inr (.inr (.inl ⟨b, rfl, ?_, hb, hk⟩)))
          exact Option.isSome_iff_ne_none.2 fun h => hpos (Option.isNone_iff_eq_none.2 h)

/-! ## The end of the choice -/

/-- No order becomes PENDING, none joins or leaves the list, no number joins the stack, and the blocks but the work list and the
link are as they were. -/
structure Calmer (s t : State) : Prop where
  orders : ∃ f : Order → Order, t.work.orders = s.work.orders.map f
    ∧ ∀ o, (f o).number = o.number ∧ ((f o).state = .pending → o.state = .pending)
  stack : ∀ k ∈ t.work.stack, k ∈ s.work.stack
  same : SameBut s t

theorem Calmer.refl (s : State) : Calmer s s := ⟨⟨id, by simp, fun _ => ⟨rfl, id⟩⟩, fun _ => id, .refl s⟩

theorem Calmer.trans {a b c : State} (h : Calmer a b) (k : Calmer b c) : Calmer a c := by
  obtain ⟨⟨f, hf, hpf⟩, hs, hb⟩ := h
  obtain ⟨⟨g, hg, hpg⟩, hs', hb'⟩ := k
  exact ⟨⟨g ∘ f, by rw [hg, hf, List.map_map], fun o => ⟨(hpg _).1.trans (hpf o).1, fun h => (hpf o).2 ((hpg _).2 h)⟩⟩,
    fun k hk => hs k (hs' k hk), hb.trans hb'⟩

theorem calmer_onOrder (n : Nat) (f : Order → Order) (s : State)
    (hf : ∀ o, (f o).number = o.number ∧ ((f o).state = .pending → o.state = .pending)) : Calmer s (s.onOrder n f) := by
  refine ⟨⟨_, rfl, fun o => ?_⟩, fun _ => id, sameBut_onWork _ s⟩
  split
  · exact hf o
  · exact ⟨rfl, id⟩

theorem calmer_setOrderState (n : Nat) {st : OrderState} (former : Option FormerState) (s : State) (hst : st ≠ .pending) :
    Calmer s (setOrderState n st former s) := by
  refine ⟨⟨_, setOrderState_orders n st former s, fun o => ?_⟩, fun k hk => ?_, sameBut_setOrderState n st former s⟩
  · split
    · exact ⟨rfl, fun h => absurd h hst⟩
    · exact ⟨rfl, id⟩
  · rwa [setOrderState_stack] at hk

theorem calmer_removeFromStack (n : Nat) (s : State) : Calmer s (removeFromStack n s) := by
  have hpromote : ∀ t : State, Calmer t (promoteTop t) := fun t => by
    unfold promoteTop
    split
    · exact .refl t
    · split
      · exact .refl t
      · split
        · exact calmer_onOrder _ _ t (by exact fun _ => ⟨rfl, id⟩)
        · exact calmer_setOrderState _ _ t nofun
  unfold removeFromStack
  split
  · refine Calmer.trans ?_ (hpromote _)
    exact ⟨⟨id, by simp, fun _ => ⟨rfl, id⟩⟩, fun k hk => List.mem_of_mem_filter hk, sameBut_onWork _ s⟩
  · exact .refl s

theorem calmer_holdWith (n : Nat) (r : HoldReason) (s : State) : Calmer s (holdWith n r s) :=
  (calmer_setOrderState n (st := .held r) none s nofun).trans (calmer_removeFromStack n _)

theorem calmer_popDone (n : Nat) (s : State) : Calmer s (popDone n s) := by
  induction n generalizing s with
  | zero => exact .refl s
  | succ n ih =>
    unfold popDone
    split
    · exact .refl s
    · split
      · exact .refl s
      · split
        · exact ((calmer_setOrderState _ (st := .exposed) none s nofun).trans (calmer_removeFromStack _ _)).trans (ih _)
        · exact .refl s

/-- The numbers the choice may still bring to the top: of orders in the stack or PENDING. -/
def playing (s : State) : Finset Nat :=
  ((s.work.orders.filter fun o => decide (o.number ∈ s.work.stack ∨ o.state = .pending)).map fun o => o.number).toFinset

theorem mem_playing {s : State} {k : Nat} :
    k ∈ playing s ↔ ∃ o ∈ s.work.orders, (o.number ∈ s.work.stack ∨ o.state = .pending) ∧ o.number = k := by
  simp [playing, and_assoc]

theorem playing_card_le (s : State) : (playing s).card ≤ s.work.orders.length :=
  (List.toFinset_card_le _).trans ((List.length_map _).le.trans (List.length_filter_le _ _))

theorem Calmer.playing_subset {s t : State} (h : Calmer s t) : playing t ⊆ playing s := by
  intro k hk
  obtain ⟨⟨f, hf, hpf⟩, hs, -⟩ := h
  obtain ⟨o', ho', hin, hn⟩ := mem_playing.1 hk
  rw [hf] at ho'
  obtain ⟨o, ho, rfl⟩ := List.mem_map.1 ho'
  rw [(hpf o).1] at hin hn
  exact mem_playing.2 ⟨o, ho, hin.imp (hs _) (hpf o).2, hn⟩

/-- A push brings into the stack a number that was in play as that of a PENDING order. -/
theorem pushCandidate_playing (s : State) : playing (pushCandidate s) ⊆ playing s ∧ SameBut s (pushCandidate s) := by
  unfold pushCandidate
  split
  · exact ⟨fun _ => id, .refl s⟩
  · rename_i c hc
    obtain ⟨hmem, hpend⟩ := candidate_mem hc
    split
    · have h1 : Calmer (s.onWork fun w => { w with stack := c.number :: w.stack }) (push c.number s) := by
        have hset := calmer_setOrderState c.number none (s.onWork fun w => { w with stack := c.number :: w.stack })
          (st := .active) nofun
        unfold push
        simp only
        split
        · exact hset
        · refine hset.trans ?_
          unfold preempt
          split
          · exact .refl _
          · split
            · exact calmer_onOrder _ _ _ (by exact fun _ => ⟨rfl, id⟩)
            · exact calmer_setOrderState _ _ _ nofun
      refine ⟨fun k hk => ?_, (sameBut_onWork _ s).trans h1.same⟩
      obtain ⟨o, ho, hin, hn⟩ := mem_playing.1 (h1.playing_subset hk)
      rw [onWork_work] at ho hin
      by_cases hnum : o.number = c.number
      · exact mem_playing.2 ⟨c, hmem, .inr hpend, hnum.symm.trans hn⟩
      · exact mem_playing.2 ⟨o, ho, hin.imp_left fun h => (List.mem_cons.1 h).resolve_left hnum, hn⟩
    · exact ⟨fun _ => id, .refl s⟩

theorem tested_playing (s : State) : playing (tested s) ⊆ playing s ∧ SameBut s (tested s) := by
  have h := calmer_popDone s.work.stack.length s
  obtain ⟨hsub, hsame⟩ := pushCandidate_playing (popDone s.work.stack.length s)
  exact ⟨hsub.trans h.playing_subset, h.same.trans hsame⟩

/-- An order that is held is out of play. -/
theorem holdWith_not_playing (n : Nat) (r : HoldReason) (s : State) : n ∉ playing (holdWith n r s) := by
  intro h
  obtain ⟨o', ho', hin, hn⟩ := mem_playing.1 h
  have hout : n ∉ (holdWith n r s).work.stack := removeFromStack_out n _
  have hpend : o'.state = .pending := hin.resolve_left fun h => hout (hn ▸ h)
  obtain ⟨⟨f, hf, hpf⟩, -, -⟩ := calmer_removeFromStack n (setOrderState n (.held r) none s)
  rw [holdWith, hf, setOrderState_orders, List.map_map] at ho'
  obtain ⟨o, -, rfl⟩ := List.mem_map.1 ho'
  have hnum : o.number = n := by
    rw [Function.comp_apply, (hpf _).1] at hn
    split at hn <;> exact hn
  have := (hpf _).2 hpend
  simp [hnum, Order.give] at this

/-- The READY backs. -/
def readyBacks (s : State) : Finset BackId := ({.backA, .backB} : Finset BackId).filter fun b => (s.back b).state = .ready

theorem mem_readyBacks {s : State} {b : BackId} : b ∈ readyBacks s ↔ (s.back b).state = .ready := by
  cases b <;> simp [readyBacks]

theorem readyBacks_card_le (s : State) : (readyBacks s).card ≤ 2 := Finset.card_filter_le _ _

theorem SameBut.readyBacks_eq {s t : State} (h : SameBut s t) : readyBacks t = readyBacks s := by rw [h]; rfl

/-- A READY back that is made FULL leaves the READY backs. -/
theorem makeFull_readyBacks {b : BackId} {s : State} (h : (s.back b).state = .ready) : readyBacks (makeFull b s) ⊂ readyBacks s := by
  have hback : ∀ c, ((makeFull b s).back c).state = if c = b then .full else (s.back c).state := by
    intro c
    rw [makeFull, if_pos h, setBackState]
    split
    · rename_i hb; rw [h] at hb; cases hb
    · rw [queueNotice_back]
      split
      · rename_i hc; rw [hc, onBack_same]
      · rename_i hc; rw [onBack_other b c _ s hc]
  refine (Finset.ssubset_iff_of_subset fun c hc => ?_).2 ⟨b, mem_readyBacks.2 h, fun hb => ?_⟩
  · rw [mem_readyBacks, hback] at hc
    split at hc
    · cases hc
    · exact mem_readyBacks.2 hc
  · rw [mem_readyBacks, hback, if_pos rfl] at hb
    cases hb

/-- How many repetitions the choice may still have: each takes a number out of play or a back from the READY ones. -/
def repetitions (s : State) : Nat := (playing s).card + (readyBacks s).card

theorem repetitions_tested (s : State) : repetitions (tested s) ≤ repetitions s := by
  obtain ⟨hsub, hsame⟩ := tested_playing s
  unfold repetitions
  rw [hsame.readyBacks_eq]
  exact Nat.add_le_add_right (Finset.card_le_card hsub) _

theorem repetitions_hold {s : State} {o : Order} (r : HoldReason) (h : s.work.stack.head?.bind s.order? = some o) :
    repetitions (holdWith o.number r s) < repetitions s := by
  obtain ⟨top, htop, ho⟩ := Option.bind_eq_some_iff.1 h
  have hcalm := calmer_holdWith o.number r s
  unfold repetitions
  rw [hcalm.same.readyBacks_eq]
  refine Nat.add_lt_add_right (Finset.card_lt_card ?_) _
  refine (Finset.ssubset_iff_of_subset hcalm.playing_subset).2 ⟨o.number, ?_, holdWith_not_playing o.number r s⟩
  exact mem_playing.2 ⟨o, order?_mem ho, .inl (order?_number ho ▸ List.mem_of_mem_head? htop), rfl⟩

theorem repetitions_close {s : State} {b : BackId} (h : (s.back b).state = .ready) :
    repetitions (makeFull b s) < repetitions s := by
  have hwork : playing (makeFull b s) = playing s := by unfold playing; rw [makeFull_work]
  unfold repetitions
  rw [hwork]
  exact Nat.add_lt_add_left (Finset.card_lt_card (makeFull_readyBacks h)) _

/-- With room for more repetitions than the choice may have, further room changes nothing. -/
theorem choiceLoop_enough (n : Nat) (s : State) (h : repetitions s < n) : choiceLoop (n + 1) s = choiceLoop n s := by
  induction n generalizing s with
  | zero => cases h
  | succ n ih =>
    have hle := repetitions_tested s
    cases htop : (tested s).work.stack.head?.bind (tested s).order? with
    | none => rw [choiceLoop_none htop, choiceLoop_none htop]
    | some o =>
      rw [choiceLoop_top htop, choiceLoop_top htop]
      rcases testTop_cases (tested s) o with ⟨r, ht⟩ | ht | ⟨b, ht, hb⟩ | ⟨b, ht, -⟩ | ⟨c, b, ht, -⟩ <;> rw [ht]
      · have := repetitions_hold r htop
        exact ih _ (by omega)
      · rfl
      · have := repetitions_close hb
        exact ih _ (by omega)
      · rfl
      · rfl

/-! ## Fill and close -/

theorem fillEligible_iff {s : State} {stock : Nat} {o : Order} :
    fillEligible s stock o = true ↔
      o.stock = stock ∧ (o.state = .pending ∨ o.state = .preempted) ∧ s.work.floor < o.cls
        ∧ (∃ x p, nextCat o = some x ∧ p < 80 ∧ s.mapAt p = some x) ∧ findBack s o.stock o.n ≠ none
        ∧ ceilingCheck s o.account o.stock o.cls o.n = none := by
  have hpos : ((nextCat o).bind (trayPos? s)).isSome = true ↔ ∃ x p, nextCat o = some x ∧ p < 80 ∧ s.mapAt p = some x := by
    cases nextCat o with
    | none => simp
    | some x => simpa using trayPos?_isSome_iff
  simp only [fillEligible, Bool.and_eq_true, Bool.or_eq_true, decide_eq_true_eq, beq_iff_eq, hpos, Option.isSome_iff_ne_none,
    Option.isNone_iff_eq_none, and_assoc]

/-- Settles O22: the choice step by step, its end, the fill candidate and the back it closes. -/
theorem choiceRepeatsFillsAndCloses : Obligations.ChoiceRepeatsFillsAndCloses := by
  refine ⟨fun n s top rest o hst ho => ⟨popDone_of_due hst ho, fun hdone => ?_⟩, fun n s => popDone_of_empty,
    fun number s t ht => ⟨fun hout => ?_, fun hin he => ?_, fun top o hin htop ho => ?_⟩,
    fun n s t ht => ⟨fun he => ?_, fun top o htop ho => ?_⟩, fun s n hn => ?_,
    fun s o x b hx hheld hfind hfilm hfill hclose => ?_, fun s stock eligible helig => ?_,
    fun s stock holds remaining hholds hrem => ?_, fun s b => ⟨fun h => ?_, fun h => ?_⟩⟩
  · rw [popDone_of_top hst ho, if_pos hdone]
  · rw [removeFromStack, if_neg (by simpa using hout)]
  · have hpromote : removeFromStack number s = promoteTop t := by
      rw [removeFromStack, if_pos (by simpa using hin), ht]
      rfl
    simp only [hpromote, promoteTop, he]
  · have hpromote : removeFromStack number s = promoteTop t := by
      rw [removeFromStack, if_pos (by simpa using hin), ht]
      rfl
    obtain ⟨rest, hst⟩ : ∃ rest, t.work.stack = top :: rest := by
      cases hst : t.work.stack with
      | nil => rw [hst] at htop; cases htop
      | cons k rest => rw [hst] at htop; cases htop; exact ⟨rest, rfl⟩
    constructor
    · intro hf
      simp only [hpromote, promoteTop, hst, ho, if_neg hf]
    · intro hf
      simp only [hpromote, promoteTop, hst, ho, if_pos hf]
  · have ht : t = tested s := ht
    subst ht
    exact choiceLoop_none (by simp [he])
  · have ht : t = tested s := ht
    subst ht
    have hstep := choiceLoop_top (n := n) (s := s) (o := o) (by simp [htop, ho])
    refine ⟨fun r h => ?_, fun p b h => ?_, fun p b h => ?_, fun b h hready => ?_⟩ <;> rw [hstep, h]
    · rfl
    · rfl
    · rfl
    · rw [afterTest, makeFull, if_pos hready]
  · have h1 := playing_card_le s
    have h2 := readyBacks_card_le s
    exact choiceLoop_enough n s (by unfold repetitions; omega)
  · have hpos : ¬((nextCat o).bind (trayPos? s)).isNone = true := by
      rw [hx, Option.isNone_iff_eq_none]
      exact fun h => absurd (trayPos?_eq_none_iff.1 h) (by simpa using hheld)
    rw [testTop, if_neg hpos, if_neg (by simp [hfilm])]
    simp only [hfind, fitFails, hfill, ite_self, hclose]
  · have helig : ∀ o, eligible o ↔ fillEligible s stock o = true := fun o => (helig o).trans fillEligible_iff.symm
    simp only [helig]
    exact ⟨fun c hc => highestOf_filter hc, highestOf_filter_eq_none_iff⟩
  · have hholds : ∀ b, holds b ↔ (s.back b).readyFor stock = true := fun b => (hholds b).trans readyFor_iff.symm
    have hrem : ∀ b, (s.back b).readyFor stock = true → remaining b = (s.back b).remaining := fun b hb => by
      obtain ⟨-, r, hr, -⟩ := readyFor_iff.1 hb
      rw [hrem b r hr, Back.remaining, hr]
      simp only [Roll.remaining]
      cases r.endMark <;> simp
    rw [hholds, hholds, filmTest, Bool.or_eq_true]
    have hA : (s.back .backA).readyFor stock = true → remaining .backA = s.film.backA.remaining := hrem .backA
    have hB : (s.back .backB).readyFor stock = true → remaining .backB = s.film.backB.remaining := hrem .backB
    change _ ∧ _ ∧ (s.film.backA.readyFor stock = true ∨ s.film.backB.readyFor stock = true ↔ _)
    change (s.film.backA.readyFor stock = true → _) at hA
    change (s.film.backB.readyFor stock = true → _) at hB
    change (_ ↔ s.film.backA.readyFor stock = true ∧ (s.film.backB.readyFor stock = true → _)) ∧
      (_ ↔ s.film.backB.readyFor stock = true ∧ (s.film.backA.readyFor stock = true → _)) ∧ _
    refine ⟨?_, ?_, Iff.rfl⟩
    · unfold backToClose
      by_cases h1 : s.film.backA.readyFor stock = true
      · by_cases h2 : s.film.backB.readyFor stock = true
        · simp [h1, h2, hA h1, hB h2]
        · simp [h1, h2]
      · simp [h1]
    · unfold backToClose
      by_cases h1 : s.film.backA.readyFor stock = true
      · by_cases h2 : s.film.backB.readyFor stock = true
        · simp [h1, h2, hA h1, hB h2]
        · simp [h1, h2]
      · simp [h1]
  · unfold cameraBack
    rcases h with h | h <;> rw [h]
  · unfold cameraBack
    rw [h]

end Sys2Proof.Machine
end

section
/-! SUPPORT. The end of a cycle: what it leaves of the state, its notices and its order; the start of a slide; the plan (R16 to R18, R118,
R119, R122, R126). -/

namespace Sys2Proof.Machine

/-! ## What the work list's report leaves -/

/-- What a cancel and the report of a cycle's end leave: everything but the work list, the link, the rolls and the labels. -/
def SameStand (s t : State) : Prop :=
  t = { s with work := t.work, link := t.link, film := t.film, register := t.register, labels := t.labels }

theorem SameStand.trans {a b c : State} (h : SameStand a b) (k : SameStand b c) : SameStand a c := by
  unfold SameStand at h k ⊢
  rw [k, h]

theorem SameBut.sameStand {s t : State} (h : SameBut s t) : SameStand s t := by
  unfold SameStand
  conv_lhs => rw [h]
  rw [h]

theorem SameStand.refl (s : State) : SameStand s s := rfl

theorem SameStand.stand {s t : State} (h : SameStand s t) : t.stand = s.stand := by rw [h]
theorem SameStand.head {s t : State} (h : SameStand s t) : t.head = s.head := by rw [h]
theorem SameStand.feeder {s t : State} (h : SameStand s t) : t.feeder = s.feeder := by rw [h]

theorem sameStand_closeTest (k : Nat) (s : State) : SameStand s (closeTest k s) := by
  unfold closeTest
  split
  · exact .refl s
  · split
    · split
      · unfold closeRoll
        split
        · exact .refl s
        · rfl
      · exact .refl s
    · exact .refl s

theorem sameStand_cancelEffect (n : Nat) (s : State) : SameStand s (cancelEffect n s) := by
  have htests : ∀ (ks : List Nat) (u : State), SameStand u (ks.foldl (fun s k => closeTest k s) u) := by
    intro ks
    induction ks with
    | nil => exact fun u => .refl u
    | cons k ks ih => exact fun u => (sameStand_closeTest k u).trans (ih _)
  have hrolls : SameStand s (mapRolls (fun r => r.cancelOrder n) s) := rfl
  have hout : SameBut (mapRolls (fun r => r.cancelOrder n) s)
      (queueNotice (.orderCancelled n) (freeOrder n (removeFromStack n (mapRolls (fun r => r.cancelOrder n) s)))) :=
    ((sameBut_removeFromStack _ _).trans (sameBut_onWork _ _)).trans (sameBut_queueNotice _ _)
  rw [cancelEffect_eq]
  exact (hrolls.trans hout.sameStand).trans (htests _ _)

theorem sameBut_onOrder (n : Nat) (f : Order → Order) (s : State) : SameBut s (s.onOrder n f) := sameBut_onWork _ s

theorem sameBut_returnFilling (o : Order) (s : State) : SameBut s (returnFilling o s) := by
  unfold returnFilling
  split <;> exact sameBut_setOrderState _ _ _ s

theorem sameStand_takeMarks (n : Nat) (s : State) : SameStand s (takeMarks n s) := by
  unfold takeMarks
  split
  · exact .refl s
  · split
    · exact sameStand_cancelEffect n s
    · split
      · exact ((sameBut_onOrder n _ s).trans (sameBut_holdWith n _ _)).sameStand
      · split
        · exact (sameBut_returnFilling _ s).sameStand
        · exact .refl s

theorem sameStand_takeReport (c : Cycle) (complete : Bool) (s : State) : SameStand s (takeReport c complete s) := by
  unfold takeReport
  split
  · exact (sameBut_onOrder _ _ s).sameStand.trans (sameStand_takeMarks _ _)
  · exact sameStand_takeMarks _ s

/-! ## Notices -/

theorem queueNotice_notices {n : Notice} {s : State} (h : s.link.notices.length < 16) :
    (queueNotice n s).link.notices = s.link.notices ++ [n] := by
  simp only [queueNotice, onLink_link]
  rw [if_pos (by exact h)]

/-- A chain of elementary changes only adds to the queue of notices. -/
theorem Moves.notices {s t : State} (h : Moves s t) : s.link.notices <+: t.link.notices := by
  refine h.keeps (P := fun t => s.link.notices <+: t.link.notices) (fun a b hm hp => ?_) ⟨[], List.append_nil _⟩
  cases hm with
  | notice n =>
    refine hp.trans ?_
    simp only [queueNotice, onLink_link]
    split
    · exact ⟨[_], rfl⟩
    · exact ⟨[], List.append_nil _⟩
  | back b => cases b <;> exact hp
  | backRoll b => cases b <;> exact hp
  | frame b => cases b <;> exact hp
  | _ => exact hp

/-! ## The end of a cycle -/

/-- The state on which the work list takes the report of a cycle's end. -/
def released (c : Cycle) (s : State) : State :=
  freePosition c ((queueNotice (slideFinishedNotice s c) s).onStand fun t => { t with cycle := none })

/-- The group of a cycle is COMPLETE. -/
def groupComplete (s : State) (c : Cycle) : Bool :=
  match cycleGroup s c with
  | some g => decide (g.completeness = .complete)
  | none => false

theorem groupComplete_iff {s : State} {c : Cycle} :
    groupComplete s c = true ↔ ∃ g, cycleGroup s c = some g ∧ g.completeness = .complete := by
  unfold groupComplete
  cases cycleGroup s c <;> simp

theorem endCycle_eq {s : State} {c : Cycle} (hc : s.stand.cycle = some c) :
    endCycle s = standAfterCycle (takeReport c (groupComplete s c) (released c s)) := by
  simp only [endCycle, hc]
  rfl

/-- Freeing the position changes the feeder's busy positions alone. -/
theorem freePosition_eq (c : Cycle) (s : State) :
    ∃ busy, freePosition c s = { s with feeder := { s.feeder with feedBusy := busy } } := by
  unfold freePosition
  split
  · split
    · exact ⟨_, rfl⟩
    · exact ⟨_, rfl⟩
  · exact ⟨_, rfl⟩

theorem released_stand (c : Cycle) (s : State) : (released c s).stand = { s.stand with cycle := none } := by
  obtain ⟨busy, h⟩ := freePosition_eq c ((queueNotice (slideFinishedNotice s c) s).onStand fun t => { t with cycle := none })
  rw [released, h]
  rfl

theorem released_head (c : Cycle) (s : State) : (released c s).head = s.head := by
  obtain ⟨busy, h⟩ := freePosition_eq c ((queueNotice (slideFinishedNotice s c) s).onStand fun t => { t with cycle := none })
  rw [released, h]
  rfl

@[simp] theorem released_work (c : Cycle) (s : State) : (released c s).work = s.work := by
  rw [released, freePosition_work, onStand_work, queueNotice_work]

theorem report_stand (c : Cycle) (complete : Bool) (s : State) :
    (takeReport c complete (released c s)).stand = { s.stand with cycle := none } :=
  (sameStand_takeReport c complete _).stand.trans (released_stand c s)

theorem report_head (c : Cycle) (complete : Bool) (s : State) : (takeReport c complete (released c s)).head = s.head :=
  (sameStand_takeReport c complete _).head.trans (released_head c s)

/-- No cycle is in flight after the end of one. -/
theorem endCycle_cycle (s : State) : (endCycle s).stand.cycle = none := by
  cases hc : s.stand.cycle with
  | none => simp [endCycle, hc]
  | some c =>
    have hrep : (takeReport c (groupComplete s c) (released c s)).stand.cycle = none := by rw [report_stand]
    have hafter : ∀ t : State, (standAfterCycle t).stand.cycle = t.stand.cycle := fun t => by
      unfold standAfterCycle
      split <;> rfl
    rw [endCycle_eq hc, hafter, hrep]

theorem setStandMode_idle {m : StandMode} (hm : m ≠ .running) (s : State) :
    setStandMode m s = { s with stand := { s.stand with mode := m }, head := { s.head with idle := none } } := by
  simp only [setStandMode, if_neg hm]
  rfl

theorem lampOff_head (s : State) :
    (lampOff s).head = { s.head with lamp := if s.head.lamp = .warming ∨ s.head.lamp = .ready then .off else s.head.lamp } := by
  simp only [lampOff, onHead_head]
  split <;> rfl

/-! ## The marks of an order -/

/-- What a change of the slide makes of the order of the report. -/
def Order.shotAt (o : Order) (i : Nat) : Order :=
  { o with slides := o.slides.modify i fun x => { x with outcome := .shot, attempts := x.attempts + 1 } }

/-- The order of the report after its slide has taken its outcome. -/
theorem order?_reported {c : Cycle} {complete : Bool} {s : State} {o : Order} (ho : s.order? c.order = some o) :
    (if complete then
        onSlide c.order c.slide (fun x => { x with outcome := .shot, attempts := x.attempts + 1 }) s
      else s).order? c.order = some (if complete then o.shotAt c.slide else o) := by
  cases complete with
  | true =>
    simp only [if_true, onSlide]
    rw [order?_onOrder _ _ _ _ (by exact fun _ => rfl), if_pos rfl, ho]
    rfl
  | false => exact ho

/-- A pending hold takes effect: the order is HELD HOST with its mark cleared (R17). -/
theorem takeMarks_hold {n : Nat} {s : State} {o : Order} (ho : s.order? n = some o) (hc : o.cancelPending = false)
    (hh : o.holdPending = true) :
    n ∉ (takeMarks n s).work.stack
      ∧ ∃ p, (takeMarks n s).order? n = some p ∧ p.state = .held .host ∧ p.holdPending = false := by
  have heq : takeMarks n s = holdWith n .host (s.onOrder n fun o => { o with holdPending := false }) := by
    simp [takeMarks, ho, hc, hh]
  rw [heq]
  refine ⟨removeFromStack_out n _, ?_⟩
  rw [holdWith, order?_removeFromStack_self, order?_setOrderState, if_pos rfl, order?_onOrder _ _ _ _ (by exact fun _ => rfl),
    if_pos rfl, ho]
  exact ⟨_, rfl, rfl, rfl⟩

/-- Without a mark an order returns from FILLING to its former state, and is else as it was (R17). -/
theorem takeMarks_return {n : Nat} {s : State} {o : Order} (ho : s.order? n = some o) (hc : o.cancelPending = false)
    (hh : o.holdPending = false) :
    ∃ p, (takeMarks n s).order? n = some p ∧ p.slides = o.slides ∧ (o.state ≠ .filling → p.state = o.state)
      ∧ (o.state = .filling → o.former = some .preempted → p.state = .preempted)
      ∧ (o.state = .filling → o.former = some .active → p.state = .active)
      ∧ (o.state = .filling → o.former = some .pending → p.state = if (nextSlide p).isSome then .pending else .exposed) := by
  by_cases hf : o.state = .filling
  · have heq : takeMarks n s = returnFilling o s := by simp [takeMarks, ho, hc, hh, hf]
    have hn := order?_number ho
    have hset : ∀ st : OrderState, (setOrderState o.number st none s).order? n = some (o.give st none) := fun st => by
      rw [order?_setOrderState, if_pos hn.symm, hn, ho]
      rfl
    rw [heq, returnFilling]
    split
    · rename_i hformer
      refine ⟨_, hset _, rfl, fun h => absurd hf h, fun _ _ => rfl, fun _ h => ?_, fun _ h => ?_⟩ <;>
        · rw [hformer] at h; cases h
    · rename_i hformer
      refine ⟨_, hset _, rfl, fun h => absurd hf h, fun _ h => ?_, fun _ _ => rfl, fun _ h => ?_⟩ <;>
        · rw [hformer] at h; cases h
    · rename_i hnp hna
      exact ⟨_, hset _, rfl, fun h => absurd hf h, fun _ h => absurd h hnp, fun _ h => absurd h hna, fun _ _ => rfl⟩
  · have heq : takeMarks n s = s := by simp [takeMarks, ho, hc, hh, hf]
    rw [heq]
    exact ⟨o, ho, rfl, fun _ => rfl, fun h => absurd h hf, fun h => absurd h hf, fun h => absurd h hf⟩

@[simp] theorem standAfterCycle_order? (n : Nat) (s : State) : (standAfterCycle s).order? n = s.order? n :=
  order?_of_work (standAfterCycle_work s) n

/-! ## The start of a slide -/

theorem tryEndAborted_of_none {s : State} (h : s.stand.cycle = none) : tryEndAborted s = s := by simp [tryEndAborted, h]

/-- An aborted cycle with no FEED or RETURN in flight and no original in the gate ends. -/
theorem tryEndAborted_ends {s : State} {c : Cycle} {x : AbortCause} (hc : s.stand.cycle = some c) (hx : c.cause = some x)
    (hfeed : feederOfCycle s = false) (hgate : gateHolds s c = false) : tryEndAborted s = endCycle s := by
  simp only [tryEndAborted, hc, hx]
  split
  · rename_i h
    cases h
  · rfl
  · simp [hfeed, hgate]

/-- The abort of a cycle that has no plan and no group spoils no frame and settles no group. -/
theorem abortCycle_loading {s : State} {c : Cycle} {cause : AbortCause} {m : StandMode} (hc : s.stand.cycle = some c)
    (hcause : c.cause = none) (hplan : c.plan = none) (hgroup : c.groupFirst = none) :
    (abortCycle cause (some m) s).stand.cycle = some { c with cause := some cause, phase := .ending }
      ∧ (abortCycle cause (some m) s).feeder = { s.feeder with waiting := s.feeder.waiting.filter fun w => !w.ofCycle } := by
  have hstep : c.step? = none := by simp [Cycle.step?, hplan]
  have hspoil : ∀ u : State, (spoilFrame c u).stand.cycle = u.stand.cycle ∧ (spoilFrame c u).feeder = u.feeder := fun u => by
    unfold spoilFrame
    rw [hstep]
    split <;> exact ⟨rfl, rfl⟩
  have hsettle : ∀ u : State, settleGroup c u = u := fun u => by
    have : cycleGroup u c = none := by
      unfold cycleGroup
      rw [hgroup]
      cases (u.back c.back).roll <;> rfl
    simp [settleGroup, this]
  have hmode : ∀ u : State, (setModeIf (some m) u).stand.cycle = u.stand.cycle ∧ (setModeIf (some m) u).feeder = u.feeder := fun u => by
    unfold setModeIf setStandMode
    simp only
    split <;> exact ⟨rfl, rfl⟩
  have heq : abortCycle cause (some m) s
      = setModeIf (some m)
          (settleGroup c (spoilFrame c (releaseOps (onCycle (fun c => { c with cause := some cause, phase := .ending }) s)))) := by
    simp [abortCycle, hc, hcause]
  rw [heq, (hmode _).1, (hmode _).2, hsettle, (hspoil _).1, (hspoil _).2]
  refine ⟨?_, rfl⟩
  change (onCycle _ s).stand.cycle = _
  simp [onCycle, hc]

theorem haltReport_atWork {s : State} {r : HaltReason} (hw : AtWork s) :
    haltReport r false s = abort (.halt r) (some (.halted r)) s := by
  unfold haltReport
  rcases hw with hw | hw <;> simp [hw]

/-- A FEED that fails ends a cycle of which the feeder has nothing else to wait for. -/
theorem feederFail_cycle {s : State} {c : Cycle} (hw : AtWork s) (hc : s.stand.cycle = some c) (hcause : c.cause = none)
    (hplan : c.plan = none) (hgroup : c.groupFirst = none) (hwait : s.feeder.waiting = []) :
    (feederFail false s).stand.cycle = none := by
  unfold feederFail
  generalize hu : (s.onFeeder fun f =>
    { f with op := none, pos := none, gate := gateAfterTimeout f.gateSense, feedBusy := [] }) = u
  have hstand : u.stand = s.stand := by rw [← hu]; rfl
  have hfeeder : u.feeder.op = none ∧ u.feeder.waiting = [] ∧ u.feeder.gate = gateAfterTimeout s.feeder.gateSense := by
    rw [← hu]
    exact ⟨rfl, hwait, rfl⟩
  obtain ⟨hop, hwaiting, hgate⟩ := hfeeder
  rw [haltReport_atWork (by simpa only [AtWork, hstand] using hw), abort]
  obtain ⟨hcyc, hfd⟩ := abortCycle_loading (cause := .halt .feedTimeout) (m := .halted .feedTimeout) (hstand ▸ hc) hcause hplan
    hgroup
  have hends := tryEndAborted_ends hcyc rfl (by simp [feederOfCycle, hfd, hop, hwaiting])
    (by cases hsense : s.feeder.gateSense <;> simp [gateHolds, hfd, hgate, gateAfterTimeout, hsense])
  rw [hends, tryEndAborted_of_none (endCycle_cycle _)]
  exact endCycle_cycle _

/-- The cycle record a slide's start makes. -/
def startedCycle (s : State) (o : Order) (i : Nat) (x : Slide) (b : BackId) : Cycle :=
  cycleOf o i x b ((trayPos? s x.cat).getD 0) (s.profiles.lookup x.cat)

theorem startSlide_eq {s : State} {o : Order} {i : Nat} {x : Slide} {b : BackId} (hi : nextSlide o = some i)
    (hx : o.slides[i]? = some x) :
    startSlide o b s
      = askTurretAndLamp b
          (askJob (.feed ((trayPos? s x.cat).getD 0) x.cat) true (makeCycle (startedCycle s o i x b) s)) := by
  simp only [startSlide, hi, hx]
  rfl

theorem askTurretAndLamp_of_none {b : BackId} {s : State} (h : s.stand.cycle = none) : askTurretAndLamp b s = s := by
  simp [askTurretAndLamp, h]

theorem askTurretAndLamp_of_cycle {b : BackId} {s : State} {c : Cycle} (h : s.stand.cycle = some c) (hc : c.cause = none) :
    askTurretAndLamp b s = lampLight (if s.film.turret = .stands b then s else askSwap b true s) := by
  simp [askTurretAndLamp, h, hc]

/-- The FEED of a slide's start is started, waits for the feeder, or fails at once (R72, R74). -/
theorem askFeed_cases (pos cat : Nat) (s : State) :
    (feederIdle s = true ∧ s.feeder.gate = .empty ∧ askJob (.feed pos cat) true s = beginJob (.feed pos cat) true s)
      ∨ (feederIdle s = true ∧ s.feeder.gate ≠ .empty ∧ askJob (.feed pos cat) true s = feederFail false s)
      ∨ (¬feederIdle s = true ∧ askJob (.feed pos cat) true s = waitJob (.feed pos cat) true s) := by
  by_cases hidle : feederIdle s = true
  · by_cases hgate : s.feeder.gate = .empty
    · exact .inl ⟨hidle, hgate, by simp [askJob, hidle, startJob, hgate]⟩
    · exact .inr (.inl ⟨hidle, hgate, by simp [askJob, hidle, startJob, hgate]⟩)
  · exact .inr (.inr ⟨hidle, by simp [askJob, hidle]⟩)

theorem feederIdle_iff {s : State} : feederIdle s = true ↔ s.feeder.op = none ∧ s.feeder.waiting = [] := by
  simp [feederIdle, Option.isNone_iff_eq_none, List.isEmpty_iff]

/-! ## A choice starts tested slides -/

/-- The slide of an order has passed the tests for a back: the tray map holds its number, the back takes its bracket, no ceiling
fails. -/
structure Passed (s : State) (o : Order) (b : BackId) : Prop where
  held : ((nextCat o).bind (trayPos? s)).isSome = true
  takes : (s.back b).takesBracket o.stock o.n = true
  below : ceilingCheck s o.account o.stock o.cls o.n = none

theorem Passed.of_sameBut {s t : State} {o : Order} {b : BackId} (h : SameBut s t) (hp : Passed s o b) : Passed t o b := by
  obtain ⟨hheld, htakes, hbelow⟩ := hp
  rw [h]
  exact ⟨hheld, htakes, hbelow⟩

/-- The choice leaves the stand as it was until it starts a slide, which has passed its tests. -/
theorem choiceLoop_starts (n : Nat) (s : State) :
    (choiceLoop n s).stand = s.stand
      ∨ ∃ (u : State) (o : Order) (b : BackId), u.stand = s.stand ∧ Passed u o b ∧ choiceLoop n s = startSlide o b u := by
  induction n generalizing s with
  | zero => exact .inl rfl
  | succ n ih =>
    have hstand : (tested s).stand = s.stand := (tested_playing s).2.sameStand.stand
    have next : ∀ u : State, u.stand = s.stand → choiceLoop (n + 1) s = choiceLoop n u →
        (choiceLoop (n + 1) s).stand = s.stand
          ∨ ∃ (u : State) (o : Order) (b : BackId),
              u.stand = s.stand ∧ Passed u o b ∧ choiceLoop (n + 1) s = startSlide o b u := by
      intro u hu heq
      rw [heq]
      rcases ih u with h | ⟨v, o, b, hv, hp, heq⟩
      · exact .inl (h.trans hu)
      · exact .inr ⟨v, o, b, hv.trans hu, hp, heq⟩
    cases htop : (tested s).work.stack.head?.bind (tested s).order? with
    | none => exact .inl ((congrArg State.stand (choiceLoop_none htop)).trans hstand)
    | some o =>
      have hstep := choiceLoop_top (n := n) htop
      rcases testTop_cases (tested s) o with ⟨r, ht⟩ | ht | ⟨b, ht, hb⟩ | ⟨b, ht, hheld, hfind, hceil⟩ | ⟨c, b, ht, hfill, hfind⟩
        <;> rw [ht] at hstep
      · exact next _ ((sameBut_holdWith _ _ _).sameStand.stand.trans hstand) hstep
      · exact .inl ((congrArg State.stand hstep).trans hstand)
      · refine next (makeFull b (tested s)) (Eq.trans ?_ hstand) hstep
        rw [makeFull, if_pos hb, setBackState]
        split <;> rfl
      · exact .inr ⟨tested s, o, b, hstand, ⟨hheld, findBack_takes hfind, hceil⟩, hstep⟩
      · obtain ⟨helig, -⟩ := highestOf_filter hfill
        obtain ⟨-, -, -, ⟨x, p, hx, hp⟩, -, hceil⟩ := fillEligible_iff.1 helig
        have hset := sameBut_setOrderState c.number .filling (some (formerOf c)) (tested s)
        have hheld : ((nextCat c).bind (trayPos? (tested s))).isSome = true := by
          rw [hx]
          exact trayPos?_isSome_iff.2 ⟨p, hp⟩
        exact .inr ⟨_, c, b, hset.sameStand.stand.trans hstand, Passed.of_sameBut hset ⟨hheld, findBack_takes hfind, hceil⟩, hstep⟩

/-- What a slide's start changes besides the cycle: the feeder's operations, the lamp, the turret, the profile table's marks. -/
theorem askTurretAndLamp_leaves (b : BackId) (s : State) :
    (askTurretAndLamp b s).stand = s.stand ∧ (askTurretAndLamp b s).feeder = s.feeder
      ∧ (∀ k, (askTurretAndLamp b s).back k = s.back k) ∧ (askTurretAndLamp b s).tally = s.tally
      ∧ (askTurretAndLamp b s).stocks = s.stocks := by
  have hback : ∀ (t u : State), t.film.backA = u.film.backA → t.film.backB = u.film.backB → ∀ k, t.back k = u.back k :=
    fun t u hA hB k => by cases k; exacts [hA, hB]
  unfold askTurretAndLamp
  split
  · exact ⟨rfl, rfl, fun _ => rfl, rfl, rfl⟩
  · split
    · exact ⟨rfl, rfl, fun _ => rfl, rfl, rfl⟩
    · split
      · exact ⟨rfl, rfl, hback _ _ rfl rfl, rfl, rfl⟩
      · unfold askSwap
        split
        · unfold beginSwap
          split
          · exact ⟨rfl, rfl, hback _ _ rfl rfl, rfl, rfl⟩
          · exact ⟨rfl, rfl, hback _ _ rfl rfl, rfl, rfl⟩
        · exact ⟨rfl, rfl, hback _ _ rfl rfl, rfl, rfl⟩

/-- The cycle in flight after a slide's start is the one started, and the tray map, the backs and the tally are as they were. -/
theorem startSlide_cycle {s : State} {o : Order} {b : BackId} {c : Cycle} (hnone : s.stand.cycle = none)
    (hw : s.stand.mode = .running) (hc : (startSlide o b s).stand.cycle = some c) :
    ∃ i x, nextSlide o = some i ∧ o.slides[i]? = some x ∧ c = startedCycle s o i x b
      ∧ (startSlide o b s).stand.mode = .running ∧ (startSlide o b s).feeder.map = s.feeder.map
      ∧ (∀ k, (startSlide o b s).back k = s.back k) ∧ (startSlide o b s).tally = s.tally
      ∧ (startSlide o b s).stocks = s.stocks := by
  cases hi : nextSlide o with
  | none => simp [startSlide, hi, hnone] at hc
  | some i =>
    cases hx : o.slides[i]? with
    | none => simp [startSlide, hi, hx, hnone] at hc
    | some x =>
      rw [startSlide_eq hi hx] at hc ⊢
      obtain ⟨hstand, hfeeder, hback, htally, hstocks⟩ := askTurretAndLamp_leaves b
        (askJob (.feed ((trayPos? s x.cat).getD 0) x.cat) true (makeCycle (startedCycle s o i x b) s))
      rw [hstand] at hc ⊢
      rw [hfeeder, htally, hstocks]
      simp only [hback]
      rcases askFeed_cases ((trayPos? s x.cat).getD 0) x.cat (makeCycle (startedCycle s o i x b) s) with
        ⟨_, _, hask⟩ | ⟨hidle, _, hask⟩ | ⟨_, hask⟩ <;> rw [hask] at hc ⊢
      · exact ⟨i, x, rfl, hx, (Option.some.inj hc).symm, hw, rfl, fun k => by cases k <;> rfl, rfl, rfl⟩
      · have hend := feederFail_cycle (s := makeCycle (startedCycle s o i x b) s) (.inl hw) rfl rfl rfl rfl
          (feederIdle_iff.1 hidle).2
        rw [hend] at hc
        cases hc
      · exact ⟨i, x, rfl, hx, (Option.some.inj hc).symm, hw, rfl, fun k => by cases k <;> rfl, rfl, rfl⟩

/-- Settles O23: until the choice starts a slide it leaves the stand alone, and what it starts has passed the tests. -/
theorem choiceStartsTestedSlides : Obligations.ChoiceStartsTestedSlides := by
  intro s t c hnone hrun hc
  subst hrun
  unfold runChoice at hc ⊢
  split at hc
  · rename_i hallowed
    rw [if_pos hallowed]
    have hmode : s.stand.mode = .running := by
      rw [choiceAllowed, Bool.and_eq_true, decide_eq_true_eq] at hallowed
      exact hallowed.1
    rcases choiceLoop_starts (s.work.orders.length + 3) s with h | ⟨u, o, b, hu, ⟨hheld, htakes, hbelow⟩, heq⟩
    · rw [h, hnone] at hc
      cases hc
    · rw [heq] at hc ⊢
      obtain ⟨i, x, hi, hx, rfl, hrunning, hmap, hback, htally, hstocks⟩ :=
        startSlide_cycle (by rw [hu, hnone]) (by rw [hu, hmode]) hc
      have hcat : nextCat o = some x.cat := by simp [nextCat, hi, hx]
      rw [hcat] at hheld
      obtain ⟨p, hp⟩ := Option.isSome_iff_exists.1 hheld
      have hpos : trayPos? u x.cat = some p := hp
      obtain ⟨hready, r, hr, hstock, hn⟩ := takesBracket_iff.1 htakes
      refine ⟨hrunning, ?_, ?_, ⟨r, ?_, hstock, hn⟩, ?_, rfl, rfl, rfl, rfl⟩
      · simp only [State.mapAt, hmap, startedCycle, cycleOf, hpos]
        exact (trayPos?_eq_some hpos).2
      · rw [hback]
        exact hready
      · rw [hback]
        exact hr
      · have hcheck : ∀ v : State, v.tally = u.tally → v.stocks = u.stocks →
            ceilingCheck v o.account o.stock o.cls o.n = ceilingCheck u o.account o.stock o.cls o.n := fun v h1 h2 => by
          simp only [ceilingCheck, frameAmount, State.stock, h1, h2]
        exact (hcheck _ htally hstocks).trans hbelow
  · rw [hnone] at hc
    cases hc

end Sys2Proof.Machine
end

section
/-! SUPPORT. The slide cycle's start, plan and ends, step by step (R16 to R18, R74, R90, R118, R119, R122, R126, R128). -/

namespace Sys2Proof.Machine

/-- The tray position of a number, from the first position that holds it. -/
theorem trayPos?_of_first {s : State} {x pos : Nat} (hpos : pos < 80) (h : s.mapAt pos = some x)
    (hfirst : ∀ p < pos, s.mapAt p ≠ some x) : trayPos? s x = some pos := by
  refine List.findIdx?_eq_some_iff_getElem.2 ⟨by simpa using hpos, ?_, fun p hp => ?_⟩
  · rw [mapAt_eq_some_iff, Vector.getElem?_eq_getElem hpos] at h
    simpa using h
  · have := hfirst p hp
    rw [ne_eq, mapAt_eq_some_iff, Vector.getElem?_eq_getElem (hp.trans hpos)] at this
    simpa using this

theorem lampLight_eq (s : State) :
    lampLight s = { s with head := { s.head with lamp := if s.head.lamp = .off then .warming else s.head.lamp } } := by
  unfold lampLight State.onHead
  split
  · rename_i h; simp [h]
  · rename_i h; simp [h]

@[simp] theorem askSwap_head (b : BackId) (c : Bool) (s : State) : (askSwap b c s).head = s.head := by
  unfold askSwap beginSwap
  split
  · split <;> rfl
  · rfl

/-- The turret and the lamp are asked for on a state with the cycle live. -/
theorem askTurretAndLamp_live {b : BackId} {s : State} {c : Cycle} (hc : s.stand.cycle = some c) (hcause : c.cause = none) :
    (s.film.turret = .stands b →
        askTurretAndLamp b s
          = { s with head := { s.head with lamp := if s.head.lamp = .off then .warming else s.head.lamp } })
      ∧ (s.film.turret ≠ .stands b →
        askTurretAndLamp b s
          = { askSwap b true s with
              head := { s.head with lamp := if s.head.lamp = .off then .warming else s.head.lamp } }) := by
  rw [askTurretAndLamp_of_cycle hc hcause]
  refine ⟨fun h => ?_, fun h => ?_⟩
  · rw [if_pos h, lampLight_eq]
  · rw [if_neg h, lampLight_eq, askSwap_head]

/-- The parts of the state a cycle's start reads, on the state with the cycle made. -/
theorem makeCycle_eq (c : Cycle) (s : State) :
    makeCycle c s = { s with
      profiles := s.profiles.mark c.profile.source,
      feeder := { s.feeder with feedBusy := s.feeder.feedBusy ++ [c.pos] },
      head := { s.head with idle := none },
      stand := { s.stand with cycle := some c } } := rfl

/-- The start of a slide, by what becomes of its FEED. -/
theorem startSlide_spec {o : Order} {b : BackId} {s t : State} {i pos : Nat} {x : Slide} (hi : nextSlide o = some i)
    (hx : o.slides[i]? = some x) (hpos : trayPos? s x.cat = some pos)
    (ht : t = makeCycle (cycleOf o i x b pos (s.profiles.lookup x.cat)) s) :
    startSlide o b s = askTurretAndLamp b (askJob (.feed pos x.cat) true t) := by
  rw [startSlide_eq hi hx, startedCycle, hpos, Option.getD_some, ht]

/-! ## The plan -/

theorem gateHolds_iff {s : State} {c : Cycle} : gateHolds s c = true ↔ s.feeder.gate = .holds c.pos c.cat := by
  simp [gateHolds]

/-- A plan taken: the cycle's record, the group opened on its roll, and the ND slider asked for the first step. -/
theorem takePlan_eq {s : State} {c : Cycle} {d : Nat} {dense : Bool} {r : Roll} (hr : (s.back c.back).roll = some r) :
    takePlan c d dense s
      = askStepNd
          (onCycle
            (fun e => { e with plan := some (computePlan (s.stock c.stock) c d dense), groupFirst := some r.next, nextStep := 0,
                               phase := .exposing })
            (s.onBackRoll c.back fun r => r.openGroup (groupOf c r.next (computePlan (s.stock c.stock) c d dense).s))) := by
  simp only [takePlan, hr]

/-- The ND slider is asked for the step of the cycle where it is not known to stand there (R81, R120). -/
theorem askStepNd_leaves (s : State) :
    (askStepNd s).stand = s.stand ∧ (∀ b, (askStepNd s).back b = s.back b)
      ∧ ∀ p, s.stand.cycle.bind Cycle.step? = some p →
          (s.head.nd = some p.nd → (askStepNd s).head = s.head)
            ∧ (s.head.nd ≠ some p.nd → s.head.ndOp = none → s.head.ndWaiting = [] →
                (askStepNd s).head = { s.head with nd := none, ndOp := some { target := p.nd, stale := false, ofCycle := true } }) := by
  unfold askStepNd
  split
  · rename_i h
    exact ⟨rfl, fun _ => rfl, fun p hp => by rw [h] at hp; cases hp⟩
  · rename_i q hq
    by_cases hnd : s.head.nd = some q.nd
    · rw [if_pos hnd]
      refine ⟨rfl, fun _ => rfl, fun p hp => ⟨fun _ => rfl, fun h => ?_⟩⟩
      rw [hq] at hp
      cases hp
      exact absurd hnd h
    · rw [if_neg hnd]
      unfold askNd
      split
      · refine ⟨rfl, fun b => by cases b <;> rfl, fun p hp => ?_⟩
        rw [hq] at hp
        cases hp
        exact ⟨fun h => absurd h hnd, fun _ _ _ => rfl⟩
      · rename_i hno
        refine ⟨rfl, fun b => by cases b <;> rfl, fun p hp => ?_⟩
        rw [hq] at hp
        cases hp
        exact ⟨fun h => absurd h hnd, fun _ hop hw => absurd ⟨by rw [hop]; rfl, hw⟩ hno⟩

/-! ## The group of a cycle and the end of a cycle -/

theorem cycleGroup_of_roll {s : State} {c : Cycle} {r : Roll} (hr : (s.back c.back).roll = some r) :
    cycleGroup s c = c.groupFirst.bind fun f => r.group? f := by simp [cycleGroup, hr]

theorem cycleFrames_of_roll {s : State} {c : Cycle} {r : Roll} (hr : (s.back c.back).roll = some r) :
    cycleFrames s c = match c.groupFirst with | some f => r.framesOf f | none => [] := by
  unfold cycleFrames
  rw [hr]
  cases c.groupFirst <;> rfl

theorem advanceOfCycle_eq_false_iff {s : State} {b : BackId} :
    advanceOfCycle s b = false ↔
      (∀ a ∈ (s.back b).advance, a.ofCycle = false) ∧ ∀ w ∈ (s.back b).waiting, w.ofCycle = false := by
  unfold advanceOfCycle
  cases (s.back b).advance <;> simp

theorem feederOfCycle_eq_false_iff {s : State} :
    feederOfCycle s = false ↔ (∀ o ∈ s.feeder.op, o.ofCycle = false) ∧ ∀ w ∈ s.feeder.waiting, w.ofCycle = false := by
  unfold feederOfCycle
  cases s.feeder.op <;> simp

/-- SLIDE FINISHED is queued first of the notices of a cycle's end. -/
theorem endCycle_notices {s : State} {c : Cycle} (hc : s.stand.cycle = some c) (hroom : s.link.notices.length < 16) :
    (s.link.notices ++ [slideFinishedNotice s c]) <+: (endCycle s).link.notices := by
  have hlink : (released c s).link.notices = s.link.notices ++ [slideFinishedNotice s c] := by
    obtain ⟨busy, h⟩ := freePosition_eq c ((queueNotice (slideFinishedNotice s c) s).onStand fun t => { t with cycle := none })
    rw [released, h]
    exact queueNotice_notices hroom
  have hafter : ∀ t : State, (standAfterCycle t).link = t.link := fun t => by
    unfold standAfterCycle
    split <;> rfl
  rw [endCycle_eq hc, hafter, ← hlink]
  exact (takeReport_moves c _ _).notices

/-- The order of an ended cycle: cancelled, held, or returned to its former state with its slide SHOT (R17, R18). -/
theorem endCycle_order {s : State} {c : Cycle} {o : Order} (hc : s.stand.cycle = some c) (ho : s.order? c.order = some o) :
    (o.cancelPending = true → ∀ p ∈ (endCycle s).work.orders, p.number ≠ c.order)
      ∧ (o.cancelPending = false → o.holdPending = true →
          c.order ∉ (endCycle s).work.stack
            ∧ ∃ p, (endCycle s).order? c.order = some p ∧ p.state = .held .host ∧ p.holdPending = false)
      ∧ (o.cancelPending = false → o.holdPending = false → ∃ p, (endCycle s).order? c.order = some p
          ∧ p.slides = (if groupComplete s c then o.shotAt c.slide else o).slides
          ∧ (o.state ≠ .filling → p.state = o.state)
          ∧ (o.state = .filling → o.former = some .preempted → p.state = .preempted)
          ∧ (o.state = .filling → o.former = some .active → p.state = .active)
          ∧ (o.state = .filling → o.former = some .pending →
              p.state = if (nextSlide p).isSome then .pending else .exposed)) := by
  have ho' : (released c s).order? c.order = some o := (order?_of_work (released_work c s) _).trans ho
  have hrep := order?_reported (complete := groupComplete s c) ho'
  have hsame : ∀ b : Bool, (if b then o.shotAt c.slide else o).cancelPending = o.cancelPending
      ∧ (if b then o.shotAt c.slide else o).holdPending = o.holdPending ∧ (if b then o.shotAt c.slide else o).state = o.state
      ∧ (if b then o.shotAt c.slide else o).former = o.former := fun b => by cases b <;> exact ⟨rfl, rfl, rfl, rfl⟩
  obtain ⟨hcan, hhold, hst, hfm⟩ := hsame (groupComplete s c)
  rw [endCycle_eq hc, standAfterCycle_work, standAfterCycle_order?, takeReport]
  refine ⟨fun h => ?_, fun h h2 => ?_, fun h h2 => ?_⟩
  · have heq : ∀ u : State, u.order? c.order = some (if groupComplete s c then o.shotAt c.slide else o) →
        takeMarks c.order u = cancelEffect c.order u := fun u hu => by simp [takeMarks, hu, hcan, h]
    rw [heq _ hrep]
    exact (cancelEffect_leaves c.order _).1
  · exact takeMarks_hold hrep (hcan.trans h) (hhold.trans h2)
  · have := takeMarks_return hrep (hcan.trans h) (hhold.trans h2)
    rwa [hst, hfm] at this

/-- The stand after the end of a cycle: STOPPING ends STOPPED with the lamp off, RUNNING starts the idle timer (R122, R126). -/
theorem endCycle_stand {s : State} {c : Cycle} (hc : s.stand.cycle = some c) :
    (s.stand.mode = .stopping → (endCycle s).stand.mode = .stopped ∧ (endCycle s).head.idle = none
        ∧ (endCycle s).head.lamp ≠ .warming ∧ (endCycle s).head.lamp ≠ .ready)
      ∧ (s.stand.mode = .running → (endCycle s).stand.mode = .running
          ∧ (endCycle s).head.idle = if s.stand.settings.idleMinutes = 0 then none else some s.stand.settings.idleMinutes)
      ∧ (s.stand.mode ≠ .stopping → s.stand.mode ≠ .running → (endCycle s).stand.mode = s.stand.mode) := by
  rw [endCycle_eq hc]
  generalize hu : takeReport c (groupComplete s c) (released c s) = u
  have hstand : u.stand = { s.stand with cycle := none } := hu ▸ report_stand c _ s
  refine ⟨fun h => ?_, fun h => ?_, fun h1 h2 => ?_⟩
  · have : u.stand.mode = .stopping := by rw [hstand]; exact h
    simp only [standAfterCycle, this, setStandMode_idle (m := .stopped) nofun]
    rw [lampOff_head]
    refine ⟨rfl, rfl, ?_, ?_⟩ <;>
      · simp only
        split
        · nofun
        · rename_i hno
          exact fun h => hno (by simp [h])
  · have : u.stand.mode = .running := by rw [hstand]; exact h
    simp only [standAfterCycle, this]
    refine ⟨this, ?_⟩
    simp only [startIdle, onHead_head, hstand]
  · have hmode : u.stand.mode = s.stand.mode := by rw [hstand]
    unfold standAfterCycle
    split
    · rename_i h; exact absurd (hmode.symm.trans h) h1
    · rename_i h; exact absurd (hmode.symm.trans h) h2
    · exact hmode

/-! ## The slide cycle's start, plan and ends -/

/-- The start of a slide, by what becomes of its FEED. -/
theorem startSlide_steps (o : Order) (b : BackId) (s t : State) (i pos : Nat) (x : Slide) (hi : nextSlide o = some i)
    (hx : o.slides[i]? = some x) (hpos : trayPos? s x.cat = some pos)
    (ht : t = makeCycle (cycleOf o i x b pos (s.profiles.lookup x.cat)) s) :
    (∀ u : State,
      (s.feeder.op = none ∧ s.feeder.waiting = [] ∧ s.feeder.gate = .empty
          ∧ u = { t with feeder :=
                    { t.feeder with
                      op := some
                        { job := .feed pos x.cat, homing := decide (s.feeder.pos = none), limit := s.stand.settings.feedLimit,
                          stale := false, ofCycle := true } } }
        ∨ (s.feeder.op ≠ none ∨ s.feeder.waiting ≠ [])
          ∧ u = { t with feeder :=
                    { t.feeder with waiting := s.feeder.waiting ++ [{ job := .feed pos x.cat, ofCycle := true }] } }) →
        startSlide o b s = askTurretAndLamp b u ∧ u.stand = t.stand ∧ u.film = s.film ∧ u.head.lamp = s.head.lamp)
      ∧ (AtWork s → s.feeder.op = none → s.feeder.waiting = [] → s.feeder.gate ≠ .empty →
          startSlide o b s = feederFail false t ∧ (startSlide o b s).stand.cycle = none) := by
  have hstart := startSlide_spec hi hx hpos ht
  subst ht
  have hidle : feederIdle (makeCycle (cycleOf o i x b pos (s.profiles.lookup x.cat)) s) = true
      ↔ s.feeder.op = none ∧ s.feeder.waiting = [] := feederIdle_iff
  refine ⟨?_, fun hw hop hwait hgate => ?_⟩
  · rintro u (⟨hop, hwait, hgate, rfl⟩ | ⟨hbusy, rfl⟩)
    · refine ⟨?_, rfl, rfl, rfl⟩
      rcases askFeed_cases pos x.cat (makeCycle (cycleOf o i x b pos (s.profiles.lookup x.cat)) s) with
        ⟨-, -, hask⟩ | ⟨-, hno, -⟩ | ⟨hno, -⟩
      · rw [hstart, hask]
        have hhome : decide (s.feeder.pos = none) = s.feeder.pos.isNone := by cases s.feeder.pos <;> rfl
        rw [hhome]
        rfl
      · exact absurd hgate hno
      · exact absurd (hidle.2 ⟨hop, hwait⟩) hno
    · refine ⟨?_, rfl, rfl, rfl⟩
      have hnot : ¬(s.feeder.op = none ∧ s.feeder.waiting = []) := by
        rw [not_and_or]
        exact hbusy
      rcases askFeed_cases pos x.cat (makeCycle (cycleOf o i x b pos (s.profiles.lookup x.cat)) s) with
        ⟨h, -, -⟩ | ⟨h, -, -⟩ | ⟨-, hask⟩
      · exact absurd (hidle.1 h) hnot
      · exact absurd (hidle.1 h) hnot
      · rw [hstart, hask]
        rfl
  · have hend := feederFail_cycle (s := makeCycle (cycleOf o i x b pos (s.profiles.lookup x.cat)) s) hw rfl rfl rfl rfl hwait
    have heq : startSlide o b s = feederFail false (makeCycle (cycleOf o i x b pos (s.profiles.lookup x.cat)) s) := by
      rcases askFeed_cases pos x.cat (makeCycle (cycleOf o i x b pos (s.profiles.lookup x.cat)) s) with
        ⟨-, h, -⟩ | ⟨-, -, hask⟩ | ⟨hno, -⟩
      · exact absurd h hgate
      · rw [hstart, hask, askTurretAndLamp_of_none hend]
      · exact absurd (hidle.2 ⟨hop, hwait⟩) hno
    exact ⟨heq, heq ▸ hend⟩

/-- Settles O52: the start of a slide, its plan, its normal end and the end of its cycle. -/
theorem slideStartPlanAndCycleEnd : Obligations.SlideStartPlanAndCycleEnd := by
  refine ⟨fun o b s t i pos x hi hx hlt hat hfirst ht => ?_, fun s c ready hc hready => ?_,
    fun s c d dense r plan p hc hr hplan hp => ?_, fun s c first r hr => ⟨fun hf => ?_, fun hf => ?_,
      fun complete exposed hcomplete hexp hexp0 => ?_⟩, fun s c ended hc hended => ?_, fun s t c complete hc ht hcomplete => ?_⟩
  · obtain ⟨hlive, hfail⟩ := startSlide_steps o b s t i pos x hi hx (trayPos?_of_first hlt hat hfirst) ht
    refine ⟨fun u hu => ?_, hfail⟩
    obtain ⟨heq, hstand, hfilm, hlamp⟩ := hlive u hu
    have hcyc : u.stand.cycle = some (cycleOf o i x b pos (s.profiles.lookup x.cat)) := by rw [hstand, ht]; rfl
    obtain ⟨hat, haway⟩ := askTurretAndLamp_live (b := b) hcyc rfl
    rw [heq, ← hfilm, ← hlamp]
    exact ⟨hat, haway⟩
  · have hready : ready ↔ (c.phase = .loading ∧ c.cause = none ∧ gateHolds s c = true ∧ s.head.lamp = .ready) := by
      rw [hready, gateHolds_iff]
    refine ⟨fun h => ?_, fun d h hd => ?_, fun h hd hm => ?_, fun h hd hm => ?_⟩
    · simp only [tryPlan, hc, if_neg (mt hready.2 h)]
    · simp only [tryPlan, hc, if_pos (hready.1 h), hd]
    · simp only [tryPlan, hc, if_pos (hready.1 h), hd, hm, Option.isNone_none, if_true]
      simp [onCycle, State.onStand, State.onHead, hc]
    · have hno : ¬s.head.meter.isNone = true := fun hn => by
        rw [Option.isNone_iff_eq_none.1 hn] at hm
        cases hm
      simp only [tryPlan, hc, if_pos (hready.1 h), hd, if_neg hno]
  · have hopen := takePlan_eq (d := d) (dense := dense) hr
    obtain ⟨hstand, hback, hhead⟩ := askStepNd_leaves
      (onCycle
        (fun e => { e with plan := some (computePlan (s.stock c.stock) c d dense), groupFirst := some r.next, nextStep := 0,
                           phase := .exposing })
        (s.onBackRoll c.back fun r => r.openGroup (groupOf c r.next (computePlan (s.stock c.stock) c d dense).s)))
    refine ⟨_, rfl, ?_, ?_, ?_⟩
    · rw [hopen, hstand, hplan]
      simp [onCycle, State.onBackRoll, State.onBack, hc]
    · rw [hopen, hback, hplan]
      change ((s.onBackRoll c.back _).back c.back).roll = _
      rw [State.onBackRoll, onBack_same, hr]
      rfl
    · rw [hopen]
      refine hhead p ?_
      subst hplan
      simp [onCycle, State.onBackRoll, State.onBack, hc, Cycle.step?, hp]
  · rw [cycleGroup_of_roll hr, cycleFrames_of_roll hr, hf]
    exact ⟨rfl, rfl⟩
  · rw [cycleGroup_of_roll hr, cycleFrames_of_roll hr, hf]
    exact ⟨rfl, rfl⟩
  · have hnotice : slideFinishedNotice s c
        = .slideFinished c.order c.slide c.cat c.attempt c.back r.id c.groupFirst c.cause complete exposed
            ((cycleFrames s c).countP fun f => f.kind = .spoilt) ((cycleFrames s c).countP fun f => f.credited) := by
      cases hg : cycleGroup s c with
      | none =>
        have : complete = false := by simpa [hg] using hcomplete
        rw [this, hexp0 hg]
        simp [slideFinishedNotice, hr, hg]
      | some g =>
        have : complete = decide (g.completeness = .complete) := by
          rw [Bool.eq_iff_iff, hcomplete, decide_eq_true_eq]
          simp [hg]
        rw [this, hexp g hg]
        simp [slideFinishedNotice, hr, hg]
    refine ⟨hnotice, ?_⟩
    rw [hnotice]
    cases c.cause <;> simp [Notice.fields]
  · have hended : ended ↔ (c.cause = none ∧ c.phase = .finishing ∧ advanceOfCycle s c.back = false ∧ feederOfCycle s = false) := by
      rw [hended, advanceOfCycle_eq_false_iff, feederOfCycle_eq_false_iff]
      tauto
    refine ⟨fun h => ?_, fun h => ?_⟩
    · simp only [tryEndNormal, hc, if_pos (hended.1 h)]
    · simp only [tryEndNormal, hc, if_neg (mt hended.2 h)]
  · subst ht
    have hcomplete : complete ↔ groupComplete s c = true := hcomplete.trans groupComplete_iff.symm
    obtain ⟨hstopping, hrunning, helse⟩ := endCycle_stand hc
    refine ⟨endCycle_cycle s, hstopping, hrunning, helse, endCycle_notices hc, fun o _ ho => ?_⟩
    obtain ⟨hcancel, hhold, hret⟩ := endCycle_order hc ho
    refine ⟨hcancel, hhold, fun h1 h2 => ?_⟩
    obtain ⟨p, hp, hslides, hrest⟩ := hret h1 h2
    refine ⟨p, hp, fun h => ?_, fun h => ?_, hrest⟩
    · rw [hslides, if_pos (hcomplete.1 h)]
      rfl
    · rw [hslides, if_neg fun hg => h (hcomplete.2 hg)]

end Sys2Proof.Machine
end

section
/-! SUPPORT. ABORT SLIDE and RESET STAND: what an abort and the end of a cycle leave as they were, the stack emptied with its notices
(R27, R83, R113 to R115, R124 to R126). -/

namespace Sys2Proof.Machine

/-! ## What an abort and the end of a cycle leave -/

/-- The parts of the state that neither an abort nor the end of a cycle changes. -/
structure Fixed where
  profiles  : ProfileTable
  present   : Bool
  gateSense : Bool
  gate      : Gate
  pos       : Option Nat
  nd        : Option Nat
  readings  : Option Readings
  turret    : Turret
  backA     : BackState
  backB     : BackState
  labels    : LabelUnit

/-- Those parts of a state; of the label unit all but its label records. -/
def State.fixed (s : State) : Fixed :=
  { profiles := s.profiles, present := s.feeder.present, gateSense := s.feeder.gateSense, gate := s.feeder.gate,
    pos := s.feeder.pos, nd := s.head.nd, readings := s.head.readings, turret := s.film.turret,
    backA := s.film.backA.state, backB := s.film.backB.state, labels := { s.labels with records := [] } }

theorem SameBut.fixed {s t : State} (h : SameBut s t) : t.fixed = s.fixed := by rw [h]; rfl

/-- A change of a back that keeps its state. -/
theorem onBack_fixed (b : BackId) {f : Back → Back} (s : State) (hf : ∀ k, (f k).state = k.state) : (s.onBack b f).fixed = s.fixed := by
  cases b <;> simp [State.fixed, State.onBack, hf]

theorem onBackRoll_fixed (b : BackId) (f : Roll → Roll) (s : State) : (s.onBackRoll b f).fixed = s.fixed :=
  onBack_fixed b s fun _ => rfl

theorem closeTest_fixed (k : Nat) (s : State) : (closeTest k s).fixed = s.fixed := by
  unfold closeTest
  split
  · rfl
  · split
    · split
      · unfold closeRoll
        split <;> rfl
      · rfl
    · rfl

theorem cancelEffect_fixed (n : Nat) (s : State) : (cancelEffect n s).fixed = s.fixed := by
  have htests : ∀ (ks : List Nat) (u : State), (ks.foldl (fun s k => closeTest k s) u).fixed = u.fixed := by
    intro ks
    induction ks with
    | nil => exact fun _ => rfl
    | cons k ks ih => exact fun u => (ih _).trans (closeTest_fixed k u)
  have hout : SameBut (mapRolls (fun r => r.cancelOrder n) s)
      (queueNotice (.orderCancelled n) (freeOrder n (removeFromStack n (mapRolls (fun r => r.cancelOrder n) s)))) :=
    ((sameBut_removeFromStack _ _).trans (sameBut_onWork _ _)).trans (sameBut_queueNotice _ _)
  rw [cancelEffect_eq, htests, hout.fixed]
  rfl

/-- The order of a cycle's end has no cancel pending. -/
def NoCancel (n : Nat) (s : State) : Prop := ∀ o, s.order? n = some o → o.cancelPending = false

/-- The marks of an order: without a pending cancel the work list and the link alone change. -/
theorem takeMarks_sameBut {n : Nat} {s : State} (h : NoCancel n s) : SameBut s (takeMarks n s) := by
  unfold takeMarks
  split
  · exact .refl s
  · rename_i o ho
    rw [if_neg (by simp [h o ho])]
    split
    · exact (sameBut_onOrder n _ s).trans (sameBut_holdWith n _ _)
    · split
      · exact sameBut_returnFilling o s
      · exact .refl s

theorem takeMarks_fixed (n : Nat) (s : State) : (takeMarks n s).fixed = s.fixed := by
  unfold takeMarks
  split
  · rfl
  · split
    · exact cancelEffect_fixed n s
    · split
      · exact ((sameBut_onOrder n _ s).trans (sameBut_holdWith n _ _)).fixed
      · split
        · exact (sameBut_returnFilling _ s).fixed
        · rfl

theorem takeReport_fixed (c : Cycle) (complete : Bool) (s : State) : (takeReport c complete s).fixed = s.fixed := by
  rw [takeReport, takeMarks_fixed]
  split <;> rfl

theorem standAfterCycle_fixed (s : State) : (standAfterCycle s).fixed = s.fixed := by
  have hlamp : ∀ u : State, (lampOff u).fixed = u.fixed := fun u => by
    simp only [State.fixed, lampOff_head]
    rfl
  unfold standAfterCycle
  split
  · exact hlamp _
  · rfl
  · rfl

theorem released_fixed (c : Cycle) (s : State) : (released c s).fixed = s.fixed := by
  obtain ⟨busy, h⟩ := freePosition_eq c ((queueNotice (slideFinishedNotice s c) s).onStand fun t => { t with cycle := none })
  rw [released, h]
  rfl

theorem endCycle_fixed (s : State) : (endCycle s).fixed = s.fixed := by
  cases hc : s.stand.cycle with
  | none => simp [endCycle, hc]
  | some c => rw [endCycle_eq hc, standAfterCycle_fixed, takeReport_fixed, released_fixed]

theorem sameBut_queueNotices (ns : List Notice) (s : State) : SameBut s (queueNotices ns s) :=
  sameBut_foldl (fun s n => sameBut_queueNotice n s) ns s

/-- What postings leave: everything but the work list, the link and the counters. -/
def SameButTally (s t : State) : Prop := t = { s with work := t.work, link := t.link, tally := t.tally }

theorem SameButTally.trans {a b c : State} (h : SameButTally a b) (k : SameButTally b c) : SameButTally a c := by
  unfold SameButTally at h k ⊢
  rw [k, h]

theorem SameBut.tally {s t : State} (h : SameBut s t) : SameButTally s t := by
  unfold SameButTally
  conv_lhs => rw [h]
  rw [h]

theorem SameButTally.refl (s : State) : SameButTally s s := rfl

theorem SameButTally.fixed {s t : State} (h : SameButTally s t) : t.fixed = s.fixed := by rw [h]; rfl

theorem sameButTally_post (kind : PostKind) (account : Nat) (stock : Option Nat) (amount : Int) (s : State) :
    SameButTally s (post kind account stock amount s) := by
  have hcount : ∀ (f : Tally → Tally) (ns : List Notice), SameButTally s (queueNotices ns (s.onTally f)) := fun f ns =>
    SameButTally.trans (b := s.onTally f) rfl (sameBut_queueNotices ns _).tally
  unfold post
  simp only
  split
  · exact (hcount _ _).trans (sameBut_releaseWhere _ _).tally
  · exact hcount _ _

theorem sameButTally_creditFrames (stock : Nat) (fs : List Frame) (s : State) : SameButTally s (creditFrames stock fs s) := by
  induction fs generalizing s with
  | nil => exact .refl s
  | cons f fs ih =>
    unfold creditFrames
    split
    · exact (sameButTally_post _ _ _ _ s).trans (ih _)
    · exact ih s

/-! ## The order of a cycle through an abort -/

/-- A change of state leaves the pending cancel of every order. -/
theorem noCancel_setOrderState {k n : Nat} {st : OrderState} {former : Option FormerState} {s : State} (h : NoCancel k s) :
    NoCancel k (setOrderState n st former s) := by
  intro o ho
  rw [order?_setOrderState] at ho
  split at ho
  · rename_i hk
    obtain ⟨p, hp, rfl⟩ := Option.map_eq_some_iff.1 ho
    exact h p (hk ▸ hp)
  · exact h o ho

theorem NoCancel.of_work {k : Nat} {s t : State} (h : NoCancel k s) (hw : t.work = s.work) : NoCancel k t := fun o ho =>
  h o ((order?_of_work hw k).symm.trans ho)

theorem noCancel_releaseOne {k n : Nat} {s : State} (h : NoCancel k s) : NoCancel k (releaseOne n s) := by
  unfold releaseOne
  split
  · exact h
  · exact noCancel_setOrderState h

theorem noCancel_releaseWhere {k : Nat} (test : Order → Bool) {s : State} (h : NoCancel k s) : NoCancel k (releaseWhere test s) := by
  unfold releaseWhere
  generalize (s.work.orders.filter test).map (fun o => o.number) = ks
  induction ks generalizing s with
  | nil => exact h
  | cons j ks ih => exact ih (noCancel_releaseOne h)

theorem noCancel_creditFrames {k stock : Nat} (fs : List Frame) {s : State} (h : NoCancel k s) :
    NoCancel k (creditFrames stock fs s) := by
  induction fs generalizing s with
  | nil => exact h
  | cons f fs ih =>
    unfold creditFrames
    split
    · refine ih ?_
      unfold post
      simp only
      split
      · exact noCancel_releaseWhere _ (h.of_work (by simp))
      · exact h.of_work (by simp)
    · exact ih h

theorem noCancel_settleGroup {k : Nat} {c : Cycle} {s : State} (h : NoCancel k s) : NoCancel k (settleGroup c s) := by
  unfold settleGroup
  split
  · exact h
  · split
    · exact noCancel_creditFrames _ (h.of_work (by simp))
    · exact h

/-! ## The abort -/

/-- The state of an abort whose frame and group have been settled. -/
def settled (c : Cycle) (cause : AbortCause) (s : State) : State :=
  settleGroup c (spoilFrame c (releaseOps (onCycle (fun c => { c with cause := some cause, phase := .ending }) s)))

theorem abortCycle_eq {s : State} {c : Cycle} {cause : AbortCause} {m : Option StandMode} (hc : s.stand.cycle = some c)
    (hcause : c.cause = none) : abortCycle cause m s = setModeIf m (settled c cause s) := by
  simp [abortCycle, hc, hcause, settled]

/-- The parts of the state a SPOILT frame is written to. -/
theorem spoilFrame_leaves (c : Cycle) (s : State) :
    (spoilFrame c s).fixed = s.fixed ∧ (spoilFrame c s).stand.cycle = s.stand.cycle ∧ (spoilFrame c s).labels = s.labels
      ∧ (spoilFrame c s).register = s.register := by
  have hspent : ∀ (b : BackId) (u : State), (spentAdvance b u).fixed = u.fixed ∧ (spentAdvance b u).stand = u.stand
      ∧ (spentAdvance b u).labels = u.labels ∧ (spentAdvance b u).register = u.register := fun b u => by
    unfold spentAdvance
    split
    · exact ⟨onBack_fixed b u fun _ => rfl, rfl, rfl, rfl⟩
    · exact ⟨onBack_fixed b u fun _ => rfl, rfl, rfl, rfl⟩
  unfold spoilFrame
  split
  · split
    · exact ⟨rfl, rfl, rfl, rfl⟩
    · obtain ⟨h1, h2, h3, h4⟩ := hspent c.back
        (writeFrame c.back (stepFrame c _ .spoilt none none) (s.onStand fun t => { t with expose := none }))
      rw [h1, h2, h3, h4]
      exact ⟨onBack_fixed c.back _ fun _ => rfl, rfl, rfl, rfl⟩
  · exact ⟨rfl, rfl, rfl, rfl⟩

theorem settleGroup_leaves (c : Cycle) (s : State) :
    (settleGroup c s).fixed = s.fixed ∧ (settleGroup c s).stand = s.stand ∧ (settleGroup c s).labels = s.labels
      ∧ (settleGroup c s).register = s.register := by
  have hcredit : ∀ (k : Nat) (fs : List Frame) (u : State), (creditFrames k fs u).fixed = u.fixed
      ∧ (creditFrames k fs u).stand = u.stand ∧ (creditFrames k fs u).labels = u.labels
      ∧ (creditFrames k fs u).register = u.register := fun k fs u => by
    rw [sameButTally_creditFrames k fs u]
    exact ⟨rfl, rfl, rfl, rfl⟩
  unfold settleGroup
  split
  · exact ⟨rfl, rfl, rfl, rfl⟩
  · split
    · obtain ⟨h1, h2, h3, h4⟩ := hcredit c.stock (cycleFrames s c) (s.onBackRoll c.back fun r =>
          ((r.discardGroup _ .discarded).onGroup _ fun g => { g with completeness := .incomplete }).onFramesOf
            _ Frame.markCredited)
      rw [h1, h2, h3, h4]
      exact ⟨onBackRoll_fixed c.back _ s, rfl, rfl, rfl⟩
    · exact ⟨rfl, rfl, rfl, rfl⟩

theorem settled_leaves {c : Cycle} {cause : AbortCause} {s : State} (hc : s.stand.cycle = some c) :
    (settled c cause s).fixed = s.fixed
      ∧ (settled c cause s).stand.cycle = some { c with cause := some cause, phase := .ending }
      ∧ (settled c cause s).labels = s.labels ∧ (settled c cause s).register = s.register := by
  obtain ⟨h1, h2, h3, h4⟩ := settleGroup_leaves c
    (spoilFrame c (releaseOps (onCycle (fun c => { c with cause := some cause, phase := .ending }) s)))
  obtain ⟨k1, k2, k3, k4⟩ := spoilFrame_leaves c
    (releaseOps (onCycle (fun c => { c with cause := some cause, phase := .ending }) s))
  refine ⟨(h1.trans k1).trans rfl, ?_, (h3.trans k3).trans rfl, (h4.trans k4).trans rfl⟩
  rw [settled, h2, k2]
  change (onCycle _ s).stand.cycle = _
  simp [onCycle, hc]

/-- A cycle that a reset finds live is settled and ends in the event. -/
theorem abort_reset_eq {s : State} {c : Cycle} (hc : s.stand.cycle = some c) (hcause : c.cause = none) :
    abort .reset (some .stopped) s = endCycle (setStandMode .stopped (settled c .reset s)) := by
  have hcyc : (setStandMode .stopped (settled c .reset s)).stand.cycle
      = some { c with cause := some .reset, phase := .ending } := (settled_leaves hc).2.1
  rw [abort, abortCycle_eq hc hcause, setModeIf, tryEndAborted]
  simp only [hcyc]

theorem resetCycle_eq {s : State} {c : Cycle} (hc : s.stand.cycle = some c) :
    resetCycle s = endCycle (setStandMode .stopped (if c.cause = none then settled c .reset s else s)) := by
  simp only [resetCycle, hc]
  split
  · rename_i h
    rw [if_neg (Option.isSome_iff_ne_none.1 h)]
  · rename_i h
    have hnone : c.cause = none := by simpa using h
    rw [if_pos hnone, abort_reset_eq hc hnone]

theorem resetCycle_of_none {s : State} (h : s.stand.cycle = none) : resetCycle s = s := by simp [resetCycle, h]

theorem resetCycle_cycle (s : State) : (resetCycle s).stand.cycle = none := by
  cases hc : s.stand.cycle with
  | none => rw [resetCycle_of_none hc, hc]
  | some c =>
    rw [resetCycle_eq hc]
    exact endCycle_cycle _

theorem resetCycle_fixed (s : State) : (resetCycle s).fixed = s.fixed := by
  cases hc : s.stand.cycle with
  | none => rw [resetCycle_of_none hc]
  | some c =>
    rw [resetCycle_eq hc, endCycle_fixed]
    change State.fixed (if c.cause = none then settled c .reset s else s) = s.fixed
    split
    · exact (settled_leaves hc).1
    · rfl

/-- The end of a cycle whose order has no cancel pending leaves the labels and the register. -/
theorem endCycle_rolls {s : State} (h : ∀ c, s.stand.cycle = some c → NoCancel c.order s) :
    (endCycle s).labels = s.labels ∧ (endCycle s).register = s.register := by
  cases hc : s.stand.cycle with
  | none => simp [endCycle, hc]
  | some c =>
    have hrel : (released c s).labels = s.labels ∧ (released c s).register = s.register := by
      obtain ⟨busy, heq⟩ := freePosition_eq c ((queueNotice (slideFinishedNotice s c) s).onStand fun t => { t with cycle := none })
      rw [released, heq]
      exact ⟨rfl, rfl⟩
    have hno : NoCancel c.order (released c s) := (h c hc).of_work (released_work c s)
    have hslide : NoCancel c.order (if groupComplete s c then
          onSlide c.order c.slide (fun x => { x with outcome := .shot, attempts := x.attempts + 1 }) (released c s)
        else released c s) := by
      split
      · intro o ho
        rw [onSlide, order?_onOrder _ _ _ _ (by exact fun _ => rfl), if_pos rfl] at ho
        obtain ⟨p, hp, rfl⟩ := Option.map_eq_some_iff.1 ho
        exact hno p hp
      · exact hno
    have hafter : ∀ t : State, (standAfterCycle t).labels = t.labels ∧ (standAfterCycle t).register = t.register := fun t => by
      unfold standAfterCycle
      split <;> exact ⟨rfl, rfl⟩
    have hmarks := takeMarks_sameBut hslide
    rw [endCycle_eq hc, (hafter _).1, (hafter _).2, takeReport, hmarks]
    constructor
    · split
      · exact hrel.1
      · exact hrel.1
    · split
      · exact hrel.2
      · exact hrel.2

theorem resetCycle_rolls {s : State} (h : ∀ c, s.stand.cycle = some c → NoCancel c.order s) :
    (resetCycle s).labels = s.labels ∧ (resetCycle s).register = s.register := by
  cases hc : s.stand.cycle with
  | none => simp [resetCycle_of_none hc]
  | some c =>
    obtain ⟨-, hcyc, hlab, hreg⟩ := settled_leaves (cause := .reset) hc
    rw [resetCycle_eq hc]
    by_cases hcause : c.cause = none
    · rw [if_pos hcause]
      obtain ⟨h1, h2⟩ := endCycle_rolls (s := setStandMode .stopped (settled c .reset s)) fun d hd => by
        cases hcyc.symm.trans hd
        refine (noCancel_settleGroup (c := c) (s := spoilFrame c _) ((h c hc).of_work ?_)).of_work rfl
        simp [onCycle]
      exact ⟨h1.trans hlab, h2.trans hreg⟩
    · rw [if_neg hcause]
      exact endCycle_rolls (s := setStandMode .stopped s) fun d hd => (h d hd).of_work rfl

end Sys2Proof.Machine
end

section
/-! SUPPORT. The stack emptied with its notices, and RESET STAND (R27, R115). -/

namespace Sys2Proof.Machine

/-! ## The stack emptied -/

/-- The notice of an order returned. -/
def returnNotices (s : State) (k : Nat) : List Notice :=
  match s.order? k with
  | none => []
  | some o => if o.state = returnState o then [] else [.orderChanged k (returnState o)]

theorem returnNotices_length (s : State) (k : Nat) : (returnNotices s k).length ≤ 1 := by
  unfold returnNotices
  split
  · exact Nat.zero_le 1
  · split
    · exact Nat.zero_le 1
    · exact le_refl 1

theorem releaseOne_notices {s : State} (hroom : s.link.notices.length < 16) (k : Nat) :
    (releaseOne k s).link.notices = s.link.notices ++ returnNotices s k := by
  unfold releaseOne returnNotices
  cases ho : s.order? k with
  | none => simp
  | some o =>
    simp only [setOrderState_eq ho]
    split
    · exact (List.append_nil _).symm
    · exact queueNotice_notices hroom

theorem returnNotices_releaseOne {s : State} {j k : Nat} (h : j ≠ k) : returnNotices (releaseOne k s) j = returnNotices s j := by
  have : (releaseOne k s).order? j = s.order? j := by
    unfold releaseOne
    split
    · rfl
    · rw [order?_setOrderState, if_neg h]
  simp only [returnNotices, this]

/-- Orders returned one after another, each with its notice. -/
theorem releaseAll_notices {ks : List Nat} {s : State} (hd : ks.Nodup) (hroom : s.link.notices.length + ks.length ≤ 16) :
    (ks.foldl (fun s k => releaseOne k s) s).link.notices = s.link.notices ++ ks.flatMap (returnNotices s) := by
  induction ks generalizing s with
  | nil => simp
  | cons k ks ih =>
    obtain ⟨hk, hks⟩ := List.nodup_cons.1 hd
    rw [List.length_cons] at hroom
    have h1 := releaseOne_notices (s := s) (by omega) k
    have hlen : (releaseOne k s).link.notices.length + ks.length ≤ 16 := by
      have := returnNotices_length s k
      rw [h1, List.length_append]
      omega
    have hrest : ks.flatMap (returnNotices (releaseOne k s)) = ks.flatMap (returnNotices s) :=
      List.flatMap_congr fun j hj => returnNotices_releaseOne fun h => hk (h ▸ hj)
    rw [List.foldl_cons, ih hks hlen, h1, List.flatMap_cons, hrest, List.append_assoc]

theorem sameBut_emptyStack (s : State) : SameBut s (emptyStack s) :=
  (sameBut_onWork _ s).trans (sameBut_foldl (fun s k => sameBut_releaseOne k s) _ _)

theorem emptyStack_stack (s : State) : (emptyStack s).work.stack = [] := by
  have key : ∀ (ks : List Nat) (t : State), t.work.stack = [] → (ks.foldl (fun s k => releaseOne k s) t).work.stack = [] := by
    intro ks
    induction ks with
    | nil => exact fun _ ht => ht
    | cons k ks ih => exact fun t ht => ih _ ((releaseOne_stack k t).trans ht)
  exact key _ _ rfl

/-! ## RESET STAND -/

/-- The state of a reset before its stack is emptied. -/
def beforeEmpty (s : State) : State := resetOps (resetCycle (resetFeeder s))

theorem resetEffect_eq (s : State) : resetEffect s = resetStand (emptyStack (beforeEmpty s)) := rfl

/-- What emptying the stack leaves of the state it begins on, with the stand and the lamp of a reset. -/
theorem resetEffect_blocks (s : State) :
    (resetEffect s).stand = { (beforeEmpty s).stand with mode := .stopped }
      ∧ (resetEffect s).head = { (beforeEmpty s).head with lamp := .off, idle := none }
      ∧ (resetEffect s).feeder = (beforeEmpty s).feeder ∧ (resetEffect s).film = (beforeEmpty s).film
      ∧ (resetEffect s).profiles = (beforeEmpty s).profiles ∧ (resetEffect s).labels = (beforeEmpty s).labels
      ∧ (resetEffect s).register = (beforeEmpty s).register ∧ (resetEffect s).tally = (beforeEmpty s).tally := by
  have h : ∀ u : State, resetStand u
      = { u with stand := { u.stand with mode := .stopped }, head := { u.head with lamp := .off, idle := none } } :=
    fun u => by rw [resetStand, setStandMode_idle (by exact nofun)]; rfl
  rw [resetEffect_eq, h, sameBut_emptyStack (beforeEmpty s)]
  exact ⟨rfl, rfl, rfl, rfl, rfl, rfl, rfl, rfl⟩

theorem resetEffect_work (s : State) : (resetEffect s).work = (emptyStack (beforeEmpty s)).work := by
  rw [resetEffect_eq, resetStand, onHead_work, setStandMode_work]

theorem beforeEmpty_fixed (s : State) : (beforeEmpty s).fixed = (resetFeeder s).fixed := resetCycle_fixed _

theorem resetEffect_mode (s : State) : (resetEffect s).stand.mode = .stopped := by rw [(resetEffect_blocks s).1]

theorem resetEffect_cycle (s : State) : (resetEffect s).stand.cycle = none := by
  rw [(resetEffect_blocks s).1]
  exact resetCycle_cycle _

/-- The event of RESET STAND ends without a choice. -/
theorem reset_eventEnd (s : State) : eventEnd false s (resetEffect s) = standEnd s (resetEffect s) := by
  have : runChoice (resetEffect s) = resetEffect s := by
    rw [runChoice, if_neg]
    simp [choiceAllowed, resetEffect_mode]
  rw [eventEnd, this, ite_self]

/-- STAND CHANGED changes the link alone. -/
theorem standEnd_sameBut (s t : State) : SameBut t (standEnd s t) := by
  unfold standEnd
  split
  · exact .refl t
  · exact sameBut_queueNotice _ t

/-- The release of RESET STAND as a return by state, order by order. -/
theorem release_eq {release : State → Nat → State}
    (h : ∀ (u : State) (k : Nat), (u.order? k = none → release u k = u)
      ∧ ∀ o, u.order? k = some o →
          release u k = setOrderState k (if (nextSlide o).isSome then .pending else .exposed) none u) :
    release = fun u k => releaseOne k u := by
  funext u k
  cases ho : u.order? k with
  | none => rw [(h u k).1 ho]; simp [releaseOne, ho]
  | some o => rw [(h u k).2 o ho]; simp [releaseOne, ho, returnState]

/-- What RESET STAND answers: the slide of a live cycle. -/
theorem liveCycle_fields {s : State} {fields : List Field}
    (h1 : ∀ c, s.stand.cycle = some c → c.cause = none → fields = [.u 1 1, .u 2 c.order, .u 1 c.slide])
    (h2 : (∀ c, s.stand.cycle = some c → c.cause ≠ none) → fields = [.u 1 0]) :
    optFields Cycle.slideFields (liveCycle s) = fields := by
  unfold liveCycle
  cases hc : s.stand.cycle with
  | none =>
    rw [h2 fun c h => by rw [hc] at h; cases h]
    rfl
  | some c =>
    cases hcause : c.cause with
    | none =>
      rw [h1 c hc hcause]
      simp [Option.filter, hcause, optFields, Cycle.slideFields]
    | some x =>
      rw [h2 fun d hd => by rw [hc] at hd; cases hd; simp [hcause]]
      simp [Option.filter, hcause, optFields]

theorem exec_resetStand {s : State} (hf : LinkFree s) :
    exec .resetStand s = .next
      (replied (acceptedMsg 0x29 false (optFields Cycle.slideFields (liveCycle s)))
        (fun s => eventEnd false s (resetEffect s)) s) :=
  exec_replied rfl hf (answer_accepted (refusal := none) (s := hunting s) rfl)

/-- The notices of a reset with no cycle in flight: the orders of the stack returned, then STAND CHANGED. -/
theorem reset_notices {s : State} (hc : s.stand.cycle = none) (hd : s.work.stack.Nodup)
    (hroom : s.link.notices.length + s.work.stack.length < 16) :
    (standEnd s (resetEffect s)).link.notices
      = s.link.notices ++ s.work.stack.flatMap (returnNotices s)
        ++ (if s.stand.mode = .stopped ∧ s.head.lamp = .off then []
            else [.standChanged .stopped .off s.feeder.present]) := by
  have hnone : (resetFeeder s).stand.cycle = none := hc
  have hbefore : beforeEmpty s = resetOps (resetFeeder s) := by rw [beforeEmpty, resetCycle_of_none hnone]
  have hstack : (resetEffect s).link.notices = s.link.notices ++ s.work.stack.flatMap (returnNotices s) := by
    rw [resetEffect_eq, hbefore]
    exact releaseAll_notices (s := (resetOps (resetFeeder s)).onWork fun w => { w with stack := [] }) hd hroom.le
  have hlen : ((s.work.stack.flatMap (returnNotices s)).length) ≤ s.work.stack.length := by
    rw [List.length_flatMap]
    refine (List.sum_le_card_nsmul _ 1 ?_).trans (by simp)
    intro n hn
    obtain ⟨k, -, rfl⟩ := List.mem_map.1 hn
    exact returnNotices_length s k
  have hmode := resetEffect_mode s
  have hlamp : (resetEffect s).head.lamp = .off := by rw [(resetEffect_blocks s).2.1]
  have hpresent : (resetEffect s).feeder.present = s.feeder.present := by
    rw [(resetEffect_blocks s).2.2.1]
    exact congrArg Fixed.present (beforeEmpty_fixed s)
  by_cases hsame : s.stand.mode = .stopped ∧ s.head.lamp = .off
  · rw [if_pos hsame, List.append_nil, standEnd, if_pos ⟨hsame.1.trans hmode.symm, hsame.2.trans hlamp.symm, hpresent.symm⟩, hstack]
  · have hno : ¬(s.stand.mode = (resetEffect s).stand.mode ∧ s.head.lamp = (resetEffect s).head.lamp
        ∧ s.feeder.present = (resetEffect s).feeder.present) := fun h =>
      hsame ⟨h.1.trans hmode, h.2.1.trans hlamp⟩
    rw [if_neg hsame, standEnd, if_neg hno, queueNotice_notices (by rw [hstack, List.length_append]; omega), hstack, standNotice,
      hmode, hlamp, hpresent]

/-- The state at the end of RESET STAND's event. -/
def resetEnd (s : State) : State := standEnd s (resetEffect s)

theorem resetEnd_eq (s : State) : resetEnd s = { resetEffect s with link := (resetEnd s).link } := by
  have h := standEnd_sameBut s (resetEffect s)
  have hw : (standEnd s (resetEffect s)).work = (resetEffect s).work := standEnd_work _ _
  rw [resetEnd]
  conv_lhs => rw [h]
  rw [hw]

/-- The stand, the feeder, the light head and the film after a reset: nothing of a cycle left. -/
theorem resetEnd_stopped (s : State) :
    (resetEnd s).stand.mode = .stopped ∧ (resetEnd s).stand.cycle = none ∧ (resetEnd s).head.lamp = .off
      ∧ (resetEnd s).head.idle = none ∧ (resetEnd s).work.stack = [] ∧ (resetEnd s).feeder.waiting = []
      ∧ (∀ o ∈ (resetEnd s).feeder.op, o.stale = true ∧ o.ofCycle = false)
      ∧ (resetEnd s).head.ndWaiting = [] ∧ (∀ o ∈ (resetEnd s).head.ndOp, o.stale = true ∧ o.ofCycle = false)
      ∧ (∀ o ∈ (resetEnd s).head.meter, o.stale = true ∧ o.ofCycle = false)
      ∧ (resetEnd s).film.swapWaiting = [] ∧ ∀ o ∈ (resetEnd s).film.swap, o.stale = true ∧ o.ofCycle = false := by
  obtain ⟨-, hhead, hfeeder, hfilm, -⟩ := resetEffect_blocks s
  rw [resetEnd_eq s]
  simp only [hhead, hfeeder, hfilm, resetEffect_work, emptyStack_stack]
  refine ⟨resetEffect_mode s, resetEffect_cycle s, trivial, trivial, trivial, rfl, fun o ho => ?_, rfl, fun o ho => ?_, fun o ho => ?_,
    rfl, fun o ho => ?_⟩ <;>
    · obtain ⟨p, -, rfl⟩ := Option.map_eq_some_iff.1 ho
      exact ⟨rfl, rfl⟩

theorem resetEnd_fixed (s : State) : (resetEnd s).fixed = (resetFeeder s).fixed := by
  obtain ⟨-, hhead, hfeeder, hfilm, hprofiles, hlabels, -⟩ := resetEffect_blocks s
  rw [← beforeEmpty_fixed s, resetEnd_eq s]
  simp only [State.fixed, hhead, hfeeder, hfilm, hprofiles, hlabels]

/-- With no cycle in flight a reset returns the orders of the stack and leaves the backs and the tally. -/
theorem resetEnd_of_none {s : State} (hc : s.stand.cycle = none) :
    (∀ b, (resetEnd s).back b = s.back b) ∧ (resetEnd s).tally = s.tally
      ∧ (NumbersDistinct s → (resetEnd s).work.orders
          = s.work.orders.map fun o => if o.number ∈ s.work.stack then o.returned else o) := by
  obtain ⟨-, -, -, hfilm, -, -, -, htally⟩ := resetEffect_blocks s
  have hbefore : beforeEmpty s = resetOps (resetFeeder s) := by
    rw [beforeEmpty, resetCycle_of_none (s := resetFeeder s) hc]
  have hwork : (resetEnd s).work = (emptyStack (beforeEmpty s)).work := (standEnd_work _ _).trans (resetEffect_work s)
  refine ⟨fun b => ?_, ?_, fun hd => ?_⟩
  · have hbacks : (resetEnd s).film = (beforeEmpty s).film := by rw [resetEnd_eq s]; exact hfilm
    cases b
    · exact (congrArg Film.backA hbacks).trans (by rw [hbefore]; rfl)
    · exact (congrArg Film.backB hbacks).trans (by rw [hbefore]; rfl)
  · have : (resetEnd s).tally = (beforeEmpty s).tally := by rw [resetEnd_eq s]; exact htally
    rw [this, hbefore]
    rfl
  · rw [hwork, hbefore]
    exact releaseAll_orders s.work.stack (s := (resetOps (resetFeeder s)).onWork fun w => { w with stack := [] }) hd

/-- With no cancel pending for the order of the cycle a reset leaves the labels and the register. -/
theorem resetEnd_rolls {s : State} (h : ∀ c, s.stand.cycle = some c → NoCancel c.order s) :
    (resetEnd s).labels = s.labels ∧ (resetEnd s).register = s.register := by
  obtain ⟨-, -, -, -, -, hlabels, hregister, -⟩ := resetEffect_blocks s
  obtain ⟨h1, h2⟩ := resetCycle_rolls (s := resetFeeder s) fun c hc => (h c hc).of_work rfl
  rw [resetEnd_eq s]
  exact ⟨hlabels.trans h1, hregister.trans h2⟩

/-- A field that no elementary change touches is as it was after a reset. -/
theorem resetEnd_same {α : Type} {field : State → α} (hm : ∀ a b, Move a b → field b = field a) (s : State) :
    field (resetEnd s) = field s :=
  ((resetEffect_moves s).trans (standEnd_moves s _)).keeps (P := fun t => field t = field s)
    (fun a b hab ha => (hm a b hab).trans ha) rfl

/-- Settles O37: ABORT SLIDE, RESET STAND step by step, its notices and what it leaves. -/
theorem abortSlideAndResetStand : Obligations.AbortSlideAndResetStand := by
  intro s hf
  have hrefusal : abortRefusal s = none ↔ AtWork s ∧ ∃ c, s.stand.cycle = some c ∧ c.cause = none := by
    cases hc : s.stand.cycle <;> simp [abortRefusal, liveCycle, AtWork, hc]
  refine ⟨fun h => ?_, fun c hw hc hcause => ?_, fun fields feeder cycle operations stack stand release h1 h2 hfeeder hcycle hops
    hrel hstack hstand => ?_, ?_⟩
  · have : abortRefusal s = some .state := by
      have hno : abortRefusal s ≠ none := fun hn => by
        obtain ⟨hw, c, hc, hcause⟩ := hrefusal.1 hn
        rcases h with h | h
        · exact h hw
        · exact h c hc hcause
      unfold abortRefusal at hno ⊢
      rw [firstFailing_cons] at hno ⊢
      split at hno
      · exact absurd rfl hno
      · rename_i h
        rw [if_neg h]
    exact exec_refused rfl hf (answer_refused this)
  · have hfields : ((liveCycle (hunting s)).map Cycle.slideFields).getD [] = [.u 2 c.order, .u 1 c.slide] := by
      simp [liveCycle, hc, hcause, Option.filter, Cycle.slideFields]
    refine exec_replied rfl hf ((answer_accepted (show abortRefusal s = none from hrefusal.2 ⟨hw, c, hc, hcause⟩)).trans ?_)
    rw [hfields]
  · have hchain : (fun u => eventEnd false u (stand (stack (operations (cycle (feeder u)))))) = fun u => eventEnd false u (resetEffect u) := by
      have hfeeder' : feeder = resetFeeder := funext fun u => (hfeeder u).trans rfl
      have hcycle' : cycle = resetCycle := funext fun u => by
        obtain ⟨hnone, hsome⟩ := hcycle u
        cases hc : u.stand.cycle with
        | none => rw [hnone hc, resetCycle_of_none hc]
        | some c =>
          obtain ⟨hlive, hended⟩ := hsome c hc
          by_cases hcause : c.cause = none
          · rw [hlive hcause, resetCycle_eq hc, if_pos hcause, abort_reset_eq hc hcause]
          · rw [hended hcause, resetCycle_eq hc, if_neg hcause, setStandMode_idle (by exact nofun)]
      have hops' : operations = resetOps := funext fun u => (hops u).trans rfl
      have hstack' : stack = emptyStack := funext fun u => by rw [hstack u, release_eq hrel]; rfl
      have hstand' : stand = resetStand := funext fun u => by
        rw [hstand u, resetStand, setStandMode_idle (by exact nofun)]
        rfl
      rw [hfeeder', hcycle', hops', hstack', hstand']
      rfl
    rw [exec_resetStand hf, liveCycle_fields h1 h2, hchain]
  · obtain ⟨hmode, hcyc, hlamp, hidle, hst, hwaiting, hop, hndw, hnd, hmeter, hsw, hswap⟩ := resetEnd_stopped (hunting s)
    have hfix := resetEnd_fixed (hunting s)
    have hgate : (resetEnd (hunting s)).feeder.gate = (resetFeeder s).feeder.gate := congrArg Fixed.gate hfix
    refine ⟨_, exec_resetStand hf, ?_⟩
    have hend : replied (acceptedMsg 0x29 false (optFields Cycle.slideFields (liveCycle s)))
          (fun s => eventEnd false s (resetEffect s)) s
        = placeReply (acceptedMsg 0x29 false (optFields Cycle.slideFields (liveCycle s))) (resetEnd (hunting s)) := by
      rw [resetEnd, ← reset_eventEnd]
      rfl
    rw [hend]
    refine ⟨fun c hc hcause => ?_, fun h => ?_, hmode, hcyc, hlamp, hidle, hst, congrArg Fixed.pos hfix, congrArg Fixed.gateSense hfix,
      fun p x hg => ?_, fun hg => ?_, hwaiting, hop, hndw, hnd, hmeter, hsw, hswap, fun hc hd => ?_,
      fun back hback hc hd hroom => ?_, resetEnd_same Move.floor_same _, resetEnd_same Move.placeSeq_same _,
      resetEnd_same Move.stocks_same _, congrArg Fixed.profiles hfix, resetEnd_same Move.map_same _, congrArg Fixed.present hfix,
      congrArg Fixed.nd hfix, congrArg Fixed.readings hfix, congrArg Fixed.turret hfix, resetEnd_same Move.settings_same _, ?_,
      ?_, ?_, fun b => ?_, fun h => ?_, fun hc => ?_, ?_⟩
    · rw [placeReply_link, liveCycle_fields (s := s) (fields := [.u 1 1, .u 2 c.order, .u 1 c.slide])
        (fun d hd _ => by rw [hc] at hd; cases hd; rfl) fun h => absurd hcause (h c hc)]
    · rw [placeReply_link, liveCycle_fields (s := s) (fields := [.u 1 0]) (fun c hc hcause => absurd hcause (h c hc)) fun _ => rfl]
    · rw [placeReply_feeder, hgate, resetFeeder]
      simp [hg]
    · rw [placeReply_feeder, hgate, resetFeeder]
      cases hgate : s.feeder.gate with
      | holds p x => exact absurd hgate (hg p x)
      | empty => simp [hgate]
      | foreign => simp [hgate]
    · exact (resetEnd_of_none (s := hunting s) hc).2.2 hd
    · have hnotices := reset_notices (s := hunting s) hc hd hroom
      have hflat : ∀ a b c : List Notice, List.flatten [a, b, c] = a ++ b ++ c := fun a b c => by simp
      change (resetEnd (hunting s)).link.notices = _
      rw [resetEnd, hnotices, hflat]
      congr 2
      refine List.flatMap_congr fun k _ => ?_
      rw [returnNotices, hunting_order?, hback k]
      cases s.order? k with
      | none => rfl
      | some o => exact if_congr (by simp [returnState]) rfl rfl
    · exact congrArg (fun u : LabelUnit => { u with records := (resetEnd (hunting s)).labels.records }) (congrArg Fixed.labels hfix)
    · exact resetEnd_same (fun a b h => (Move.rollSeqs_same a b h).1) (hunting s)
    · exact resetEnd_same (fun a b h => (Move.rollSeqs_same a b h).2) (hunting s)
    · cases b
      · exact congrArg Fixed.backA hfix
      · exact congrArg Fixed.backB hfix
    · exact resetEnd_rolls (s := hunting s) fun c hc o ho => h c o hc ho
    · obtain ⟨hbacks, htally, -⟩ := resetEnd_of_none (s := hunting s) hc
      exact ⟨hbacks, htally⟩
    · have hrates := resetEnd_same Move.rates_same (hunting s)
      have hperiod := resetEnd_same Move.period_same (hunting s)
      simp only [Prod.mk.injEq] at hrates ⊢
      exact ⟨hrates.1, hrates.2.1, hrates.2.2, hperiod⟩

end Sys2Proof.Machine
end

section
/-! SUPPORT. The forms of fields, and what power-on leaves (R26, R193, R198, R200). -/

namespace Sys2Proof.Machine

/-! ## Forms of fields -/

theorem optU_eq (n : Nat) (x : Option Nat) : optU n x = match x with | none => [.u 1 0] | some v => [.u 1 1, .u n v] := by
  cases x <;> rfl

theorem optFields_eq {α : Type} (f : α → List Field) (x : Option α) :
    optFields f x = match x with | none => [.u 1 0] | some v => .u 1 1 :: f v := by cases x <;> rfl

/-- Settles O5: every form is written out case by case. -/
theorem formsOfFields : Obligations.FormsOfFields := by
  refine ⟨⟨fun _ => rfl, optU_eq, fun _ => optFields_eq, fun _ _ _ => rfl⟩, ?_, ?_, ?_, ?_⟩
  · exact ⟨rfl, rfl, rfl, rfl, rfl, rfl, rfl, rfl, fun _ _ => rfl, rfl, rfl, rfl, rfl, rfl, rfl, rfl, rfl, rfl, rfl⟩
  · exact ⟨rfl, fun _ => rfl, fun _ => rfl, rfl, fun _ => ⟨rfl, rfl⟩, rfl, fun _ _ => ⟨rfl, rfl, rfl⟩, rfl, rfl, fun _ _ => rfl,
      rfl, rfl, fun _ => rfl, rfl, rfl, fun _ => rfl, rfl, rfl, fun _ => rfl⟩
  · refine ⟨fun c => ?_, fun _ => rfl, fun _ => rfl, rfl, rfl, fun e => ?_, fun _ => rfl⟩
    · simp [Counter.fields, yesNo]
    · cases h : e.last <;> simp [originalFields, yesNo, optFields, h]
  · intro n
    cases n with
    | slideFinished order slide cat attempt back roll first cause => cases cause <;> simp [Notice.kind, Notice.fields]
    | backChanged back state roll =>
      cases roll with
      | none => simp [Notice.kind, Notice.fields]
      | some r => rfl
    | printerChanged line head =>
      cases head <;> simp [Notice.kind, Notice.fields, optFields, LabelKey.fields]
    | _ => rfl

/-! ## Power-on -/

/-- An entry of a table all of whose entries are the same. -/
theorem getElem?_replicate_getD {α : Type} {n k : Nat} (x d : α) (h : k < n) : ((Vector.replicate n x)[k]?).getD d = x := by
  rw [Vector.getElem?_eq_getElem h, Vector.getElem_replicate, Option.getD_some]

theorem join_replicate_none {α : Type} {n k : Nat} : ((Vector.replicate n (none : Option α))[k]?).join = none := by
  by_cases h : k < n
  · rw [Vector.getElem?_eq_getElem h, Vector.getElem_replicate]
    rfl
  · rw [Vector.getElem?_eq_none (by omega)]
    rfl

/-- Settles O12: the values of every block after power-on. -/
theorem powerOnValues : Obligations.PowerOnValues := by
  refine ⟨fun strap1 strap0 traySense gateSense s => ⟨_, rfl, ?_⟩, rfl⟩
  have hrate : strapRate strap1 strap0 = 2 * strap1.toNat + strap0.toNat := by cases strap1 <;> cases strap0 <;> rfl
  rw [← hrate]
  exact ⟨rfl, fun k hk => getElem?_replicate_getD _ _ hk, fun _ _ => join_replicate_none, fun _ _ => join_replicate_none, rfl,
    fun _ _ => join_replicate_none, rfl, rfl, rfl, rfl, rfl, rfl, rfl, rfl,
    fun b => by cases b <;> exact ⟨rfl, rfl, rfl, rfl, rfl, rfl⟩, rfl, rfl, rfl, rfl, rfl, rfl, rfl, rfl, rfl,
    fun _ _ => join_replicate_none, rfl, rfl, rfl, rfl, rfl, rfl, rfl, rfl, rfl,
    fun k hk => getElem?_replicate_getD _ _ hk, rfl, rfl, rfl, rfl, rfl, rfl⟩

theorem reset_slotRoll? (k : Nat) : State.reset.slotRoll? k = none := join_replicate_none

theorem reset_mapAt (p : Nat) : State.reset.mapAt p = none := join_replicate_none

theorem reset_allRolls : State.reset.allRolls = [] := by
  have : State.reset.register.toList.filterMap id = [] := by
    rw [List.filterMap_eq_nil_iff]
    intro x hx
    exact (List.eq_of_mem_replicate (n := 8) (a := none) (by simpa [State.reset, State.initial] using hx))
  rw [State.allRolls, this]
  rfl

theorem reset_labelsWith (st : LabelState) : labelsWith st State.reset = [] := by
  have : State.reset.registerOrder = [] := by
    have hno : ((List.range 8).filterMap fun k => (State.reset.slotRoll? k).map fun r => (k, r)) = [] := by
      rw [List.filterMap_eq_nil_iff]
      intro k _
      rw [reset_slotRoll?]
      rfl
    rw [State.registerOrder, hno]
    rfl
  rw [labelsWith, this]
  rfl

theorem reset_counter {k : Nat} (hk : k < 16) : counterAt State.reset.tally.counters k = Counter.initial :=
  getElem?_replicate_getD _ _ hk

theorem reset_profilesSound : ProfilesSound State.reset := by
  have horiginals : ∀ k, State.reset.profiles.original? k = none := fun _ => join_replicate_none
  have hranges : ∀ k, State.reset.profiles.range? k = none := fun _ => join_replicate_none
  refine ⟨fun k _ e he => ?_, fun k _ r hr => ?_, nofun, fun j _ k _ x hx => ?_⟩
  · rw [horiginals] at he; cases he
  · rw [hranges] at hr; cases hr
  · rw [horiginals] at hx; cases hx

theorem reset_feederSound : FeederSound State.reset := by
  refine ⟨⟨fun _ => rfl, fun _ => rfl⟩, fun p _ x hx => ?_, fun p _ q _ x hx => ?_, fun _ p _ => reset_mapAt p⟩
  · rw [reset_mapAt] at hx; cases hx
  · rw [reset_mapAt] at hx; cases hx

theorem reset_rollsSound : RollsSound State.reset := by
  rw [RollsSound, reset_allRolls]
  exact ⟨nofun, List.nodup_nil, ⟨fun _ => rfl, fun _ => rfl⟩, ⟨fun _ => rfl, fun _ => rfl⟩⟩

theorem reset_filmLogSound : FilmLogSound State.reset := by
  have hcycle : State.reset.stand.cycle = none := rfl
  have hmeter : State.reset.head.meter = none := rfl
  have hexpose : State.reset.stand.expose = none := rfl
  have horders : State.reset.work.orders = [] := rfl
  rw [FilmLogSound, reset_allRolls, hcycle, hmeter, hexpose, horders]
  refine ⟨fun r hr => ?_, fun o ho => ?_, fun c hc => ?_, fun h => absurd rfl h, fun m hm => ?_, fun r hr => ?_⟩
  · cases hr
  · cases ho
  · cases hc
  · cases hm
  · cases hr

theorem reset_tallySound : TallySound State.reset := by
  refine ⟨fun k hk => ?_, Nat.zero_le _, by decide, by decide, Nat.zero_le _, Nat.zero_le _⟩
  rw [reset_counter hk]
  exact ⟨Nat.zero_le _, Nat.zero_le _, nofun, nofun, by decide⟩

theorem reset_labelsSound : LabelsSound State.reset := by
  have hback : ∀ b, (State.reset.back b).roll = none := fun b => by cases b <;> rfl
  refine ⟨fun k _ r hr => ?_, fun b r hr => ?_, List.nodup_nil, fun k => ?_, List.Pairwise.nil, fun h => ?_, nofun, nofun, ?_⟩
  · rw [reset_slotRoll?] at hr; cases hr
  · rw [hback] at hr; cases hr
  · rw [reset_labelsWith]; exact Iff.rfl
  · rw [reset_labelsWith] at h; exact absurd rfl h
  · rintro (h | ⟨_, h⟩) <;> cases h

/-- Settles O13: at reset there is no order, no entry, no roll and no label, and every setting is in its range. -/
theorem resetIsSound : Obligations.ResetIsSound :=
  ⟨.initial 0 false false, ⟨nofun, nofun, nofun⟩, reset_profilesSound, reset_feederSound, reset_rollsSound, reset_filmLogSound,
    reset_tallySound, by decide, reset_labelsSound, by decide⟩

end Sys2Proof.Machine
end

section
/-! SUPPORT. The requests on the tally unit: SET RATES, SET COUNTER, LOCK COUNTER, CLOSE PERIOD (R169, R179, R180, R182). -/

namespace Sys2Proof.Machine

/-! ## Counters -/

/-- A counter of a table each of whose counters is changed alike. -/
theorem counterAt_mapVec (f : Counter → Counter) (v : Vector Counter 16) {k : Nat} (hk : k < 16) :
    counterAt (mapVec f v) k = f (counterAt v k) := by
  have h1 : (mapVec f v)[k]? = some (f v[k]) := by
    rw [mapVec_eq_map, Vector.getElem?_map, Vector.getElem?_eq_getElem hk]
    rfl
  rw [counterAt, counterAt, h1, Vector.getElem?_eq_getElem hk]
  rfl

theorem okWord_iff {x : Nat} : okWord x = true ↔ x ≤ 4294967295 := decide_eq_true_iff

theorem optionAll_okWord_iff {x : Option Nat} : x.all okWord = true ↔ ∀ v ∈ x, v ≤ 4294967295 := by
  cases x <;> simp [okWord_iff]

/-- The ranges of a SET COUNTER, spelled out (R179, test 1). -/
theorem okCounter_iff (q : CounterReq) :
    okCounter q = true ↔
      q.counter ≤ 15 ∧ q.mask.toNat < 512 ∧ (q.mask.getLsbD 0 = true → q.enabled ≤ 1)
        ∧ (q.mask.getLsbD 1 = true → q.kinds ≤ 15) ∧ (q.mask.getLsbD 2 = true → q.acctMatch ≤ 65535)
        ∧ (q.mask.getLsbD 3 = true → q.acctMask ≤ 65535) ∧ (q.mask.getLsbD 4 = true → q.stocks ≤ 15)
        ∧ (q.mask.getLsbD 5 = true → ∀ v ∈ q.ceiling, v ≤ 4294967295) ∧ (q.mask.getLsbD 6 = true → ∀ v ∈ q.level, v ≤ 4294967295)
        ∧ (q.mask.getLsbD 7 = true → q.note ≤ 4294967295) ∧ (q.mask.getLsbD 8 = true → q.total ≤ 4294967295) := by
  simp only [okCounter, Bool.and_eq_true, okIf_iff, decide_eq_true_eq, optionAll_okWord_iff, okWord_iff, and_assoc]

theorem crossedAnew_iff {level : Option Nat} {total : Nat} :
    crossedAnew level total = true ↔ ∃ l, level = some l ∧ l ≤ total := by
  cases level <;> simp [crossedAnew]

theorem ceilingEased_iff {a b : Option Nat} :
    ceilingEased a b = true ↔ ∃ x, a = some x ∧ (b = none ∨ ∃ y, b = some y ∧ x < y) := by
  cases a <;> cases b <;> simp [ceilingEased]

/-- What makes a SET COUNTER release the CEILING holds, spelled out (R23, R179). -/
theorem counterReleases_iff {old new : Counter} :
    counterReleases old new = true ↔
      (∃ a, old.ceiling = some a ∧ (new.ceiling = none ∨ ∃ b, new.ceiling = some b ∧ a < b)) ∨ new.total < old.total
        ∨ (old.ceiling.isSome = true ∧ ((old.enabled = true ∧ new.enabled = false) ∨ old.kinds ≠ new.kinds
            ∨ old.acctMatch ≠ new.acctMatch ∨ old.acctMask ≠ new.acctMask ∨ old.stocks ≠ new.stocks)) := by
  simp only [counterReleases, Bool.or_eq_true, Bool.and_eq_true, ceilingEased_iff, decide_eq_true_eq, Bool.not_eq_true', bne_iff_ne,
    or_assoc]

theorem counter_eq_of_fields {a b : Counter} (h1 : a.enabled = b.enabled) (h2 : a.kinds = b.kinds)
    (h3 : a.acctMatch = b.acctMatch) (h4 : a.acctMask = b.acctMask) (h5 : a.stocks = b.stocks) (h6 : a.total = b.total)
    (h7 : a.ceiling = b.ceiling) (h8 : a.level = b.level) (h9 : a.note = b.note) (h10 : a.crossed = b.crossed)
    (h11 : a.locked = b.locked) : a = b := by
  cases a
  cases b
  simp_all

/-- The mark of a counter set anew with its level or total, and kept else (R179). -/
theorem setCounter_crossed {q : CounterReq} {old new : Counter} (hlevel : new.level = (setCounter q old).level)
    (htotal : new.total = (setCounter q old).total)
    (hanew : (q.mask.getLsbD 6 = true ∨ q.mask.getLsbD 8 = true) → (new.crossed = true ↔ ∃ l, new.level = some l ∧ l ≤ new.total))
    (hkept : q.mask.getLsbD 6 = false → q.mask.getLsbD 8 = false → new.crossed = old.crossed) :
    new.crossed = (setCounter q old).crossed := by
  by_cases hm : q.mask.getLsbD 6 = true ∨ q.mask.getLsbD 8 = true
  · have : (setCounter q old).crossed = crossedAnew (setCounter q old).level (setCounter q old).total := by
      simp only [setCounter]
      rw [if_pos (by simpa using hm)]
    rw [Bool.eq_iff_iff, hanew hm, this, crossedAnew_iff, hlevel, htotal]
  · rw [not_or, Bool.not_eq_true, Bool.not_eq_true] at hm
    obtain ⟨h6, h8⟩ := hm
    rw [hkept h6 h8, setCounter, h6, h8]
    rfl

/-- Settles O43: SET RATES, LOCK COUNTER, CLOSE PERIOD, and SET COUNTER with the counter it makes. -/
theorem tallyRequests : Obligations.TallyRequests := by
  refine ⟨fun s hf => ⟨fun mount threshold surcharge inRange hrange => ⟨fun h => ?_, fun h => ?_⟩, fun k => ⟨fun h => ?_, fun h => ?_⟩,
    mapVec Counter.closed s.tally.counters, fun k hk => counterAt_mapVec _ _ hk,
    exec_replied rfl hf (answer_accepted (refusal := none) (s := hunting s) rfl)⟩,
    fun q s inRange eased old new hf hold hrange h1 h2 h3 h4 h5 h6 h7 h8 h9 hanew hkept hlocked heased => ?_⟩
  · have hr : ¬(decide (mount ≤ 9999) && inNat 8 15 threshold && decide (surcharge ≤ 9999)) = true := by
      simpa only [Bool.and_eq_true, inNat_iff, decide_eq_true_eq, and_assoc] using mt hrange.2 h
    exact exec_refused rfl hf (answer_refused (by rw [firstFailing_cons, if_neg hr]))
  · have hr : (decide (mount ≤ 9999) && inNat 8 15 threshold && decide (surcharge ≤ 9999)) = true := by
      simpa only [Bool.and_eq_true, inNat_iff, decide_eq_true_eq, and_assoc] using hrange.1 h
    exact exec_replied rfl hf (answer_accepted (by rw [firstFailing_cons, if_pos hr, firstFailing_nil]))
  · exact exec_refused rfl hf (answer_refused (by simp [Nat.not_le.2 h]))
  · exact exec_replied rfl hf (answer_accepted (by simp [h]))
  · have hnew : new = setCounter q old := by
      have hen : new.enabled = (setCounter q old).enabled := by
        have hne : decide (q.enabled ≠ 0) = (q.enabled != 0) := by rw [Bool.eq_iff_iff]; simp
        rw [h1, hne]
        rfl
      exact counter_eq_of_fields hen h2 h3 h4 h5 h9 h6 h7 h8 (setCounter_crossed h7 h9 hanew hkept) hlocked
    have hrange := hrange.trans (okCounter_iff q).symm
    have heased := heased.trans counterReleases_iff.symm
    have hmatch : (setCounter q old).matchOk = true ↔ new.acctMatch &&& ~~~new.acctMask = 0#16 := by
      rw [hnew]
      simp [Counter.matchOk]
    have hold' : counterAt (hunting s).tally.counters q.counter = old := hold.symm
    refine ⟨fun h => ?_, fun hr hm hl => ?_, fun hr hm hl set hset => ?_⟩
    · have hrefusal : setCounterRefusal q old = some .range := by
        rw [setCounterRefusal, firstFailing_cons]
        by_cases hr : inRange
        · have hm : ¬(setCounter q old).matchOk = true := mt hmatch.1 (h.resolve_left (not_not.2 hr))
          rw [if_pos (hrange.1 hr), firstFailing_cons, if_neg hm]
        · rw [if_neg (mt hrange.2 hr)]
      exact exec_refused rfl hf (answer_refused (by rw [hold', hrefusal]))
    · have hrefusal : setCounterRefusal q old = some .locked := by
        rw [setCounterRefusal, firstFailing_cons, if_pos (hrange.1 hr), firstFailing_cons, if_pos (hmatch.2 hm), hl]
        rfl
      exact exec_refused rfl hf (answer_refused (by rw [hold', hrefusal]))
    · have hrefusal : setCounterRefusal q old = none := by
        rw [setCounterRefusal, firstFailing_cons, if_pos (hrange.1 hr), firstFailing_cons, if_pos (hmatch.2 hm), hl]
        rfl
      have heffect : setCounterEffect q (hunting s)
          = if counterReleases old new then releaseCeiling (set (hunting s)) else set (hunting s) := by
        have hset' : (hunting s).onTally (fun t =>
              { t with counters := t.counters.setIfInBounds q.counter (setCounter q (counterAt t.counters q.counter)) })
            = set (hunting s) := by
          rw [hset, hnew, hold]
          rfl
        rw [setCounterEffect, hold', hset', hnew]
      constructor
      · intro he
        refine exec_replied rfl hf ((answer_accepted (by rw [hold', hrefusal])).trans ?_)
        rw [heffect, if_pos (heased.1 he), hold', ← hnew]
      · intro he
        refine exec_replied rfl hf ((answer_accepted (by rw [hold', hrefusal])).trans ?_)
        rw [heffect, if_neg (mt heased.2 he), hold', ← hnew]

end Sys2Proof.Machine
end

section
/-! SUPPORT. The slots of the register, and operations that neither read nor write it; CLOSE ROLL and the close test (R138 to R143). -/

namespace Sys2Proof.Machine

/-! ## The slots of the register -/

theorem slotRoll?_of_lt {s : State} {k : Nat} (hk : k < 8) : s.slotRoll? k = s.register[k] := by
  rw [State.slotRoll?, Vector.getElem?_eq_getElem hk]
  rfl

theorem lt_of_slotRoll? {s : State} {k : Nat} {r : Roll} (h : s.slotRoll? k = some r) : k < 8 := by
  by_contra hk
  rw [State.slotRoll?, Vector.getElem?_eq_none (by omega)] at h
  cases h

theorem slotOf?_eq (s : State) (roll : Nat) :
    s.slotOf? roll = s.register.toList.findIdx? fun x => x.any fun r => r.id == roll := by
  unfold State.slotOf?
  congr 1
  funext x
  cases x <;> rfl

theorem any_id_iff {x : Option Roll} {roll : Nat} : (x.any fun r => r.id == roll) = true ↔ ∃ r, x = some r ∧ r.id = roll := by
  cases x <;> simp

/-- The slot of a roll id is the first whose record has it. -/
theorem slotOf?_eq_some_iff {s : State} {roll k : Nat} :
    s.slotOf? roll = some k ↔
      (∃ r, s.slotRoll? k = some r ∧ r.id = roll) ∧ ∀ j < k, ∀ q, s.slotRoll? j = some q → q.id ≠ roll := by
  rw [slotOf?_eq, List.findIdx?_eq_some_iff_getElem]
  constructor
  · rintro ⟨hk, hr, hmin⟩
    have hk8 : k < 8 := by simpa using hk
    refine ⟨?_, fun j hj q hq hid => hmin j hj ?_⟩
    · rw [slotRoll?_of_lt hk8]
      simpa [any_id_iff] using hr
    · have hj8 : j < 8 := hj.trans hk8
      rw [slotRoll?_of_lt hj8] at hq
      simpa [any_id_iff] using ⟨q, hq, hid⟩
  · rintro ⟨⟨r, hr, hid⟩, hmin⟩
    have hk8 := lt_of_slotRoll? hr
    rw [slotRoll?_of_lt hk8] at hr
    refine ⟨by simpa using hk8, by simpa [any_id_iff] using ⟨r, hr, hid⟩, fun j hj hany => ?_⟩
    have hj8 : j < 8 := hj.trans hk8
    obtain ⟨q, hq, hqid⟩ := any_id_iff.1 hany
    refine hmin j hj q ?_ hqid
    rw [slotRoll?_of_lt hj8]
    simpa using hq

theorem slotOf?_eq_none_iff {s : State} {roll : Nat} :
    s.slotOf? roll = none ↔ ∀ k < 8, ∀ r, s.slotRoll? k = some r → r.id ≠ roll := by
  rw [slotOf?_eq, List.findIdx?_eq_none_iff]
  constructor
  · intro h k hk r hr hid
    rw [slotRoll?_of_lt hk] at hr
    have := h s.register[k] (by simp)
    rw [← Bool.not_eq_true, any_id_iff] at this
    exact this ⟨r, hr, hid⟩
  · intro h x hx
    rw [← Bool.not_eq_true, any_id_iff]
    rintro ⟨r, rfl, hid⟩
    obtain ⟨k, hk, hget⟩ := Vector.mem_iff_getElem.1 (Vector.mem_toList_iff.1 hx)
    exact h k hk r (by rw [slotRoll?_of_lt hk, hget]) hid

/-- The record of a changed slot. -/
theorem slotRoll?_onSlot {s : State} {k : Nat} {r : Roll} (f : Roll → Roll) (h : s.slotRoll? k = some r) :
    (s.onSlot k f).slotRoll? k = some (f r) := by
  have hk := lt_of_slotRoll? h
  rw [slotRoll?_of_lt hk]
  simp [State.onSlot, h]

theorem slotRoll?_of_register {s t : State} (h : t.register = s.register) (k : Nat) : t.slotRoll? k = s.slotRoll? k := by
  rw [State.slotRoll?, State.slotRoll?, h]

theorem roll?_isSome_iff {s : State} {roll : Nat} : (s.roll? roll).isSome = true ↔ ∃ r ∈ s.allRolls, r.id = roll := by
  simp [State.roll?]

/-! ## Operations that neither read nor write the register -/

/-- A state with another register. -/
def withRegister (v : Vector (Option Roll) 8) (s : State) : State := { s with register := v }

theorem onSlot_eq_withRegister (k : Nat) (f : Roll → Roll) (s : State) :
    s.onSlot k f = withRegister (s.register.setIfInBounds k ((s.slotRoll? k).map f)) s := rfl

section

variable (v : Vector (Option Roll) 8) (s : State)

theorem withRegister_order? (n : Nat) : (withRegister v s).order? n = s.order? n := rfl

theorem withRegister_queueNotices (ns : List Notice) :
    queueNotices ns (withRegister v s) = withRegister v (queueNotices ns s) := by
  unfold queueNotices
  induction ns generalizing s with
  | nil => rfl
  | cons n ns ih => exact ih (queueNotice n s)

theorem withRegister_setOrderState (n : Nat) (st : OrderState) (former : Option FormerState) :
    setOrderState n st former (withRegister v s) = withRegister v (setOrderState n st former s) := by
  unfold setOrderState
  rw [withRegister_order?]
  cases s.order? n with
  | none => rfl
  | some o =>
    simp only
    split <;> rfl

theorem withRegister_releaseOne (n : Nat) : releaseOne n (withRegister v s) = withRegister v (releaseOne n s) := by
  unfold releaseOne
  rw [withRegister_order?]
  cases s.order? n with
  | none => rfl
  | some o => exact withRegister_setOrderState v s _ _ _

theorem withRegister_releaseWhere (test : Order → Bool) :
    releaseWhere test (withRegister v s) = withRegister v (releaseWhere test s) := by
  have key : ∀ (ks : List Nat) (t : State),
      ks.foldl (fun s k => releaseOne k s) (withRegister v t) = withRegister v (ks.foldl (fun s k => releaseOne k s) t) := by
    intro ks
    induction ks with
    | nil => exact fun _ => rfl
    | cons k ks ih => exact fun t => by rw [List.foldl_cons, withRegister_releaseOne, ih]; rfl
  exact key _ s

theorem withRegister_removeFromStack (n : Nat) :
    removeFromStack n (withRegister v s) = withRegister v (removeFromStack n s) := by
  have hpromote : ∀ t : State, promoteTop (withRegister v t) = withRegister v (promoteTop t) := fun t => by
    have hw : (withRegister v t).work = t.work := rfl
    unfold promoteTop
    rw [hw]
    cases t.work.stack with
    | nil => rfl
    | cons top rest =>
      simp only [withRegister_order?]
      cases t.order? top with
      | none => rfl
      | some o =>
        simp only
        split
        · rfl
        · exact withRegister_setOrderState v t _ _ _
  have hw : (withRegister v s).work = s.work := rfl
  unfold removeFromStack
  rw [hw]
  split
  · exact hpromote (s.onWork fun w => { w with stack := w.stack.filter fun k => k != n })
  · rfl

theorem withRegister_post (kind : PostKind) (account : Nat) (stock : Option Nat) (amount : Int) :
    post kind account stock amount (withRegister v s) = withRegister v (post kind account stock amount s) := by
  have ht : (withRegister v s).tally = s.tally := rfl
  have hon : ∀ f : Tally → Tally, (withRegister v s).onTally f = withRegister v (s.onTally f) := fun _ => rfl
  unfold post
  simp only [ht, hon, withRegister_queueNotices]
  split
  · exact withRegister_releaseWhere v _ _
  · rfl

theorem withRegister_creditFrames (stock : Nat) (fs : List Frame) :
    creditFrames stock fs (withRegister v s) = withRegister v (creditFrames stock fs s) := by
  induction fs generalizing s with
  | nil => rfl
  | cons f fs ih =>
    unfold creditFrames
    split
    · rw [withRegister_post, ih]
    · exact ih s

theorem withRegister_takeOutcomeChange (n : Nat) :
    takeOutcomeChange n (withRegister v s) = withRegister v (takeOutcomeChange n s) := by
  unfold takeOutcomeChange
  rw [withRegister_order?]
  cases s.order? n with
  | none => rfl
  | some o =>
    simp only
    split
    · rw [withRegister_removeFromStack]
      rfl
    · split
      · exact withRegister_setOrderState v s _ _ _
      · rfl

end

/-- The work list's part of an outcome change leaves all but the work list and the link. -/
theorem sameBut_takeOutcomeChange (n : Nat) (s : State) : SameBut s (takeOutcomeChange n s) := by
  unfold takeOutcomeChange
  split
  · exact .refl s
  · split
    · exact ((sameBut_removeFromStack n s).trans (sameBut_onWork _ _)).trans (sameBut_queueNotice _ _)
    · split
      · exact sameBut_setOrderState _ _ _ s
      · exact .refl s

theorem SameBut.tallyPart {s t : State} (h : SameBut s t) : t.tally = s.tally := by rw [h]

/-! ## One group settled -/

/-- A group settled LOST, on the state with its frames credited. -/
theorem settleLost_eq {k : Nat} {g : Group} {s : State} {r : Roll} (h : s.slotRoll? k = some r) :
    settleLost k g s
      = withRegister
          (s.register.setIfInBounds k (some ((r.discardGroup g.first .discarded).onFramesOf g.first Frame.markCredited)))
          (takeOutcomeChange g.order
            (onSlide g.order g.slide (fun x => { x with outcome := .reshootDue, attempts := x.attempts - 1 })
              (creditFrames r.stock (r.framesOf g.first) s))) := by
  simp only [settleLost, h]
  rw [onSlot_eq_withRegister, withRegister_creditFrames, h, ← withRegister_takeOutcomeChange]
  rfl

theorem settleAbandon_eq {k : Nat} {g : Group} {s : State} {r : Roll} (h : s.slotRoll? k = some r) :
    settleAbandon k g s
      = withRegister (s.register.setIfInBounds k (some (r.discardGroup g.first .reject)))
          (takeOutcomeChange g.order (onSlide g.order g.slide (fun x => { x with outcome := .rejected }) s)) := by
  rw [settleAbandon, onSlot_eq_withRegister, h, ← withRegister_takeOutcomeChange]
  rfl

theorem withRegister_slotRoll? {s : State} {k : Nat} (hk : k < 8) (x : Option Roll) (t : State) :
    (withRegister (s.register.setIfInBounds k x) t).slotRoll? k = x := by
  rw [slotRoll?_of_lt hk]
  simp [withRegister]

/-- The groups of a roll with the group of a first frame given an outcome. -/
theorem discardGroup_groups (r : Roll) (first : Nat) (outcome : GroupOutcome) :
    (r.discardGroup first outcome).groups = r.groups.map fun h => if h.first = first then { h with outcome := outcome } else h := by
  simp [Roll.discardGroup, Roll.onGroup, Roll.onFramesOf]

/-- The frames of a discarded group are DISCARDED. -/
theorem discardGroup_frames {r : Roll} {first : Nat} {outcome : GroupOutcome} {f : Frame}
    (hf : f ∈ (r.discardGroup first outcome).frames) (hg : f.group = first) : f.selection = .discarded := by
  obtain ⟨p, -, rfl⟩ := List.mem_map.1 hf
  by_cases h : p.group = first
  · simp [h]
  · simp [h] at hg

/-- The frames of a group discarded and credited. -/
theorem credited_frames {r : Roll} {first : Nat} {outcome : GroupOutcome} {f : Frame}
    (hf : f ∈ ((r.discardGroup first outcome).onFramesOf first Frame.markCredited).frames) (hg : f.group = first) :
    f.selection = .discarded ∧ (f.kind = .exposure → f.credited = true) := by
  obtain ⟨p, hp, rfl⟩ := List.mem_map.1 hf
  have hmark : ∀ q : Frame, q.markCredited.group = q.group ∧ q.markCredited.selection = q.selection
      ∧ (q.markCredited.kind = .exposure → q.markCredited.credited = true) := fun q => by
    unfold Frame.markCredited
    split
    · exact ⟨rfl, rfl, fun _ => rfl⟩
    · rename_i h
      exact ⟨rfl, rfl, fun hk => absurd hk h⟩
  by_cases h : p.group = first
  · simp only [h, beq_self_eq_true, if_true] at hg ⊢
    obtain ⟨hgroup, hsel, hcred⟩ := hmark p
    exact ⟨hsel.trans (discardGroup_frames hp h), hcred⟩
  · simp [h] at hg

/-! ## The close of a roll -/

theorem labelOpen_iff {f : Frame} :
    f.labelOpen = true ↔ f.selection = .kept ∧ (f.label = some .waiting ∨ f.label = some .queued) := by
  simp [Frame.labelOpen]

theorem isReject_iff {x : GroupOutcome} : x.isReject = true ↔ x = .rejectUnder ∨ x = .rejectOver ∨ x = .reject := by
  cases x <;> simp [GroupOutcome.isReject]

theorem closable_iff {r : Roll} :
    r.closable = true ↔ ¬((∃ g ∈ r.groups, g.outcome = .unselected)
      ∨ ∃ f ∈ r.frames, f.selection = .kept ∧ (f.label = some .waiting ∨ f.label = some .queued)) := by
  rw [not_or, Roll.closable, Bool.and_eq_true, Bool.not_eq_true', Bool.not_eq_true', ← Bool.not_eq_true, ← Bool.not_eq_true,
    List.any_eq_true, List.any_eq_true]
  simp only [labelOpen_iff, decide_eq_true_eq]

/-- ROLL CLOSED with its counts spelled out (R140). -/
theorem rollClosedNotice_eq (k : Nat) (cause : CloseCause) (r : Roll) :
    rollClosedNotice k cause r
      = .rollClosed r.id k cause (r.groups.countP fun g => g.outcome.isKept)
          (r.groups.countP fun g => g.outcome = .rejectUnder ∨ g.outcome = .rejectOver ∨ g.outcome = .reject)
          (r.groups.countP fun g => g.outcome = .discarded)
          (r.frames.countP fun f => f.selection = .kept ∧ f.label = some .printed)
          (r.frames.countP fun f => f.selection = .kept ∧ f.label = some .failed) := by
  have hreject : (fun g : Group => g.outcome.isReject)
      = fun g => decide (g.outcome = .rejectUnder ∨ g.outcome = .rejectOver ∨ g.outcome = .reject) := by
    funext g
    rw [Bool.eq_iff_iff, isReject_iff, decide_eq_true_eq]
  simp only [rollClosedNotice, Roll.labelCount, hreject, Bool.decide_and]

theorem closeRoll_eq {k : Nat} {cause : CloseCause} {s : State} {r : Roll} (h : s.slotRoll? k = some r) :
    closeRoll k cause s
      = queueNotice (rollClosedNotice k cause r)
          { s with
            register := s.register.setIfInBounds k none,
            labels := { s.labels with records := s.labels.records.filter fun x => x.key.roll != r.id } } := by
  simp only [closeRoll, h]
  rfl

/-- The close test of a roll of the register. -/
theorem closeTest_eq {k : Nat} {s : State} {r : Roll} (h : s.slotRoll? k = some r)
    (hfirst : ∀ j < k, ∀ q, s.slotRoll? j = some q → q.id ≠ r.id) :
    closeTest r.id s = if r.closable then closeRoll k .automatic s else s := by
  have hslot : s.slotOf? r.id = some k := slotOf?_eq_some_iff.2 ⟨⟨r, h, rfl⟩, hfirst⟩
  simp only [closeTest, hslot, h]

/-! ## CLOSE ROLL -/

/-- The groups of a roll, and the frames LOST credits, as CLOSE ROLL finds them. -/
theorem lostFrames_eq (r : Roll) :
    r.lostFrames = (r.groups.filter fun g => g.outcome = .unselected).flatMap fun g =>
      (r.frames.filter fun f => f.group = g.first).filter fun f => f.kind = .exposure ∧ f.credited = false := by
  refine List.flatMap_congr fun g _ => ?_
  have hf : (fun f : Frame => f.group == g.first) = fun f => decide (f.group = g.first) := rfl
  have hc : (fun f : Frame => decide (f.kind = .exposure) && !f.credited)
      = fun f => decide (f.kind = .exposure ∧ f.credited = false) := by
    funext f
    rw [Bool.eq_iff_iff]
    simp
  rw [Roll.framesOf, hf, hc]

theorem closeRollRange_iff {roll disposition : Nat} :
    (okRoll roll && decide (disposition ≤ 1)) = true ↔ (1 ≤ roll ∧ roll ≤ 999999) ∧ disposition ≤ 1 := by
  simp [okRoll, inNat_iff]

/-- The labels that keep CLOSE ROLL from closing a roll. -/
theorem labelsPending_eq {s : State} {roll : Nat} {r : Roll} (hr : s.roll? roll = some r) :
    labelsPending s roll = r.frames.any Frame.labelOpen := by
  simp only [labelsPending, hr]

/-- Of records that agree on an id the live one is each. -/
theorem roll?_of_unique {s : State} {roll : Nat} {r : Roll} (hr : r ∈ s.allRolls) (hid : r.id = roll)
    (huniq : ∀ q ∈ s.allRolls, q.id = roll → q = r) : s.roll? roll = some r := by
  obtain ⟨q, hq⟩ := Option.isSome_iff_exists.1 (roll?_isSome_iff.2 ⟨r, hr, hid⟩)
  have hmem : q ∈ s.allRolls := List.mem_of_find?_eq_some hq
  have hqid : q.id = roll := by simpa using List.find?_some hq
  rw [hq, huniq q hmem hqid]

theorem mem_allRolls_of_slotRoll? {s : State} {k : Nat} {r : Roll} (h : s.slotRoll? k = some r) : r ∈ s.allRolls := by
  have hk := lt_of_slotRoll? h
  rw [slotRoll?_of_lt hk] at h
  refine mem_allRolls.2 (.inr (.inr ?_))
  rw [← h]
  simp

/-- Settles O41: CLOSE ROLL with its tests, the settling of each group, ROLL CLOSED and the close test. -/
theorem closeRollRequest : Obligations.CloseRoll := by
  refine ⟨fun roll disposition s inRange hf hrange => ?_, fun k g s r hr => ?_, fun k cause s r hr => ?_,
    fun k s r open_ hr hfirst hopen => ?_⟩
  · have hrange := hrange.trans closeRollRange_iff.symm
    have hslot : ∀ k r, s.slotRoll? k = some r → r.id = roll → (∀ j < k, ∀ q, s.slotRoll? j = some q → q.id ≠ roll) →
        s.slotOf? roll = some k := fun k r hr hid hfirst => slotOf?_eq_some_iff.2 ⟨⟨r, hr, hid⟩, hfirst⟩
    refine ⟨fun h => ?_, fun h hno => ?_, fun h hlive hno => ?_, fun k r groups credits h hk hr hid huniq hfirst hgroups hcredits => ?_⟩
    · exact exec_refused rfl hf (answer_refused (by rw [closeRollRefusal, firstFailing_cons, if_neg (mt hrange.2 h)]))
    · have hroll : ¬((hunting s).roll? roll).isSome = true := by
        rw [roll?_isSome_iff]
        rintro ⟨r, hr, hid⟩
        exact hno r hr hid
      exact exec_refused rfl hf (answer_refused (by
        rw [closeRollRefusal, firstFailing_cons, if_pos (hrange.1 h), firstFailing_cons, if_neg hroll]))
    · have hnone : (hunting s).slotOf? roll = none := slotOf?_eq_none_iff.2 hno
      exact exec_refused rfl hf (answer_refused (by
        rw [closeRollRefusal, firstFailing_cons, if_pos (hrange.1 h), firstFailing_cons,
          if_pos (roll?_isSome_iff (s := hunting s).2 hlive), firstFailing_cons, hnone]
        rfl))
    · have hroll : (hunting s).roll? roll = some r := roll?_of_unique (mem_allRolls_of_slotRoll? hr) hid huniq
      have hsome : (hunting s).slotOf? roll = some k := hslot k r hr hid hfirst
      have hclosing : closingSlot (hunting s) roll = k := by rw [closingSlot, hsome]; rfl
      have hslotRoll : (hunting s).slotRoll? k = some r := hr
      have hg : slotGroups (hunting s) k = groups := by rw [slotGroups, hslotRoll, hgroups]; rfl
      have hc : lostCredits (hunting s) roll = credits := by
        rw [lostCredits, hclosing, hslotRoll, hcredits, hgroups, ← lostFrames_eq]
        rfl
      have hrefusal : closeRollRefusal roll disposition (hunting s)
          = if !(r.frames.any Frame.labelOpen) then none else some .labelsPending := by
        rw [closeRollRefusal, firstFailing_cons, if_pos (hrange.1 h), firstFailing_cons, hroll, firstFailing_cons, hsome,
          firstFailing_cons, labelsPending_eq hroll]
        rfl
      refine ⟨fun hopen => ?_, fun hopen => ⟨fun hd => ?_, fun hd => ?_⟩⟩
      · have hany : r.frames.any Frame.labelOpen = true := by
          simpa only [List.any_eq_true, labelOpen_iff] using hopen
        exact exec_refused rfl hf (answer_refused (by rw [hrefusal, hany]; rfl))
      all_goals
        have hany : r.frames.any Frame.labelOpen = false := by
          rw [← Bool.not_eq_true, List.any_eq_true]
          rintro ⟨f, hf, ho⟩
          obtain ⟨hkept, hl⟩ := labelOpen_iff.1 ho
          exact hl.elim (hopen f hf hkept).1 (hopen f hf hkept).2
        subst hd
        refine exec_replied rfl hf ((answer_accepted (by rw [hrefusal, hany]; rfl)).trans ?_)
        rw [closeRollFields, closeRollEffect, settleGroups, hclosing, hg]
      · rw [hc]
        rfl
      · rfl
  · have hk := lt_of_slotRoll? hr
    have hframes : (r.frames.filter fun f => f.group == g.first) = r.framesOf g.first := rfl
    rw [settleLost_eq hr, settleAbandon_eq hr, hframes]
    refine ⟨⟨_, withRegister_slotRoll? hk _ _, discardGroup_groups r g.first .discarded, fun f => credited_frames⟩, ?_, fun u hu => ?_,
      ⟨_, withRegister_slotRoll? hk _ _, discardGroup_groups r g.first .reject, fun f => discardGroup_frames⟩, ?_, fun u hu => ?_⟩
    · change (takeOutcomeChange _ _).tally = _
      exact SameBut.tallyPart ((sameBut_onOrder _ _ _).trans (sameBut_takeOutcomeChange _ _))
    · subst hu
      exact ⟨rfl, rfl⟩
    · change (takeOutcomeChange _ _).tally = _
      exact SameBut.tallyPart ((sameBut_onOrder _ _ _).trans (sameBut_takeOutcomeChange _ _))
    · subst hu
      exact ⟨rfl, rfl⟩
  · rw [closeRoll_eq hr, rollClosedNotice_eq]
  · have hopen : open_ ↔ ¬r.closable = true := by rw [closable_iff, not_not, hopen]
    rw [closeTest_eq hr hfirst]
    exact ⟨fun h => if_neg (hopen.1 h), fun h => if_pos (not_not.1 (mt hopen.2 h))⟩

end Sys2Proof.Machine
end

section
/-! SUPPORT. The reads of records: READ ORDER, READ ROLL, READ FRAMES and the record form of READ LABELS, and the register in its order
(R25, R130, R145, R146, R167). -/

namespace Sys2Proof

/-- An insertion sort by a total preorder is in its order. -/
theorem sortBy_pairwise {α : Type} {R : α → α → Prop} (le : α → α → Bool) (l : List α) (trans : ∀ a b c, R a b → R b c → R a c)
    (before : ∀ x y, le x y = true → R x y) (behind : ∀ x y, le x y = false → R y x) : (sortBy le l).Pairwise R := by
  induction l with
  | nil => exact List.Pairwise.nil
  | cons x xs ih => exact insertBy_pairwise le x _ trans (before x) (behind x) ih

end Sys2Proof

namespace Sys2Proof.Machine

/-! ## A read -/

/-- A read that is accepted answers and changes nothing but the reply buffer. -/
theorem exec_read {c : Instr} {r : Request} {s : State} {m : Msg} (hc : c.request = some r) (hf : LinkFree s)
    (h : answerRequest r (hunting s) = (hunting s, m)) : exec c s = .next (replied m id s) := exec_replied hc hf h

/-! ## The register in its order -/

theorem mem_registerOrder {s : State} {k : Nat} {r : Roll} : (k, r) ∈ s.registerOrder ↔ s.slotRoll? k = some r := by
  rw [State.registerOrder, (sortBy_perm _ _).mem_iff, List.mem_filterMap]
  constructor
  · rintro ⟨j, -, hj⟩
    obtain ⟨q, hq, heq⟩ := Option.map_eq_some_iff.1 hj
    cases heq
    exact hq
  · intro h
    exact ⟨k, List.mem_range.2 (lt_of_slotRoll? h), by rw [h]; rfl⟩

theorem registerOrder_nodup (s : State) : (s.registerOrder.map fun x => x.1).Nodup := by
  refine ((sortBy_perm _ _).map _).nodup_iff.2 ?_
  rw [List.map_filterMap]
  refine List.nodup_range.filterMap fun a b k ha hb => ?_
  obtain ⟨x, hx, rfl⟩ := Option.map_eq_some_iff.1 ha
  obtain ⟨y, hy, heq⟩ := Option.map_eq_some_iff.1 hb
  obtain ⟨p, -, rfl⟩ := Option.map_eq_some_iff.1 hx
  obtain ⟨q, -, rfl⟩ := Option.map_eq_some_iff.1 hy
  exact heq.symm

theorem registerOrder_sorted (s : State) :
    s.registerOrder.Pairwise fun older younger => older.2.unloadSeq.getD 0 ≤ younger.2.unloadSeq.getD 0 :=
  sortBy_pairwise _ _ (fun _ _ _ => le_trans) (fun _ _ h => of_decide_eq_true h)
    fun _ _ h => (Nat.lt_of_not_le (of_decide_eq_false h)).le

/-! ## The bytes of a frame -/

/-- The flags byte of a frame, bit by bit (R196). -/
theorem flagsByte_testBit (f : Frame) (i : Nat) :
    f.flagsByte.testBit i = true ↔
      i = 0 ∧ f.dense = true ∨ i = 1 ∧ f.shortClamp = true ∨ i = 2 ∧ f.longClamp = true := by
  have hlt : f.flagsByte < 2 ^ 3 := by
    unfold Frame.flagsByte
    cases f.dense <;> cases f.shortClamp <;> cases f.longClamp <;> decide
  by_cases hi : i < 3
  · obtain rfl | rfl | rfl : i = 0 ∨ i = 1 ∨ i = 2 := by omega
    all_goals
      unfold Frame.flagsByte
      cases f.dense <;> cases f.shortClamp <;> cases f.longClamp <;> decide
  · rw [Nat.testBit_lt_two_pow (hlt.trans_le (Nat.pow_le_pow_right (by decide) (Nat.not_lt.1 hi)))]
    simp only [Bool.false_eq_true, false_iff]
    omega

/-- The state byte of a frame, part by part (R196). -/
theorem stateByte_parts (f : Frame) :
    f.stateByte % 2 = (if f.kind = .spoilt then 1 else 0) ∧ f.stateByte / 2 % 2 = (if f.credited then 1 else 0)
      ∧ f.stateByte / 4 % 4 = f.selection.number
      ∧ f.stateByte / 16 = f.label.elim 0 fun l => l.number + 1 := by
  have hsel : f.selection.number ≤ 2 := by cases f.selection <;> decide
  have hbyte : f.stateByte = (if f.kind = .spoilt then 1 else 0) + (if f.credited then 2 else 0) + 4 * f.selection.number
      + 16 * f.label.elim 0 fun l => l.number + 1 := by
    unfold Frame.stateByte
    cases f.label <;> rfl
  rw [hbyte]
  generalize f.selection.number = a at *
  generalize (f.label.elim 0 fun l => l.number + 1) = b
  split <;> split <;> omega

/-! ## The fields of records -/

/-- The fields of an order, with its former state while FILLING (R1, R25). -/
theorem orderFields_eq {o : Order} {former : List Field}
    (hfill : ∀ f, o.state = .filling → o.former = some f → former = [.u 1 f.number])
    (helse : (o.state ≠ .filling ∨ o.former = none) → former = []) :
    o.fields = List.flatten
      [[.u 2 o.number, .u 4 o.seq, .u 2 o.account, .u 2 o.lecturer, .u 1 o.cls, .u 1 o.stock, .u 1 o.n, .u 1 o.spacing,
        .i 1 o.offset, .u 1 o.magn, .text o.title],
       o.state.fields, former, [yesNo o.cancelPending, yesNo o.holdPending]] := by
  cases hst : o.state with
  | filling =>
    cases hfo : o.former with
    | none => simp [Order.fields, helse (.inr hfo), hst, hfo]
    | some f => simp [Order.fields, hfill f hst hfo, hst, hfo]
  | _ => simp [Order.fields, helse (.inl (by simp [hst])), hst]

theorem slideFields_eq :
    Slide.fields = fun x : Slide => List.flatten
      [[.u 3 x.cat], optFields (fun t => [.text t]) x.caption, optFields (fun v => [.i 1 v]) x.adjust,
       [.i 1 x.shift, .u 1 x.attempts, .u 1 x.outcome.number]] := by
  funext x
  simp [Slide.fields]

theorem groupFields_eq :
    Group.fields = fun g : Group => List.flatten
      [[.u 2 g.order, .u 1 g.slide, .u 3 g.cat, .u 1 g.attempt, .u 1 g.first, .u 1 g.n, .u 1 g.spacing, .i 2 g.s],
       g.source.fields, [.i 1 g.pUsed, .u 1 g.exposed, .u 1 g.completeness.number], g.outcome.fields] := by
  funext g
  simp [Group.fields]

theorem rollSummary_eq :
    rollSummary = fun x : Nat × Roll =>
      [.u 1 x.1, .u 3 x.2.id, .u 1 x.2.stock, .u 4 (x.2.unloadSeq.getD 0),
       .u 1 ((x.2.unloadKind.map UnloadKind.number).getD 0),
       .u 1 (x.2.groups.countP fun g => g.outcome = .unselected),
       .u 1 (x.2.frames.countP fun f => f.selection = .kept ∧ f.label = some .waiting),
       .u 1 (x.2.frames.countP fun f => f.selection = .kept ∧ f.label = some .queued),
       .u 1 (x.2.frames.countP fun f => f.selection = .kept ∧ f.label = some .printed),
       .u 1 (x.2.frames.countP fun f => f.selection = .kept ∧ f.label = some .failed)] := by
  funext x
  simp only [rollSummary, Roll.unselectedGroups, Roll.labelCount, List.countP_eq_length_filter, Bool.decide_and]

/-- The slide of the cycle in flight for an order (R25). -/
theorem cycleSlide_eq {s : State} {n : Nat} {slide : Option Nat}
    (hsome : ∀ c, s.stand.cycle = some c → c.order = n → slide = some c.slide)
    (hnone : (∀ c, s.stand.cycle = some c → c.order ≠ n) → slide = none) : cycleSlide s n = slide := by
  unfold cycleSlide
  cases hc : s.stand.cycle with
  | none => exact (hnone fun c h => by rw [hc] at h; cases h).symm
  | some c =>
    by_cases hn : c.order = n
    · rw [hsome c hc hn]
      exact if_pos hn
    · rw [hnone fun d hd => by rw [hc] at hd; cases hd; exact hn]
      exact if_neg hn

/-- The place of a live roll record: in back A, in back B, or in its slot (R86, R145). -/
theorem placeFields_eq {s : State} {roll : Nat} {r : Roll} {place : List Field} (hr : s.roll? roll = some r)
    (hA : (∃ q, s.film.backA.roll = some q ∧ q.id = roll) → place = [.u 1 0])
    (hB : (∀ q, s.film.backA.roll = some q → q.id ≠ roll) → (∃ q, s.film.backB.roll = some q ∧ q.id = roll) → place = [.u 1 1])
    (hS : ∀ k q, (∀ b p, (s.back b).roll = some p → p.id ≠ roll) → s.slotRoll? k = some q → q.id = roll →
      (∀ j < k, ∀ p, s.slotRoll? j = some p → p.id ≠ roll) → place = [.u 1 2, .u 1 k]) : placeFields s roll = place := by
  have hat : ∀ x : Option Roll, (x.map fun r => r.id) = some roll ↔ ∃ q, x = some q ∧ q.id = roll := fun x =>
    Option.map_eq_some_iff
  unfold placeFields
  split
  · rename_i h
    exact (hA ((hat _).1 h)).symm
  · rename_i hnoA
    have hnoA' : ∀ q, s.film.backA.roll = some q → q.id ≠ roll := fun q hq hid => hnoA ((hat _).2 ⟨q, hq, hid⟩)
    split
    · rename_i h
      exact (hB hnoA' ((hat _).1 h)).symm
    · rename_i hnoB
      have hnoB' : ∀ q, s.film.backB.roll = some q → q.id ≠ roll := fun q hq hid => hnoB ((hat _).2 ⟨q, hq, hid⟩)
      have hid : r.id = roll := by simpa using List.find?_some hr
      have hmem : r ∈ s.allRolls := List.mem_of_find?_eq_some hr
      have hreg : s.slotOf? roll ≠ none := fun hnone => by
        rcases mem_allRolls.1 hmem with h | h | h
        · exact hnoA' r h hid
        · exact hnoB' r h hid
        · obtain ⟨k, hk, hget⟩ := Vector.mem_iff_getElem.1 (Vector.mem_toList_iff.1 h)
          exact slotOf?_eq_none_iff.1 hnone k hk r (by rw [slotRoll?_of_lt hk, hget]) hid
      obtain ⟨k, hk⟩ := Option.ne_none_iff_exists'.1 hreg
      obtain ⟨⟨q, hq, hqid⟩, hfirst⟩ := slotOf?_eq_some_iff.1 hk
      rw [hS k q (fun b p hp => by cases b; exacts [hnoA' p hp, hnoB' p hp]) hq hqid hfirst, hk]
      rfl

theorem okRoll_iff {roll : Nat} : okRoll roll = true ↔ 1 ≤ roll ∧ roll ≤ 999999 := inNat_iff

/-- The range test of the reads that name a roll and a frame number. -/
theorem notRollFrame_iff {roll frame : Nat} :
    (!okRoll roll || !inNat 1 72 frame) = true ↔ ¬((1 ≤ roll ∧ roll ≤ 999999) ∧ 1 ≤ frame ∧ frame ≤ 72) := by
  rw [Bool.or_eq_true, Bool.not_eq_true', Bool.not_eq_true', ← Bool.not_eq_true, ← Bool.not_eq_true, okRoll_iff, inNat_iff]
  exact not_and_or.symm

/-- Settles O33: each read with its refusals and its page, the bytes of a frame, and the register in its order. -/
theorem readsOfRecords : Obligations.ReadsOfRecords := by
  intro s hf
  refine ⟨fun first => ?_, fun n first hn => ⟨fun hnone => ?_, fun o ho => ⟨fun former slide hf1 hf2 hs1 hs2 hlt => ?_, fun hle => ?_⟩⟩,
    fun roll first => ⟨fun h => ?_, fun h0 h71 => ?_, fun hroll h71 => ⟨fun hnone => ?_, fun r hr =>
      ⟨fun place hA hB hS hpage => ?_, fun hpage => ?_⟩⟩⟩,
    fun roll first => ⟨fun h => ?_, fun h => ⟨fun hnone => ?_, fun r frames hr hframes => ⟨fun hle => ?_, fun hlt => ?_⟩⟩⟩,
    fun roll frame key hkey => ⟨fun h => ?_, fun h => ⟨fun hnone => ?_, fun r hr => ?_⟩⟩, fun f bits hbits => ⟨?_, ?_⟩,
    fun k r => mem_registerOrder, registerOrder_nodup s, registerOrder_sorted s⟩
  · have hsum : List.flatten
        [[.u 1 s.work.floor, .u 4 s.work.placeSeq], listFields (fun k => [.u 2 k]) s.work.stack.reverse,
          listFields (fun o : Order => .u 2 o.number :: .u 1 o.cls :: o.state.fields) s.work.orders] = summaryFields s := by
      simp [summaryFields]
    rw [hsum]
    exact exec_read rfl hf rfl
  · refine exec_refused rfl hf ?_
    change answerReadOrder n first (hunting s) = _
    rw [answerReadOrder, if_neg hn, hunting_order?, hnone]
    rfl
  · have hnum := order?_number ho
    refine exec_read rfl hf ?_
    change answerReadOrder n first (hunting s) = _
    rw [answerReadOrder, if_neg hn, hunting_order?, ho]
    refine (answer_accepted (by rw [firstFailing_cons, if_pos (decide_eq_true hlt), firstFailing_nil])).trans ?_
    have hslide : cycleSlide (hunting s) o.number = slide := cycleSlide_eq (fun c hc h => hs1 c hc (h.trans hnum))
      fun h => hs2 fun c hc h2 => h c hc (h2.trans hnum.symm)
    rw [orderPage, orderFields_eq hf1 hf2, hslide, ← slideFields_eq]
    simp
  · refine exec_refused rfl hf ?_
    change answerReadOrder n first (hunting s) = _
    rw [answerReadOrder, if_neg hn, hunting_order?, ho]
    exact answer_refused (by rw [firstFailing_cons, if_neg (by simpa using hle)])
  · refine exec_refused rfl hf ?_
    change answerReadRoll roll first (hunting s) = _
    rw [answerReadRoll, if_pos h]
    rfl
  · refine exec_read rfl hf ?_
    change answerReadRoll roll first (hunting s) = _
    rw [answerReadRoll, if_neg (by omega), if_pos h0, ← rollSummary_eq]
    rfl
  · refine exec_refused rfl hf ?_
    change answerReadRoll roll first (hunting s) = _
    have hnone' : (hunting s).roll? roll = none := hnone
    rw [answerReadRoll, if_neg (by omega), if_neg (by omega), hnone']
    rfl
  · refine exec_read rfl hf ?_
    change answerReadRoll roll first (hunting s) = _
    have hr' : (hunting s).roll? roll = some r := hr
    have hid : r.id = roll := by simpa using List.find?_some hr
    have hplace : placeFields (hunting s) r.id = place := by
      rw [hid]
      exact placeFields_eq hr' hA hB hS
    have hok : (decide (first < r.groups.length) || (first == 0 && r.groups.isEmpty)) = true := by
      simpa [List.isEmpty_iff] using hpage
    rw [answerReadRoll, if_neg (by omega), if_neg (by omega), hr']
    refine (answer_accepted (by rw [firstFailing_cons, if_pos hok, firstFailing_nil])).trans ?_
    rw [rollPage, hplace, ← groupFields_eq]
    simp
  · refine exec_refused rfl hf ?_
    change answerReadRoll roll first (hunting s) = _
    have hr' : (hunting s).roll? roll = some r := hr
    have hok : ¬(decide (first < r.groups.length) || (first == 0 && r.groups.isEmpty)) = true := by
      simpa [List.isEmpty_iff] using hpage
    rw [answerReadRoll, if_neg (by omega), if_neg (by omega), hr']
    exact answer_refused (by rw [firstFailing_cons, if_neg hok])
  · refine exec_refused rfl hf ?_
    change answerReadFrames roll first (hunting s) = _
    rw [answerReadFrames, if_pos (notRollFrame_iff.2 h)]
    rfl
  · refine exec_refused rfl hf ?_
    change answerReadFrames roll first (hunting s) = _
    have hnone' : (hunting s).roll? roll = none := hnone
    rw [answerReadFrames, if_neg (fun hno => notRollFrame_iff.1 hno h), hnone']
    rfl
  · refine exec_read rfl hf ?_
    change answerReadFrames roll first (hunting s) = _
    have hr' : (hunting s).roll? roll = some r := hr
    rw [answerReadFrames, if_neg (fun hno => notRollFrame_iff.1 hno h), hr']
    refine (answer_accepted (by rw [firstFailing_cons, if_pos (decide_eq_true hle), firstFailing_nil])).trans ?_
    have hlong : yesNo (decide (16 < (r.framesFrom first).length)) = .u 1 (if 16 < frames.length then 1 else 0) := by
      rw [hframes]
      by_cases hl : 16 < (r.framesFrom first).length
      · rw [decide_eq_true hl]
        exact congrArg (Field.u 1) (if_pos hl).symm
      · rw [decide_eq_false hl]
        exact congrArg (Field.u 1) (if_neg hl).symm
    rw [framePage, hlong, hframes]
    simp only [List.flatten_cons, List.flatten_nil, List.append_nil]
    rfl
  · refine exec_refused rfl hf ?_
    change answerReadFrames roll first (hunting s) = _
    have hr' : (hunting s).roll? roll = some r := hr
    rw [answerReadFrames, if_neg (fun hno => notRollFrame_iff.1 hno h), hr']
    exact answer_refused (by rw [firstFailing_cons, if_neg (by simpa using hlt)])
  · refine exec_refused rfl hf ?_
    change answerReadLabelsRecord roll frame (hunting s) = _
    rw [answerReadLabelsRecord, if_pos (notRollFrame_iff.2 h)]
    rfl
  · refine exec_refused rfl hf ?_
    change answerReadLabelsRecord roll frame (hunting s) = _
    have hnone' : labelRecord? (hunting s) { roll := roll, frame := frame } = none := hkey ▸ hnone
    rw [answerReadLabelsRecord, if_neg (fun hno => notRollFrame_iff.1 hno h), hnone']
    rfl
  · refine exec_read rfl hf ?_
    change answerReadLabelsRecord roll frame (hunting s) = _
    have hr' : labelRecord? (hunting s) { roll := roll, frame := frame } = some r := hkey ▸ hr
    have hkeyr : r.key = key := by simpa using List.find?_some hr
    rw [answerReadLabelsRecord, if_neg (fun hno => notRollFrame_iff.1 hno h), hr']
    refine (answer_accepted (refusal := none) rfl).trans ?_
    rw [labelFields, LabelRecord.fields, hkeyr, hkey]
    rfl
  · exact Nat.eq_of_testBit_eq fun i => by rw [Bool.eq_iff_iff, flagsByte_testBit, hbits]
  · obtain ⟨hkind, hcred, hsel, hlab⟩ := stateByte_parts f
    refine ⟨hkind, hcred, hsel.trans ?_, hlab.trans ?_⟩
    · cases f.selection <;> rfl
    · cases f.label with
      | none => rfl
      | some l => cases l <;> rfl

end Sys2Proof.Machine
end

section
/-! SUPPORT. The exposure computer: division rounded half up, the ticks of a code by the mantissa rule, the realisation of a wanted
exposure in its three ranges, and the steps of a bracket plan (R34 to R46). -/

namespace Sys2Proof

/-- Division rounded half up, by the two bounds that fix it (section 6.2). -/
theorem divHalfUp_eq_iff {a b x : Nat} (hb : 0 < b) :
    divHalfUp a b = x ↔ 2 * b * x ≤ 2 * a + b ∧ 2 * a + b < 2 * b * (x + 1) := by
  rw [divHalfUp, Nat.div_eq_iff (by omega), mul_comm x, mul_add_one]
  omega

theorem divHalfUp_bounds {a b : Nat} (hb : 0 < b) :
    2 * b * divHalfUp a b ≤ 2 * a + b ∧ 2 * a + b < 2 * b * (divHalfUp a b + 1) := (divHalfUp_eq_iff hb).1 rfl

theorem divHalfUp_mono {a a' b : Nat} (h : a ≤ a') : divHalfUp a b ≤ divHalfUp a' b := Nat.div_le_div_right (by omega)

theorem divHalfUp_mul_right {b : Nat} (hb : 0 < b) (x : Nat) : divHalfUp (b * x) b = x := by
  rw [divHalfUp_eq_iff hb, mul_add_one, mul_assoc]
  omega

end Sys2Proof

namespace Sys2Proof.Machine

/-! ## Shutter ticks -/

/-- `m` is 1,000 × 2^(r/12) rounded to the nearest whole number, in twelfth powers (R45). -/
def IsMantissa (r m : Nat) : Prop :=
  (2 * m - 1) ^ 12 < 2 ^ 12 * 1000 ^ 12 * 2 ^ r ∧ 2 ^ 12 * 1000 ^ 12 * 2 ^ r < (2 * m + 1) ^ 12

theorem isMantissa_table : ∀ r < 12, IsMantissa r (Config.mantissa.getD r 0) := by
  unfold IsMantissa
  decide

theorem IsMantissa.le {r m m' : Nat} (h : IsMantissa r m) (h' : IsMantissa r m') : m ≤ m' := by
  have : 2 * m - 1 < 2 * m' + 1 := lt_of_pow_lt_pow_left₀ 12 (Nat.zero_le _) (h.1.trans h'.2)
  omega

/-- The rounded value is the one of the table. -/
theorem IsMantissa.eq_table {r m : Nat} (hr : r < 12) (h : IsMantissa r m) : Config.mantissa.getD r 0 = m :=
  le_antisymm ((isMantissa_table r hr).le h) (h.le (isMantissa_table r hr))

theorem codeTicks_eq (q : Nat) {r : Nat} (hr : r < 12) :
    codeTicks (12 * q + r) = divHalfUp (Config.mantissa.getD r 0 * 2 ^ q) 100 := by
  have hmod : (12 * q + r) % 12 = r := by omega
  have hdiv : (12 * q + r) / 12 = q := by omega
  rw [codeTicks, hmod, hdiv]

theorem divHalfUp_wholeStop (q : Nat) : divHalfUp (1000 * 2 ^ q) 100 = 10 * 2 ^ q := by
  calc divHalfUp (1000 * 2 ^ q) 100 = divHalfUp (100 * (10 * 2 ^ q)) 100 := congrArg (divHalfUp · 100) (by ring)
    _ = 10 * 2 ^ q := divHalfUp_mul_right (by decide) _

theorem codeTicks_stop (q : Nat) : codeTicks (12 * q) = 10 * 2 ^ q :=
  (codeTicks_eq q (r := 0) (by decide)).trans (divHalfUp_wholeStop q)

theorem mantissa_bounds : ∀ r < 12, 1000 ≤ Config.mantissa.getD r 0 ∧ Config.mantissa.getD r 0 ≤ 2000 := by decide

/-- The ticks of a code lie between those of its whole stop and those of the next. -/
theorem codeTicks_between (q : Nat) {r : Nat} (hr : r < 12) :
    10 * 2 ^ q ≤ codeTicks (12 * q + r) ∧ codeTicks (12 * q + r) ≤ 10 * 2 ^ (q + 1) := by
  obtain ⟨hlo, hhi⟩ := mantissa_bounds r hr
  rw [codeTicks_eq q hr, ← divHalfUp_wholeStop q, ← divHalfUp_wholeStop (q + 1)]
  refine ⟨divHalfUp_mono (Nat.mul_le_mul_right _ hlo), divHalfUp_mono ?_⟩
  calc Config.mantissa.getD r 0 * 2 ^ q ≤ 2000 * 2 ^ q := Nat.mul_le_mul_right _ hhi
    _ = 1000 * 2 ^ (q + 1) := by ring

/-- The ticks of the codes 24..180 lie in 40..327,680: from two whole stops to fifteen. -/
theorem codeTicks_range {code : Nat} (hlo : 24 ≤ code) (hhi : code ≤ 180) : 40 ≤ codeTicks code ∧ codeTicks code ≤ 327680 := by
  obtain rfl | hlt : code = 180 ∨ code < 180 := by omega
  · rw [show 180 = 12 * 15 from rfl, codeTicks_stop]
    decide
  · obtain ⟨hmin, hmax⟩ := codeTicks_between (code / 12) (Nat.mod_lt code (show 12 > 0 by decide))
    rw [Nat.div_add_mod] at hmin hmax
    have h2 : 2 ^ 2 ≤ 2 ^ (code / 12) := Nat.pow_le_pow_right (by decide) (by omega)
    have h15 : 2 ^ (code / 12 + 1) ≤ 2 ^ 15 := Nat.pow_le_pow_right (by decide) (by omega)
    omega

/-- Settles O26: the rounded power of two is the table's mantissa, and the ticks are its rounded multiple. -/
theorem shutterTicks : Obligations.ShutterTicks := by
  refine ⟨fun q r m hr hm => ?_, fun r hr => ⟨_, isMantissa_table r hr⟩, fun code => codeTicks_range, fun q _ => codeTicks_stop q,
    by decide⟩
  rw [codeTicks_eq q hr, IsMantissa.eq_table hr hm]
  exact divHalfUp_bounds (a := m * 2 ^ q) (b := 100) (by decide)

/-! ## The realisation of a wanted exposure -/

/-- Below 24: the needed ND is the least number of whole stops that lifts the exposure to 24 (R41). -/
theorem neededNd_eq {e : Int} {stops : Nat} (he : e < 24) (hlo : 24 ≤ e + 12 * stops) (hhi : e + 12 * stops < 36) :
    neededNd e = 12 * stops := by
  unfold neededNd
  omega

theorem realise_short {k : Nat} {e : Int} (he : e < 24) (hnd : neededNd e ≤ 36) :
    realise k e = { code := (e + neededNd e).toNat, nd := neededNd e, shortClamp := false, longClamp := false } := by
  rw [realise, if_pos he, if_pos hnd]

theorem realise_shortClamp {k : Nat} {e : Int} (he : e < 24) (hnd : ¬neededNd e ≤ 36) :
    realise k e = { code := 24, nd := 36, shortClamp := true, longClamp := false } := by
  rw [realise, if_pos he, if_neg hnd]

theorem realise_middle {k : Nat} {e : Int} (hlo : 24 ≤ e) (hhi : e ≤ 120) :
    realise k e = { code := e.toNat, nd := 0, shortClamp := false, longClamp := false } := by
  rw [realise, if_neg (by omega), if_pos hhi]

theorem realise_long {k : Nat} {e : Int} (he : 120 < e) (hlen : lengthened k e ≤ 180) :
    realise k e = { code := lengthened k e, nd := 0, shortClamp := false, longClamp := false } := by
  rw [realise, if_neg (by omega), if_neg (by omega), if_pos hlen]

theorem realise_longClamp {k : Nat} {e : Int} (he : 120 < e) (hlen : ¬lengthened k e ≤ 180) :
    realise k e = { code := 180, nd := 0, shortClamp := false, longClamp := true } := by
  rw [realise, if_neg (by omega), if_neg (by omega), if_neg hlen]

/-- The lengthened exposure, by the two bounds of its rounding (R43). -/
theorem lengthened_eq {k : Nat} {e e' : Int} (he : 120 < e)
    (h : 24 * (e' - e) ≤ 2 * ((e - 120) * k) + 12 ∧ 2 * ((e - 120) * k) + 12 < 24 * (e' - e + 1)) : (lengthened k e : Int) = e' := by
  have hcast : (e - 120) * k = ((e - 120).toNat * k : Nat) := by
    rw [Nat.cast_mul, Int.toNat_of_nonneg (by omega)]
  rw [hcast] at h
  obtain ⟨hmin, hmax⟩ := divHalfUp_bounds (a := (e - 120).toNat * k) (b := 12) (by decide)
  unfold lengthened
  generalize (e - 120).toNat * k = x at *
  omega

theorem le_lengthened {k : Nat} {e : Int} : e.toNat ≤ lengthened k e := Nat.le_add_right _ _

/-- A realised exposure is one the shutter and the slider have: code 24..180, ND 0..36 in whole stops and only with a short code,
never both clamps. -/
def Realised.Within (x : Realised) : Prop :=
  24 ≤ x.code ∧ x.code ≤ 180 ∧ x.nd ∈ [0, 12, 24, 36] ∧ ¬(x.shortClamp = true ∧ x.longClamp = true) ∧ (x.nd ≠ 0 → x.code ≤ 35)

theorem realise_within (k : Nat) (e : Int) : (realise k e).Within := by
  obtain he | ⟨hlo, hhi⟩ | he : e < 24 ∨ (24 ≤ e ∧ e ≤ 120) ∨ 120 < e := by omega
  · by_cases hnd : neededNd e ≤ 36
    · rw [realise_short he hnd]
      have hmem : neededNd e ∈ [0, 12, 24, 36] := by
        simp only [List.mem_cons, List.not_mem_nil, or_false]
        unfold neededNd at *
        omega
      refine ⟨?_, ?_, hmem, by simp, fun _ => ?_⟩ <;> (unfold neededNd; dsimp only; omega)
    · rw [realise_shortClamp he hnd]
      unfold Realised.Within
      decide
  · rw [realise_middle hlo hhi]
    exact ⟨by dsimp only; omega, by dsimp only; omega, List.mem_cons_self, by simp, fun h => absurd rfl h⟩
  · by_cases hlen : lengthened k e ≤ 180
    · rw [realise_long he hlen]
      have := le_lengthened (k := k) (e := e)
      exact ⟨by dsimp only; omega, hlen, List.mem_cons_self, by simp, fun h => absurd rfl h⟩
    · rw [realise_longClamp he hlen]
      unfold Realised.Within
      decide

/-- Settles O25: each range of stage 6 with its clamp, and the steps of a plan, each of which is realised by it. -/
theorem stepRealisation : Obligations.StepRealisation := by
  refine ⟨fun k e he stops ⟨hlo, hhi⟩ => ?_, fun e he => ⟨((24 - e).toNat + 11) / 12, by omega, by omega⟩,
    fun k e => realise_middle, fun k e e' he hround => ?_, fun stock c d dense p hp => ?_⟩
  · have hnd := neededNd_eq he hlo hhi
    refine ⟨fun hle => ?_, by omega, fun hgt => realise_shortClamp he (by omega)⟩
    rw [realise_short he (by omega), hnd]
    refine ⟨rfl, ?_, ?_, ?_⟩ <;> (dsimp only; omega)
  · have hlen := lengthened_eq he hround
    refine ⟨fun hle => ?_, fun hgt => realise_longClamp he (by omega), fun hk => ?_⟩
    · rw [realise_long he (by omega), ← hlen, Int.toNat_natCast]
    · subst hk
      omega
  · obtain ⟨j, -, rfl⟩ := List.mem_map.1 hp
    obtain ⟨hlo, hhi, hnd, hclamp, hshort⟩ := realise_within stock.k (centreOf stock c d + j * c.spacing)
    obtain ⟨hmin, hmax⟩ := codeTicks_range hlo hhi
    exact ⟨hlo, hhi, hnd, rfl, hmin, hmax, hclamp, hshort⟩

/-! ## The bracket plan -/

/-- The rounding of 24 × log2(1 + 0.1 × c), in forty-eighth powers (R37). -/
theorem magnCorrection_rounds : ∀ c ≤ 15,
    10 ^ 48 * 4 ^ magnCorrection c ≤ (10 + c) ^ 48 * 2 ∧ (10 + c) ^ 48 < 10 ^ 48 * 2 ^ (2 * magnCorrection c + 1) := by
  decide

theorem bracketSteps_odd (h : Nat) : bracketSteps (2 * h + 1) = (List.range (2 * h + 1)).map fun i : Nat => (i : Int) - h := by
  have hhalf : (2 * h + 1 - 1) / 2 = h := by omega
  rw [bracketSteps, hhalf]

/-- Settles O24: the rounded terms, the clamp, and the steps of the plan in rising order. -/
theorem bracketPlanTerms : Obligations.BracketPlanTerms := by
  refine ⟨fun c ul ur ll lr => ?_, fun d => ?_, fun d hd => ?_, by decide, ?_, fun adjust shift => ?_, ?_⟩
  · have hbounds := divHalfUp_bounds (a := 4 * c + (ul + ur + ll + lr)) (b := 8) (by decide)
    unfold effectiveDensity
    omega
  · have hbounds := divHalfUp_bounds (a := 2 * d) (b := 5) (by decide)
    unfold densityTwelfths
    omega
  · exact divHalfUp_mono (b := 5) (Nat.mul_le_mul_left 2 hd)
  · rintro c hc m rfl
    exact magnCorrection_rounds c hc
  · unfold adjustTerm clampInt
    refine ⟨fun h => if_pos h, fun h => ?_, fun h => ?_⟩
    · rw [if_neg (by omega), if_pos h]
    · rw [if_neg (by omega), if_neg (by omega)]
  · rintro stock c d dense plan rfl
    refine ⟨rfl, rfl, rfl, rfl, rfl, fun h hn => ?_⟩
    have hsteps : (computePlan stock c d dense).steps
        = (List.range (2 * h + 1)).map fun i : Nat =>
            planStep stock.k c.spacing (centreOf stock c d) dense ((i : Int) - h) := by
      rw [computePlan, hn, bracketSteps_odd, List.map_map]
      rfl
    refine ⟨by rw [hsteps, hn, List.length_map, List.length_range], fun i p hp => ?_⟩
    rw [hsteps, List.getElem?_map, Option.map_eq_some_iff] at hp
    obtain ⟨j, hj, rfl⟩ := hp
    obtain ⟨-, rfl⟩ : i ≤ 2 * h ∧ i = j := by simpa using List.getElem?_eq_some_iff.1 hj
    exact ⟨rfl, rfl, rfl, rfl, rfl⟩

end Sys2Proof.Machine
end

section
/-! SUPPORT. The requests on the stock table and the profile table, each test read as a proposition (R28, R29, R48 to R61). -/

namespace Sys2Proof.Machine

/-! ## A request with one test -/

/-- A request taken at once with a single test of its operands: refused by it, or accepted with its effect (R192). -/
theorem exec_oneTest {c : Instr} {r : Request} {s : State} {kind : Nat} {code : Code} {test tr : Bool} {fields : List Field} {ok : Prop}
    {effect : State → State} (hc : c.request = some r) (hf : LinkFree s) (hok : ok ↔ test = true)
    (h : answerRequest r (hunting s) = answer kind (firstFailing [(test, code)]) (hunting s) tr fields (effect (hunting s))) :
    (¬ok → exec c s = .next (refusedWith kind code s))
      ∧ (ok → exec c s = .next (replied (acceptedMsg kind tr fields) effect s)) := by
  refine ⟨fun hno => exec_refused hc hf ?_, fun hyes => exec_replied hc hf ?_⟩
  · exact h.trans (answer_refused (by rw [firstFailing_cons, if_neg (fun ht => hno (hok.2 ht))]))
  · exact h.trans (answer_accepted (by rw [firstFailing_cons, if_pos (hok.1 hyes), firstFailing_nil]))

theorem firstFailing_eq_none_iff {l : List (Bool × Code)} : firstFailing l = none ↔ ∀ x ∈ l, x.1 = true := by
  refine ⟨firstFailing_none, fun h => ?_⟩
  induction l with
  | nil => rfl
  | cons x xs ih =>
    obtain ⟨hx, hxs⟩ := List.forall_mem_cons.1 h
    exact (if_pos hx).trans (ih hxs)

/-- Tests that all refuse with one code refuse with it. -/
theorem firstFailing_of_code {l : List (Bool × Code)} {code : Code} (hcode : ∀ x ∈ l, x.2 = code) (h : firstFailing l ≠ none) :
    firstFailing l = some code := by
  induction l with
  | nil => exact absurd rfl h
  | cons x xs ih =>
    obtain ⟨hx, hxs⟩ := List.forall_mem_cons.1 hcode
    rw [← hx]
    by_cases hok : x.1 = true
    · have hcons : firstFailing (x :: xs) = firstFailing xs := if_pos hok
      rw [hcons, ih hxs (hcons ▸ h), hx]
    · exact if_neg hok

theorem okCat_iff {x : Nat} : okCat x = true ↔ 1 ≤ x ∧ x ≤ 16777215 := inNat_iff

theorem okCorrection_iff {p : Int} : okCorrection p = true ↔ -24 ≤ p ∧ p ≤ 24 := inInt_iff

theorem okTableSlot_iff {table slot : Nat} :
    okTableSlot table slot = true ↔ (table = 0 ∧ slot ≤ 47) ∨ (table = 1 ∧ slot ≤ 7) := by
  simp only [okTableSlot, Bool.or_eq_true, Bool.and_eq_true, beq_iff_eq, decide_eq_true_eq]

/-! ## SET PROFILE -/

/-- The mode of a number, as a table (R48, R193). -/
theorem modeOf?_eq_some {mode : Nat} {m : ProfileMode}
    (h : (mode, m) ∈ [(0, ProfileMode.learned), (1, .manual), (2, .noLearn)]) : modeOf? mode = some m := by
  simp only [List.mem_cons, Prod.mk.injEq, List.not_mem_nil, or_false] at h
  obtain ⟨rfl, rfl⟩ | ⟨rfl, rfl⟩ | ⟨rfl, rfl⟩ := h <;> rfl

/-- Every value in its range, and a fixed density with the mode MANUAL only (R59, tests 1 and 2). -/
theorem setProfileRange_eq_none_iff {cat mode : Nat} {p : Int} {fixed : Option Nat} :
    setProfileRange cat mode p fixed = none ↔
      (1 ≤ cat ∧ cat ≤ 16777215) ∧ mode ≤ 2 ∧ (-24 ≤ p ∧ p ≤ 24) ∧ ∀ d ∈ fixed, d ≤ 400 ∧ mode = 1 := by
  rw [setProfileRange, firstFailing_eq_none_iff]
  simp only [List.forall_mem_cons, List.not_mem_nil, false_imp_iff, implies_true, and_true, Bool.and_eq_true, okCat_iff,
    okCorrection_iff, decide_eq_true_eq, Bool.or_eq_true, beq_iff_eq]
  cases fixed <;> simp [and_assoc]

/-- Both tests before the search of a slot refuse RANGE. -/
theorem setProfileRange_eq_range {cat mode : Nat} {p : Int} {fixed : Option Nat} (h : setProfileRange cat mode p fixed ≠ none) :
    setProfileRange cat mode p fixed = some .range := firstFailing_of_code (by simp) h

theorem answerSetProfile_range {cat mode : Nat} {p : Int} {fixed : Option Nat} {s : State}
    (h : setProfileRange cat mode p fixed ≠ none) : answerSetProfile cat mode p fixed s = (s, refusedMsg 0x19 .range) := by
  simp only [answerSetProfile, setProfileRange_eq_range h]
  rfl

theorem answerSetProfile_full {cat mode : Nat} {p : Int} {fixed : Option Nat} {s : State}
    (h : setProfileRange cat mode p fixed = none) (hc : s.profiles.choose cat = none) :
    answerSetProfile cat mode p fixed s = (s, refusedMsg 0x19 .full) := by
  simp only [answerSetProfile, h, hc]
  cases modeOf? mode <;> rfl

theorem answerSetProfile_written {cat mode : Nat} {p : Int} {fixed : Option Nat} {s : State} {m : ProfileMode} {c : SlotChoice}
    (h : setProfileRange cat mode p fixed = none) (hm : modeOf? mode = some m) (hc : s.profiles.choose cat = some c) :
    answerSetProfile cat mode p fixed s =
      (s.onProfiles fun _ => c.table.setOriginal c.slot (some (c.entry cat m p fixed)),
        acceptedMsg 0x19 false
          (.u 1 c.slot :: originalFields (some (c.entry cat m p fixed)) ++ listFields (fun x => [.u 3 x]) c.displaced)) := by
  simp only [answerSetProfile, h, hm, hc]
  rfl

/-- The entry written is fixed by its fields (R54): a NOLEARN one has the correction 0, and only a MANUAL one a fixed density. -/
theorem eq_profileEntry {e : OriginalEntry} {cat mode : Nat} {m : ProfileMode} {p : Int} {fixed : Option Nat}
    {old : Option OriginalEntry} (hm : (mode, m) ∈ [(0, ProfileMode.learned), (1, .manual), (2, .noLearn)])
    (hmanual : ∀ d ∈ fixed, mode = 1) (hcat : e.cat = cat) (hmode : e.mode = m) (hp : e.p = if mode = 2 then 0 else p)
    (hfixed : e.fixed = fixed) (hlast : e.last = none) (hold : ∀ o, old = some o → e.used = o.used ∧ e.uses = o.uses)
    (hnew : old = none → e.used = true ∧ e.uses = 0) : e = profileEntry cat m p fixed old := by
  have hp' : e.p = if m = .noLearn then 0 else p := by
    rw [hp]
    simp only [List.mem_cons, Prod.mk.injEq, List.not_mem_nil, or_false] at hm
    obtain ⟨rfl, rfl⟩ | ⟨rfl, rfl⟩ | ⟨rfl, rfl⟩ := hm <;> rfl
  have hfixed' : e.fixed = if m = .manual then fixed else none := by
    rw [hfixed]
    cases fixed with
    | none => exact (ite_self _).symm
    | some d =>
      cases hmanual d rfl
      have : m = .manual := by simpa using hm
      rw [if_pos this]
  cases old with
  | none =>
    obtain ⟨hused, huses⟩ := hnew rfl
    cases e
    simp_all [profileEntry]
  | some o =>
    obtain ⟨hused, huses⟩ := hold o rfl
    cases e
    simp_all [profileEntry]

/-- The entry written into a chosen slot keeps the used mark and uses of the one it replaces in place. -/
theorem eq_slotEntry {c : SlotChoice} {e : OriginalEntry} {cat mode : Nat} {m : ProfileMode} {p : Int} {fixed : Option Nat}
    (hm : (mode, m) ∈ [(0, ProfileMode.learned), (1, .manual), (2, .noLearn)]) (hmanual : ∀ d ∈ fixed, mode = 1)
    (hcat : e.cat = cat) (hmode : e.mode = m) (hp : e.p = if mode = 2 then 0 else p) (hfixed : e.fixed = fixed)
    (hlast : e.last = none)
    (hold : ∀ o, c.inPlace = true → c.table.original? c.slot = some o → e.used = o.used ∧ e.uses = o.uses)
    (hnew : (c.inPlace = false ∨ c.table.original? c.slot = none) → e.used = true ∧ e.uses = 0) : e = c.entry cat m p fixed := by
  refine eq_profileEntry hm hmanual hcat hmode hp hfixed hlast (fun o ho => ?_) fun hnone => ?_
  · cases hin : c.inPlace with
    | true => exact hold o hin (by simpa [hin] using ho)
    | false => simp [hin] at ho
  · cases hin : c.inPlace with
    | true => exact hnew (.inr (by simpa [hin] using hnone))
    | false => exact hnew (.inl hin)

/-- SET PROFILE: its tests, and the entry it writes into the chosen slot (R54, R59). -/
theorem setProfile_spec {cat mode : Nat} {p : Int} {fixed : Option Nat} {s : State} (hf : LinkFree s) :
    (setProfileRange cat mode p fixed ≠ none → exec (.setProfile cat mode p fixed) s = .next (refusedWith 0x19 .range s))
      ∧ (setProfileRange cat mode p fixed = none → s.profiles.choose cat = none →
          exec (.setProfile cat mode p fixed) s = .next (refusedWith 0x19 .full s))
      ∧ (∀ m c, setProfileRange cat mode p fixed = none → modeOf? mode = some m → s.profiles.choose cat = some c →
          exec (.setProfile cat mode p fixed) s = .next
            (replied
              (acceptedMsg 0x19 false
                (.u 1 c.slot :: originalFields (some (c.entry cat m p fixed)) ++ listFields (fun x => [.u 3 x]) c.displaced))
              (fun s => { s with profiles := c.table.setOriginal c.slot (some (c.entry cat m p fixed)) }) s)) :=
  ⟨fun h => exec_refused rfl hf (answerSetProfile_range h), fun h hc => exec_refused rfl hf (answerSetProfile_full h hc),
    fun _ _ h hm hc => exec_replied rfl hf (answerSetProfile_written h hm hc)⟩

/-! ## SET RANGE, DROP PROFILE, SET PLACEMENT -/

/-- The test of SET RANGE, spelled out (R60). -/
theorem setRange_ok_iff {slot base exponent : Nat} {p : Int} :
    (decide (slot ≤ 7) && decide (base ≤ 16777215) && inNat 4 12 exponent && okCorrection p && base % 2 ^ exponent == 0) = true ↔
      slot ≤ 7 ∧ base ≤ 16777215 ∧ (4 ≤ exponent ∧ exponent ≤ 12) ∧ (-24 ≤ p ∧ p ≤ 24) ∧ base % 2 ^ exponent = 0 := by
  simp only [Bool.and_eq_true, decide_eq_true_eq, inNat_iff, okCorrection_iff, beq_iff_eq, and_assoc]

theorem droppedFields_original (slot : Nat) (t : ProfileTable) :
    droppedFields 0 slot t = optFields (fun e => [.u 3 e.cat]) (t.original? slot) := rfl

theorem droppedFields_range (slot : Nat) (t : ProfileTable) :
    droppedFields 1 slot t = optFields (fun r => [.u 3 r.base, .u 1 r.exponent]) (t.range? slot) := rfl

theorem setPlacement_ok_iff {slot : Nat} : (decide (slot ≤ 47) || slot == Config.pointerOff) = true ↔ slot ≤ 47 ∨ slot = 63 := by
  simp only [Bool.or_eq_true, decide_eq_true_eq, beq_iff_eq, Config.pointerOff]

/-- A pointer that names a slot (R55). -/
theorem pointerOf_slot {slot : Nat} (h : slot ≤ 47) : pointerOf slot = some slot := if_neg (by unfold Config.pointerOff; omega)

/-! ## SET STOCK -/

/-- The ranges of a SET STOCK, spelled out (R29, test 1). -/
theorem okStockReq_iff {q : StockReq} :
    okStockReq q = true ↔
      q.stock ≤ 3 ∧ q.enabled ≤ 1 ∧ (24 ≤ q.eRef ∧ q.eRef ≤ 180) ∧ q.k ≤ 6 ∧ q.filter ≤ 36 ∧ q.rate ≤ 9999 := by
  simp only [okStockReq, okStock, Bool.and_eq_true, decide_eq_true_eq, inNat_iff, and_assoc]

theorem cycleOnStock_iff {s : State} {stock : Nat} :
    cycleOnStock s stock = true ↔ ∃ c, s.stand.cycle = some c ∧ c.stock = stock := by
  unfold cycleOnStock
  cases s.stand.cycle <;> simp

theorem backStock_iff {k : Back} {stock : Nat} :
    k.stock? = some stock ↔ ∃ r, k.state ≠ .empty ∧ k.roll = some r ∧ r.stock = stock := by
  unfold Back.stock?
  split
  · rename_i h
    simp [h]
  · rename_i h
    simp [h]

/-- A live order names the stock, or a back holds a roll of it (R29). -/
theorem stockInUse_iff {s : State} {stock : Nat} :
    stockInUse s stock = true ↔
      (∃ o ∈ s.work.orders, o.stock = stock)
        ∨ ∃ b r, (s.back b).state ≠ .empty ∧ (s.back b).roll = some r ∧ r.stock = stock := by
  have hback : (s.film.backA.stock? = some stock ∨ s.film.backB.stock? = some stock) ↔ ∃ b, (s.back b).stock? = some stock := by
    constructor
    · rintro (h | h)
      exacts [⟨.backA, h⟩, ⟨.backB, h⟩]
    · rintro ⟨b, h⟩
      cases b
      exacts [.inl h, .inr h]
  rw [stockInUse, Bool.or_eq_true, Bool.or_eq_true, decide_eq_true_eq, decide_eq_true_eq, or_assoc, hback]
  simp only [List.any_eq_true, beq_iff_eq, backStock_iff]

theorem setStock_spec {q : StockReq} {s : State} (hf : LinkFree s) :
    (¬okStockReq q = true → exec (.setStock q) s = .next (refusedWith 0x17 .range s))
      ∧ (okStockReq q = true → cycleOnStock s q.stock = true → exec (.setStock q) s = .next (refusedWith 0x17 .state s))
      ∧ (okStockReq q = true → ¬cycleOnStock s q.stock = true → q.enabled = 0 → stockInUse s q.stock = true →
          exec (.setStock q) s = .next (refusedWith 0x17 .state s))
      ∧ (okStockReq q = true → ¬cycleOnStock s q.stock = true → ¬(q.enabled = 0 ∧ stockInUse s q.stock = true) →
          exec (.setStock q) s = .next
            (replied (acceptedMsg 0x17 (isCut 8 q.name) (.u 1 q.stock :: (storedEntry q).fields))
              (fun s => { s with stocks := s.stocks.setIfInBounds q.stock (storedEntry q) }) s)) := by
  refine ⟨fun h => ?_, fun h1 h => ?_, fun h1 h2 h3 h => ?_, fun h1 h2 h => ?_⟩
  · exact exec_refused rfl hf (answer_refused (show setStockRefusal q s = some .range by simp [setStockRefusal, h]))
  · exact exec_refused rfl hf (answer_refused (show setStockRefusal q s = some .state by simp [setStockRefusal, h1, h]))
  · exact exec_refused rfl hf (answer_refused (show setStockRefusal q s = some .state by simp [setStockRefusal, h1, h2, h3, h]))
  · refine exec_replied rfl hf (answer_accepted (show setStockRefusal q s = none from ?_))
    have h' : (q.enabled != 0 || !stockInUse s q.stock) = true := by
      simpa only [Bool.or_eq_true, bne_iff_ne, Bool.not_eq_true', ← Bool.not_eq_true] using not_and_or.1 h
    simp [setStockRefusal, h1, h2, h']

/-- Settles O28: each request on the two tables, its tests in their order and the entry it stores. -/
theorem tableRequests : Obligations.TableRequests := by
  refine ⟨fun cat mode p fixed s inRange hf hrange => ?_, fun s hf => ⟨fun slot base exponent p ok hok => ?_,
    fun table slot ok hok => ?_, fun slot => ?_⟩, fun q s inRange inCycle inUse entry hf hrange hcycle huse hentry => ?_⟩
  · obtain ⟨hno, hfull, hwritten⟩ := setProfile_spec (cat := cat) (mode := mode) (p := p) (fixed := fixed) hf
    have htest := hrange.trans setProfileRange_eq_none_iff.symm
    refine ⟨fun h => hno fun hnone => h (htest.2 hnone), fun h => hfull (htest.1 h), ?_⟩
    rintro c entry h hc ⟨m, hm, hcat, hmode, hp, hfixed, hlast⟩ hold hnew
    obtain ⟨-, -, -, hd⟩ := hrange.1 h
    rw [hwritten m c (htest.1 h) (modeOf?_eq_some hm) hc,
      ← eq_slotEntry hm (fun d hmem => (hd d hmem).2) hcat hmode hp hfixed hlast hold hnew]
  · exact exec_oneTest rfl hf (hok.trans setRange_ok_iff.symm) rfl
  · obtain ⟨hno, hyes⟩ := exec_oneTest (c := .dropProfile table slot)
      (effect := fun s => s.onProfiles (dropSlot table slot)) rfl hf (hok.trans okTableSlot_iff.symm) rfl
    refine ⟨hno, ?_, ?_⟩
    · rintro h rfl
      rw [hyes h, droppedFields_original, hunting_profiles]
      cases s.profiles.original? slot <;> rfl
    · rintro h rfl
      rw [hyes h, droppedFields_range, hunting_profiles]
      cases s.profiles.range? slot <;> rfl
  · obtain ⟨hno, hyes⟩ := exec_oneTest (c := .setPlacement slot)
      (effect := fun s => s.onProfiles fun t => { t with pointer := pointerOf slot }) rfl hf setPlacement_ok_iff.symm rfl
    refine ⟨fun h47 h63 => hno (by omega), fun h => ?_, ?_⟩
    · rw [hyes (.inl h), pointerOf_slot h]
      rfl
    · rintro rfl
      exact hyes (.inr rfl)
  · have hstored : entry = storedEntry q := by
      rw [hentry, storedEntry]
      congr 1
      rw [Bool.eq_iff_iff, decide_eq_true_eq, bne_iff_ne]
    rw [hrange, ← okStockReq_iff, hcycle, ← cycleOnStock_iff, huse, ← stockInUse_iff, hstored]
    exact setStock_spec hf

end Sys2Proof.Machine
end

section
/-! SUPPORT. The reads of the tables and units: pages of a list, a set as one byte, the operations awaited, and the fields each read
gives (R31, R62, R63, R69, R82, R108, R127, R166, R184, R195). -/

namespace Sys2Proof.Machine

/-! ## Pages -/

/-- A page of a list, entry by entry. -/
theorem page_eq_map {α : Type} {l : List α} {f : Nat → α} (first count : Nat) (hf : ∀ i < l.length, l[i]? = some (f i)) :
    (l.drop first).take count = (List.range (min count (l.length - first))).map fun i => f (first + i) := by
  refine List.ext_getElem? fun i => ?_
  by_cases hi : i < min count (l.length - first)
  · rw [List.getElem?_take_of_lt (by omega), List.getElem?_drop, hf _ (by omega), List.getElem?_map, List.getElem?_range hi]
    rfl
  · rw [List.getElem?_eq_none (by simp; omega), List.getElem?_eq_none (by simp; omega)]

theorem listFields_map {α β : Type} (g : β → List Field) (f : α → β) (l : List α) :
    listFields g (l.map f) = .u 1 l.length :: l.flatMap fun x => g (f x) := by
  rw [listFields, List.length_map, List.flatMap_map]

/-- A page of numbered slots (R62). -/
theorem pageOf_eq_map {α : Type} {l : List α} {f : Nat → α} (first count : Nat) (hf : ∀ i < l.length, l[i]? = some (f i)) :
    pageOf first count l = (List.range (min count (l.length - first))).map fun i => (first + i, f (first + i)) := by
  have hzip : ((List.range l.length).zip l).length = l.length := by simp
  rw [pageOf, page_eq_map (f := fun i => (i, f i)), hzip]
  intro i hi
  rw [hzip] at hi
  rw [List.getElem?_zip_eq_some]
  exact ⟨List.getElem?_range hi, hf i hi⟩

theorem vector_toList_get? {α : Type} {n i : Nat} (v : Vector (Option α) n) (hi : i < v.toList.length) :
    v.toList[i]? = some (v[i]?).join := by
  rw [Vector.length_toList] at hi
  rw [Vector.getElem?_toList, Vector.getElem?_eq_getElem hi]
  rfl

/-- The stock table as it is read, from stock 0 on (R31). -/
theorem stocks_toList (s : State) : s.stocks.toList = (List.range 4).map s.stock := by
  refine List.ext_getElem (by simp) fun i hi _ => ?_
  rw [Vector.length_toList] at hi
  simp [State.stock, hi]

/-! ## Sets as one byte -/

theorem setByte_testBit (l : List Bool) (i : Nat) : (setByte l).testBit i = (l[i]?).getD false := by
  induction l generalizing i with
  | nil => simp [setByte]
  | cons b bs ih =>
    cases i with
    | zero => cases b <;> simp [setByte, Nat.testBit_zero, Nat.add_mul_mod_self_left]
    | succ i =>
      have hhalf : ((if b then 1 else 0) + 2 * setByte bs) / 2 = setByte bs := by split <;> omega
      rw [setByte, Nat.testBit_succ, hhalf, ih]
      rfl

theorem setByte_lt (l : List Bool) : setByte l < 2 ^ l.length := by
  induction l with
  | nil => decide
  | cons b bs ih =>
    rw [setByte, List.length_cons, pow_succ]
    split <;> omega

/-! ## The operations awaited -/

theorem awaitsJob_iff {s : State} {test : FeederJob → Bool} :
    awaitsJob s test = true ↔
      (∃ o ∈ s.feeder.op, o.ofCycle = true ∧ test o.job = true) ∨ ∃ w ∈ s.feeder.waiting, w.ofCycle = true ∧ test w.job = true := by
  unfold awaitsJob
  cases s.feeder.op <;> simp

theorem isFeed_iff {j : FeederJob} : j.isFeed = true ↔ ∃ p x, j = .feed p x := by cases j <;> simp [FeederJob.isFeed]

theorem isReturn_iff {j : FeederJob} : j.isReturn = true ↔ ∃ p, j = .ret p := by cases j <;> simp [FeederJob.isReturn]

theorem advanceOfCycle_iff {s : State} {b : BackId} :
    advanceOfCycle s b = true ↔
      (∃ a ∈ (s.back b).advance, a.ofCycle = true) ∨ ∃ w ∈ (s.back b).waiting, w.ofCycle = true := by
  unfold advanceOfCycle
  cases (s.back b).advance <;> simp

/-- The operations awaited by a cycle in flight, each by its place in the set (R117). -/
theorem operationsAwaited_iff {s : State} {c : Cycle} (hc : s.stand.cycle = some c) {i : Nat} (hi : i < 8) :
    ((operationsAwaited s c)[i]?).getD false = true ↔
      i = 0 ∧ ((∃ o ∈ s.feeder.op, o.ofCycle = true ∧ ∃ p x, o.job = .feed p x)
          ∨ ∃ w ∈ s.feeder.waiting, w.ofCycle = true ∧ ∃ p x, w.job = .feed p x)
        ∨ i = 1 ∧ ((∃ o ∈ s.film.swap, o.ofCycle = true) ∨ ∃ w ∈ s.film.swapWaiting, w.ofCycle = true)
        ∨ i = 2 ∧ s.head.lamp = .warming ∧ (∀ c ∈ s.stand.cycle, c.cause = none)
        ∨ i = 3 ∧ (∃ o ∈ s.head.meter, o.ofCycle = true)
        ∨ i = 4 ∧ ((∃ o ∈ s.head.ndOp, o.ofCycle = true) ∨ ∃ w ∈ s.head.ndWaiting, w.ofCycle = true)
        ∨ i = 5 ∧ s.stand.expose ≠ none
        ∨ i = 6 ∧ (∃ c ∈ s.stand.cycle, (∃ a ∈ (s.back c.back).advance, a.ofCycle = true)
            ∨ ∃ w ∈ (s.back c.back).waiting, w.ofCycle = true)
        ∨ i = 7 ∧ ((∃ o ∈ s.feeder.op, o.ofCycle = true ∧ ∃ p, o.job = .ret p)
          ∨ ∃ w ∈ s.feeder.waiting, w.ofCycle = true ∧ ∃ p, w.job = .ret p) := by
  obtain rfl | rfl | rfl | rfl | rfl | rfl | rfl | rfl :
    i = 0 ∨ i = 1 ∨ i = 2 ∨ i = 3 ∨ i = 4 ∨ i = 5 ∨ i = 6 ∨ i = 7 := by omega
  all_goals
    simp [operationsAwaited, awaitsJob_iff, isFeed_iff, isReturn_iff, advanceOfCycle_iff, hc, Option.any_eq_true,
      Option.isSome_iff_ne_none]

/-- The set of the operations awaited is fixed by its eight bits. -/
theorem eq_setByte {l : List Bool} {x : Nat} (hl : l.length = 8) (hx : x < 256)
    (h : ∀ i < 8, x.testBit i = true ↔ (l[i]?).getD false = true) : x = setByte l := by
  refine Nat.eq_of_testBit_eq fun i => ?_
  by_cases hi : i < 8
  · rw [Bool.eq_iff_iff, setByte_testBit]
    exact h i hi
  · have hpow : 2 ^ 8 ≤ 2 ^ i := Nat.pow_le_pow_right (by decide) (by omega)
    have hlt : setByte l < 2 ^ 8 := hl ▸ setByte_lt l
    rw [Nat.testBit_lt_two_pow (by omega), Nat.testBit_lt_two_pow (by omega)]

/-! ## The fields of the reads -/

theorem backInCycle_eq (s : State) (b : BackId) : backInCycle s b = s.stand.cycle.any fun c => decide (c.back = b) := by
  unfold backInCycle
  cases s.stand.cycle <;> rfl

/-- The milliseconds left of a warm-up: given just while the lamp is WARMING, within the warm-up's time (R77, R82). -/
theorem warmUpLeft_spec (s : State) :
    ((warmUpLeft s).isSome = true ↔ s.head.lamp = .warming) ∧ ∀ ms ∈ warmUpLeft s, ms ≤ 1500 := by
  unfold warmUpLeft
  split
  · rename_i h
    refine ⟨by simp [h], fun ms hms => ?_⟩
    cases hms
    exact Nat.le_of_lt_succ (Nat.mod_lt _ (by decide))
  · rename_i h
    exact ⟨by simp [h], nofun⟩

/-- The minutes left of the idle timer: given just while it runs, within the minutes it was started with (R79, R82). -/
theorem idleLeft_spec (s : State) :
    (idleLeft s).isSome = s.head.idle.isSome
      ∧ ∀ minutes ∈ idleLeft s, ∀ set ∈ s.head.idle, 1 ≤ minutes ∧ minutes ≤ max 1 set := by
  refine ⟨Option.isSome_map, fun minutes hm set hset => ?_⟩
  rw [idleLeft, hset, Option.map_some] at hm
  cases hm
  have := Nat.mod_lt (Config.freeValue (s.freeIx + 1)) (show max 1 set > 0 by omega)
  omega

/-- The first slot of a table whose entry meets a test. -/
theorem findIdx?_any_eq_some_iff {α : Type} {n k : Nat} {v : Vector (Option α) n} {p : α → Bool} :
    (v.toList.findIdx? fun e => e.any p) = some k ↔
      k < n ∧ (∃ e, (v[k]?).join = some e ∧ p e = true) ∧ ∀ j < k, ∀ f, (v[j]?).join = some f → ¬p f = true := by
  have hslot : ∀ {j}, (hj : j < n) → (v[j]?).join = v[j] := fun hj => by
    rw [Vector.getElem?_eq_getElem hj]
    rfl
  have hany : ∀ {j}, (hj : j < n) → (v[j].any p = true ↔ ∃ e, (v[j]?).join = some e ∧ p e = true) := fun hj => by
    rw [hslot hj, Option.any_eq_true]
  rw [List.findIdx?_eq_some_iff_getElem]
  simp only [Vector.length_toList, Vector.getElem_toList]
  constructor
  · rintro ⟨hk, he, hmin⟩
    exact ⟨hk, (hany hk).1 he, fun j hj f hf hp => hmin j hj ((hany (hj.trans hk)).2 ⟨f, hf, hp⟩)⟩
  · rintro ⟨hk, he, hmin⟩
    refine ⟨hk, (hany hk).2 he, fun j hj h => ?_⟩
    obtain ⟨f, hf, hp⟩ := (hany (hj.trans hk)).1 h
    exact hmin j hj f hf hp

/-- The slot that holds a number is the first whose entry has it (R52). -/
theorem heldBy?_eq_some_iff {t : ProfileTable} {x k : Nat} :
    t.heldBy? x = some k ↔
      k < 48 ∧ (∃ e, t.original? k = some e ∧ e.cat = x) ∧ ∀ j < k, ∀ f, t.original? j = some f → f.cat ≠ x := by
  have hany : t.heldBy? x = t.originals.toList.findIdx? fun e => e.any fun o => o.cat == x :=
    congrArg (List.findIdx? · t.originals.toList) (funext fun e => by cases e <;> rfl)
  rw [hany, findIdx?_any_eq_some_iff]
  simp only [beq_iff_eq, ne_eq, ProfileTable.original?]

/-- The slot a lookup passes over holds the number's NOLEARN entry (R63). -/
theorem passedOver_eq_some_iff {t : ProfileTable} {x k : Nat} :
    passedOver t x = some k ↔
      k < 48 ∧ (∃ e, t.original? k = some e ∧ e.cat = x ∧ e.mode = .noLearn)
        ∧ ∀ j < k, ∀ f, t.original? j = some f → f.cat ≠ x := by
  have hpassed : passedOver t x = some k ↔ t.heldBy? x = some k ∧ ∃ e, t.original? k = some e ∧ e.mode = .noLearn := by
    unfold passedOver
    cases t.heldBy? x with
    | none => simp
    | some j => cases t.original? j <;> grind
  rw [hpassed, heldBy?_eq_some_iff]
  constructor
  · rintro ⟨⟨hk, ⟨e, he, hcat⟩, hmin⟩, f, hf, hmode⟩
    cases he.symm.trans hf
    exact ⟨hk, ⟨e, he, hcat, hmode⟩, hmin⟩
  · rintro ⟨hk, ⟨e, he, hcat, hmode⟩, hmin⟩
    exact ⟨⟨hk, ⟨e, he, hcat⟩, hmin⟩, e, he, hmode⟩

theorem busyPosition_of_holds {s : State} {p x : Nat} (h : s.feeder.gate = .holds p x) : busyPosition s = some p := by
  simp only [busyPosition, h]

theorem busyPosition_of_not_holds {s : State} (h : ∀ p x, s.feeder.gate ≠ .holds p x) :
    busyPosition s = s.feeder.feedBusy.head? := by
  unfold busyPosition
  cases hg : s.feeder.gate with
  | holds p x => exact absurd hg (h p x)
  | empty => rfl
  | foreign => rfl

/-- The fields of a tray page, for the two pages there are (R69, R195). -/
theorem trayFields_page {s : State} {first : Nat} (h : first = 0 ∨ first = 40) :
    trayFields s first = List.flatten
      [[presentField s.feeder.present], optU 1 s.feeder.pos, s.feeder.gate.fields, [.u 1 (jobNumber s.feeder.op)],
       optU 1 (busyPosition s), [.u 1 first, .u 1 40], (List.range 40).map fun i => .u 3 ((s.mapAt (first + i)).getD 0)] := by
  have hlen : min 40 (s.feeder.map.toList.length - first) = 40 := by
    rw [Vector.length_toList]
    omega
  rw [trayFields, page_eq_map (f := s.mapAt) first 40 fun i hi => vector_toList_get? _ hi, hlen, listFields_map]
  simp [List.map_eq_flatMap]

/-- The fields of READ HEAD with the readings written out (R80, R82). -/
theorem headFields_eq (s : State) :
    headFields s = List.flatten
      [[.u 1 s.head.lamp.number], optU 2 (warmUpLeft s), optU 1 (idleLeft s), optU 1 s.head.nd,
       [yesNo s.head.meter.isSome, yesNo s.head.ndOp.isSome], optFields Readings.fields s.head.readings] := by
  simp [headFields]

/-- The fields of the line form of READ LABELS (R166, R195). -/
theorem labelsLine_eq (s : State) (first : Nat) :
    labelsLine s first = List.flatten
      [s.labels.line.fields, optFields (fun k => k.fields ++ [yesNo s.labels.timedOut]) s.labels.head,
       [yesNo s.labels.pausePending], s.labels.run.fields,
       [.u 1 (tokenNumber s.labels.lastToken), .u 2 s.labels.date, .u 1 s.labels.queue.length,
        .u 2 (labelsWith .waiting s).length, .u 2 (labelsWith .printed s).length, .u 2 (labelsWith .failed s).length,
        .u 1 first],
       listFields
        (fun k : LabelKey =>
          [.u 3 k.roll, .u 1 k.frame, .u 3 (((labelRecord? s k).map fun r => r.cat).getD 0),
           .u 2 (((labelRecord? s k).map fun r => r.account).getD 0), yesNo (decide (s.labels.head = some k))])
        ((s.labels.queue.drop first).take 16)] := by
  have hqueued : queuedFields s = fun k : LabelKey =>
      [.u 3 k.roll, .u 1 k.frame, .u 3 (((labelRecord? s k).map fun r => r.cat).getD 0),
       .u 2 (((labelRecord? s k).map fun r => r.account).getD 0), yesNo (decide (s.labels.head = some k))] := by
    funext k
    unfold queuedFields
    cases labelRecord? s k <;> rfl
  rw [labelsLine, hqueued]
  simp

/-- A page of counters (R184, R195). -/
theorem counterPage_eq (s : State) (first : Nat) :
    counterPage s first =
      .u 1 (min 8 (16 - first)) :: (List.range (min 8 (16 - first))).flatMap fun i =>
        .u 1 (first + i) :: (counterAt s.tally.counters (first + i)).fields := by
  rw [counterPage, page_eq_map (f := fun i => i) first 8 fun i hi => List.getElem?_range (by simpa using hi), listFields_map,
    List.length_range, List.length_range]

/-- A page of original slots (R62). -/
theorem originalPage_eq (t : ProfileTable) (first : Nat) :
    listFields (fun x => .u 1 x.1 :: originalFields x.2) (pageOf first 12 t.originals.toList) =
      .u 1 (min 12 (48 - first)) :: (List.range (min 12 (48 - first))).flatMap fun i =>
        .u 1 (first + i) :: originalFields (t.original? (first + i)) := by
  rw [pageOf_eq_map (f := t.original?) first 12 fun i hi => vector_toList_get? _ hi, listFields_map, List.length_range,
    Vector.length_toList]

/-- A page of range slots (R62): all that are left from the first on. -/
theorem rangePage_eq (t : ProfileTable) (first : Nat) :
    listFields (fun x => .u 1 x.1 :: rangeFields x.2) (pageOf first 8 t.ranges.toList) =
      .u 1 (8 - first) :: (List.range (8 - first)).flatMap fun i => .u 1 (first + i) :: rangeFields (t.range? (first + i)) := by
  rw [pageOf_eq_map (f := t.range?) first 8 fun i hi => vector_toList_get? _ hi, listFields_map, List.length_range,
    Vector.length_toList, Nat.min_eq_right (Nat.sub_le 8 first)]

/-- What READ BACK gives of the roll in a back (R108). -/
theorem rollBackFields_eq (r : Roll) :
    r.backFields = List.flatten
      [[.u 3 r.id, .u 1 r.stock, .u 1 r.declared, .u 1 r.next,
        .u 1 (if r.endMark = none then r.declared + 1 - r.next else 0), .u 4 r.loadSeq],
       optU 1 r.endMark,
       [.u 1 r.groups.length, .u 1 r.frames.length],
       optFields (fun g => [.u 1 g.first, .u 1 g.completeness.number, .u 1 g.exposed]) r.groups.getLast?] := by
  have hleft : r.remaining = if r.endMark = none then r.declared + 1 - r.next else 0 := by
    unfold Roll.remaining
    cases r.endMark <;> rfl
  rw [Roll.backFields, hleft]
  simp

/-- What READ BACK gives of one back (R108). -/
theorem backFields_eq (s : State) (b : BackId) :
    backFields s b = List.flatten
      [(s.back b).state.fields,
       [.u 1 (s.back b).gateFrame.number, .u 1 (advanceNumber (s.back b).advance), yesNo (s.back b).owed],
       if (s.back b).state = .leader then [.u 1 (s.back b).leaderLeft] else [],
       [yesNo (s.stand.cycle.any fun c => decide (c.back = b))],
       (s.back b).roll.elim [] Roll.backFields] := by
  rw [backFields, backInCycle_eq]
  cases (s.back b).roll <;> simp

/-- The phase of a cycle with the step it names (R117, R127). -/
theorem phaseFields_eq {c : Cycle} {stepNumber : Nat → Int}
    (h : ∀ i, stepNumber i = ((c.plan.bind fun p => p.steps[i]?).map fun p => p.j).getD 0) :
    c.phaseFields =
      match c.phase with
      | .loading => [.u 1 0]
      | .metering => [.u 1 1]
      | .exposing => [.u 1 2, .i 1 (stepNumber c.nextStep)]
      | .advancing => [.u 1 3, .i 1 (stepNumber (c.nextStep - 1))]
      | .finishing => [.u 1 4]
      | .ending => [.u 1 5] := by
  obtain rfl : c.stepNumber = stepNumber := funext fun i => (h i).symm
  unfold Cycle.phaseFields
  cases c.phase <;> rfl

/-- What READ STAND gives of the cycle in flight, with its presence byte (R127). -/
theorem cycleFields_eq (s : State) (c : Cycle) :
    optFields (cycleFields s) (some c) = List.flatten
      [[.u 1 1, .u 2 c.order, .u 1 c.slide, .u 3 c.cat, .u 1 c.attempt, .u 1 (backNumber c.back), .u 1 c.pos],
       c.phaseFields,
       optFields (fun x => [.u 1 (AbortCause.number x)]) c.cause,
       optU 1 c.groupFirst,
       [.u 1 ((cycleGroup s c).elim 0 fun g => g.exposed), .u 1 ((cycleFrames s c).countP fun f => f.kind = .spoilt),
        .u 1 (setByte (operationsAwaited s c))]] := by
  simp [optFields, cycleFields]

/-- A read that is accepted, by the fields it gives. -/
theorem exec_readFields {c : Instr} {r : Request} {s : State} {kind : Nat} {given fields : List Field} (hc : c.request = some r)
    (hf : LinkFree s) (h : answerRequest r (hunting s) = (hunting s, acceptedMsg kind false given)) (heq : given = fields) :
    exec c s = .next (replied (acceptedMsg kind false fields) id s) := heq ▸ exec_read hc hf h

/-- Settles O32: each read with the fields it gives, and the state it leaves as it was. -/
theorem readsChangeNothing : Obligations.ReadsChangeNothing := by
  intro s hf
  refine ⟨?_, fun page hpage => ?_, fun page awaited haw hlt hnone hsome => ?_, ?_, fun first busy hholds helse => ?_,
    fun first => ?_, fun first => ?_, fun cat passed hpassed => ?_, fun table first => ?_⟩
  · refine exec_readFields rfl hf rfl ?_
    change s.stocks.toList.flatMap StockEntry.fields = _
    rw [stocks_toList, List.flatMap_map]
    rfl
  · refine exec_readFields rfl hf rfl ?_
    have hback : ∀ b, backFields s b = page b := fun b => by
      rw [backFields_eq, hpage]
      cases (s.back b).roll with
      | none => rfl
      | some r =>
        rw [Option.elim_some, rollBackFields_eq]
        dsimp only
        cases r.groups.getLast? <;> rfl
    change s.film.turret.fields ++ optFields (fun o => [.u 1 (backNumber o.target)]) s.film.swap ++ backFields s .backA
      ++ backFields s .backB = _
    rw [hback, hback]
    cases s.film.swap <;> simp [optFields]
  · refine exec_readFields rfl hf rfl ?_
    have hpage : optFields (cycleFields s) s.stand.cycle = page := by
      cases hc : s.stand.cycle with
      | none => exact (hnone hc).symm
      | some c =>
        have hset : awaited = setByte (operationsAwaited s c) :=
          eq_setByte rfl hlt fun i hi => (haw i hi).trans (operationsAwaited_iff hc hi).symm
        rw [hsome c c.stepNumber hc fun _ => rfl, hset, cycleFields_eq, phaseFields_eq fun _ => rfl]
        cases c.cause <;> cases cycleGroup s c <;> rfl
    change s.stand.mode.fields ++ s.stand.settings.fields ++ optFields (cycleFields s) s.stand.cycle = _
    rw [hpage]
    simp
  · obtain ⟨hwarm, hms⟩ := warmUpLeft_spec s
    obtain ⟨hidle, hmin⟩ := idleLeft_spec s
    refine ⟨warmUpLeft s, idleLeft s, hwarm, hms, hidle, hmin, exec_replied rfl hf (Prod.ext rfl ?_)⟩
    change acceptedMsg 0x20 false (headFields s) = _
    rw [headFields_eq]
    cases s.head.readings <;> rfl
  · have hbusy : busy = busyPosition s := by
      by_cases hg : ∃ p x, s.feeder.gate = .holds p x
      · obtain ⟨p, x, hg⟩ := hg
        rw [hholds p x hg, busyPosition_of_holds hg]
      · have hno : ∀ p x, s.feeder.gate ≠ .holds p x := fun p x h => hg ⟨p, x, h⟩
        rw [helse hno, busyPosition_of_not_holds hno]
    obtain ⟨hrefused, hread⟩ := exec_oneTest (c := .readTray first) (ok := first = 0 ∨ first = 40) (effect := id) rfl hf
      (by simp) rfl
    refine ⟨fun h => ?_, fun h0 h40 => hrefused (by omega)⟩
    rw [hread h, hbusy]
    change Host.Outcome.next (replied (acceptedMsg 0x1F false (trayFields s first)) id s) = _
    rw [trayFields_page h]
    cases s.feeder.op <;> rfl
  · obtain ⟨hrefused, hread⟩ := exec_oneTest (c := .readLabelsLine first) (ok := first ≤ 31) (effect := id) rfl hf
      decide_eq_true_iff.symm rfl
    refine ⟨fun h => (hread h).trans ?_, fun h => hrefused (by omega)⟩
    change Host.Outcome.next (replied (acceptedMsg 0x35 false (labelsLine s first)) id s) = _
    rw [labelsLine_eq]
    cases s.labels.head <;> rfl
  · obtain ⟨hrefused, hread⟩ := exec_oneTest (c := .readCounters first) (ok := first ≤ 15) (effect := id) rfl hf
      decide_eq_true_iff.symm rfl
    refine ⟨fun h => (hread h).trans ?_, fun h => hrefused (by omega)⟩
    change Host.Outcome.next (replied (acceptedMsg 0x3B false
      (.u 2 s.tally.period :: s.tally.rateFields ++ [.u 1 first] ++ counterPage s first)) id s) = _
    rw [counterPage_eq]
    simp [Tally.rateFields]
  · have hover : passed = passedOver s.profiles cat := Option.ext fun k => (hpassed k).trans passedOver_eq_some_iff.symm
    obtain ⟨hrefused, hread⟩ := exec_oneTest (c := .readProfileLookup cat) (ok := 1 ≤ cat ∧ cat ≤ 16777215) (effect := id) rfl hf
      okCat_iff.symm rfl
    refine ⟨fun h => (hread h).trans ?_, hrefused⟩
    rw [hunting_profiles, lookupFields, hover]
    simp
  · obtain ⟨hrefused, hread⟩ := exec_oneTest (c := .readProfileTable table first)
      (ok := (table = 0 ∧ first ≤ 47) ∨ (table = 1 ∧ first ≤ 7)) (effect := id) rfl hf okTableSlot_iff.symm rfl
    rw [hunting_profiles, originalPage_eq, rangePage_eq] at hread
    refine ⟨fun h => ?_, fun h => ?_, fun h0 h1 => hrefused (by tauto)⟩
    · rw [hread (.inl h), if_pos h.1]
      simp [pointerField, Config.pointerOff]
    · rw [hread (.inr h), if_neg (by omega)]
      simp [pointerField, Config.pointerOff]

end Sys2Proof.Machine
end

section
/-! SUPPORT. The events of the light head: the end of an event that no choice follows, a halt report with no cycle in flight, the lamp,
METER and ND SET (R34, R77 to R81, R113). -/

namespace Sys2Proof.Machine

/-! ## Events that no choice follows -/

/-- With the work list as it was no order has moved, the numbers of the live orders being different. -/
theorem not_orderMoved {s t : State} {o : Order} (hd : NumbersDistinct s) (hw : t.work = s.work) (ho : o ∈ s.work.orders) :
    ¬orderMoved t o = true := by
  rw [orderMoved_iff, hw]
  rintro (hno | ⟨p, hp, hmoved⟩)
  · exact hno o ho ⟨rfl, rfl⟩
  · have hnum : p.number = o.number := (by simpa using List.find?_some hp : p.number = o.number ∧ p.seq = o.seq).1
    obtain rfl : p = o := List.inj_on_of_nodup_map hd (List.mem_of_find?_eq_some hp) ho hnum
    rcases hmoved with ⟨⟨r, hheld⟩, hno⟩ | ⟨hexp, hpend⟩
    · exact hno r hheld
    · rw [hexp] at hpend
      cases hpend

theorem not_choiceTriggered {s t : State} (hd : NumbersDistinct s) (hw : t.work = s.work) (hstand : t.stand = s.stand)
    (hfilm : t.film = s.film) : ¬choiceTriggered s t = true := by
  have hback : ∀ b, t.back b = s.back b := fun b => by cases b <;> simp only [State.back, hfilm]
  rw [choiceTriggered_iff, hstand]
  rintro (⟨h1, h2⟩ | ⟨h1, h2⟩ | ⟨o, ho, hmoved⟩ | ⟨b, h1, h2⟩ | h)
  · exact h1 h2
  · rw [h2] at h1
    cases h1
  · exact not_orderMoved hd hw ho hmoved
  · exact h1 (hback b ▸ h2)
  · exact h rfl

/-- An event of the head alone runs no choice. -/
theorem eventEnd_of_head {s : State} (hd : NumbersDistinct s) (f : Head → Head) :
    eventEnd false s (s.onHead f) = standEnd s (s.onHead f) := by
  have : ¬(false || choiceTriggered s (s.onHead f)) = true := not_choiceTriggered hd rfl rfl rfl
  rw [eventEnd, if_neg this]

/-- An event that changes nothing ends with nothing changed. -/
theorem eventEnd_self {s : State} (hd : NumbersDistinct s) : eventEnd false s s = s := by
  exact (eventEnd_of_head hd id).trans (if_pos ⟨rfl, rfl, rfl⟩)

/-- A stand that is not RUNNING runs no choice (R10). -/
theorem eventEnd_of_not_running {asked : Bool} {s t : State} (h : t.stand.mode ≠ .running) :
    eventEnd asked s t = standEnd s t := by
  have : runChoice t = t := by
    rw [runChoice, if_neg]
    simp [choiceAllowed, h]
  rw [eventEnd, this, ite_self]

/-! ## Halt reports with no cycle in flight -/

theorem setStandMode_halted (r : HaltReason) (s : State) :
    setStandMode (.halted r) s =
      { s with stand := { s.stand with mode := .halted r }, head := { s.head with idle := none } } := rfl

/-- With no cycle in flight a halt report of a stand at work does no more than halt it (R113); `t` is the state the report finds. -/
theorem haltReport_of_none {s t : State} (r : HaltReason) (hw : AtWork s) (hc : s.stand.cycle = none)
    (ht : t.stand = s.stand) : haltReport r false t = setStandMode (.halted r) t := by
  rw [← ht] at hc
  have habort : abortCycle (.halt r) (some (.halted r)) t = setStandMode (.halted r) t := by
    simp only [abortCycle, hc, setModeIf]
  rw [haltReport_atWork (by rwa [AtWork, ht]), abort, habort]
  exact tryEndAborted_of_none hc

/-- The event ends with the stand HALTED and one STAND CHANGED (R110, R113). -/
theorem eventEnd_halted {s t : State} {r : HaltReason} (hw : AtWork s) :
    eventEnd false s (setStandMode (.halted r) t) = haltedWith r t := by
  have hmode : s.stand.mode ≠ .halted r := by rcases hw with h | h <;> rw [h] <;> nofun
  rw [eventEnd_of_not_running (by rw [setStandMode_halted]; nofun), standEnd, if_neg fun h => hmode h.1]
  rfl

theorem tryPlan_of_none {s : State} (h : s.stand.cycle = none) : tryPlan s = s := by simp only [tryPlan, h]

/-! ## The lamp and the idle timer -/

theorem warmUpEvent_of_warming {s : State} (h : s.head.lamp = .warming) (sense : Bool) :
    warmUpEvent sense s = if sense then tryPlan { s with head := { s.head with lamp := .ready } } else lampFail s := if_pos h

theorem lampFailureEvent_of_lit {s : State} (h : s.head.lamp = .warming ∨ s.head.lamp = .ready) :
    lampFailureEvent s = lampFail s := if_pos h

theorem lampOff_of_dark {s : State} (h : s.head.lamp = .off ∨ s.head.lamp = .failed) : lampOff s = s := by
  have : ¬(s.head.lamp = .warming ∨ s.head.lamp = .ready) := by rcases h with h | h <;> simp [h]
  rw [lampOff, State.onHead, if_neg this]

theorem stopIdle_lampOff_of_lit {s : State} (h : s.head.lamp = .warming ∨ s.head.lamp = .ready) :
    stopIdle (lampOff s) = s.onHead fun x => { x with idle := none, lamp := .off } := by
  rw [lampOff, State.onHead, if_pos h]
  rfl

theorem idleExpiry_of_none {s : State} (hd : NumbersDistinct s) (h : s.head.idle = none) : exec .idleTimerExpiry s = .next s := by
  change Host.Outcome.next (eventEnd false s (idleExpiryEvent s)) = _
  rw [idleExpiryEvent, if_neg (by simp [h]), eventEnd_self hd]

/-- The idle timer's expiry finds the lamp OFF or FAILED: nothing but the timer stops (R79). -/
theorem idleExpiry_of_dark {s : State} (hd : NumbersDistinct s) (hi : s.head.idle.isSome = true)
    (h : s.head.lamp = .off ∨ s.head.lamp = .failed) :
    exec .idleTimerExpiry s = .next { s with head := { s.head with idle := none } } := by
  change Host.Outcome.next (eventEnd false s (idleExpiryEvent s)) = _
  rw [idleExpiryEvent, if_pos hi, lampOff_of_dark h, stopIdle, eventEnd_of_head hd, standEnd, if_pos ⟨rfl, rfl, rfl⟩]
  rfl

/-- The idle timer's expiry finds the lamp lit: it is switched off, with one STAND CHANGED (R79, R110). -/
theorem idleExpiry_of_lit {s : State} (hd : NumbersDistinct s) (hi : s.head.idle.isSome = true)
    (h : s.head.lamp = .warming ∨ s.head.lamp = .ready) :
    exec .idleTimerExpiry s = .next
      (queueNotice (.standChanged s.stand.mode .off s.feeder.present)
        { s with head := { s.head with idle := none, lamp := .off } }) := by
  have hlamp : s.head.lamp ≠ .off := by rcases h with h | h <;> rw [h] <;> nofun
  change Host.Outcome.next (eventEnd false s (idleExpiryEvent s)) = _
  rw [idleExpiryEvent, if_pos hi, stopIdle_lampOff_of_lit h, eventEnd_of_head hd, standEnd, if_neg fun h => hlamp h.2.1]
  rfl

/-! ## METER -/

/-- The readings taken, with the density of them given by the bounds of its rounding (R34, R80). -/
theorem takeReadings_eq {r : Readings} {cat a b c d e : Nat}
    (hd : ∀ sum, sum = 4 * min 400 a + min 400 b + min 400 c + min 400 d + min 400 e →
      16 * r.d ≤ 2 * sum + 8 ∧ 2 * sum + 8 < 16 * (r.d + 1))
    (hr : r = { centre := min 400 a, upperLeft := min 400 b, upperRight := min 400 c, lowerLeft := min 400 d,
                lowerRight := min 400 e, d := r.d,
                dense := decide (400 < a ∨ 400 < b ∨ 400 < c ∨ 400 < d ∨ 400 < e), cat := cat }) :
    takeReadings cat a b c d e = r := by
  have hdensity : effectiveDensity (min 400 a) (min 400 b) (min 400 c) (min 400 d) (min 400 e) = r.d := by
    obtain ⟨hlo, hhi⟩ := hd _ rfl
    rw [effectiveDensity, divHalfUp_eq_iff (by decide)]
    omega
  have hdense : ([a, b, c, d, e].any fun x => decide (400 < x)) = decide (400 < a ∨ 400 < b ∨ 400 < c ∨ 400 < d ∨ 400 < e) := by
    simp only [List.any_cons, List.any_nil, Bool.or_false, Bool.decide_or]
  refine Eq.trans ?_ hr.symm
  rw [← hdensity, ← hdense]
  rfl

theorem meterEvent_of_cycle {f : Nat → Readings} {s : State} {m : MeterOp} {c : Cycle} (hm : s.head.meter = some m)
    (hof : m.ofCycle = true) (hc : s.stand.cycle = some c) :
    meterEvent f s =
      takePlan c (f m.cat).d (f m.cat).dense { s with head := { s.head with meter := none, readings := some (f m.cat) } } := by
  simp only [meterEvent, hm, hof, hc, if_true, State.onHead]

theorem meterEvent_of_no_cycle {f : Nat → Readings} {s : State} {m : MeterOp} (hm : s.head.meter = some m)
    (hof : m.ofCycle = true) (hc : s.stand.cycle = none) :
    meterEvent f s = { s with head := { s.head with meter := none, readings := some (f m.cat) } } := by
  simp only [meterEvent, hm, hof, hc, if_true, State.onHead]

theorem meterEvent_disowned {f : Nat → Readings} {s : State} {m : MeterOp} (hm : s.head.meter = some m) (hof : m.ofCycle = false) :
    meterEvent f s = tryPlan { s with head := { s.head with meter := none, readings := some (f m.cat) } } := by
  simp only [meterEvent, hm, hof, Bool.false_eq_true, if_false, State.onHead]

theorem meterTimeoutEvent_of_some {s : State} {m : MeterOp} (hm : s.head.meter = some m) :
    meterTimeoutEvent s = tryPlan (haltReport .meterTimeout m.stale { s with head := { s.head with meter := none } }) := by
  simp only [meterTimeoutEvent, hm, State.onHead]

/-! ## ND SET -/

theorem askNd_of_idle {s : State} (target : Nat) (ofCycle : Bool) (hop : s.head.ndOp = none) (hw : s.head.ndWaiting = []) :
    askNd target ofCycle s = beginNd target ofCycle s := if_pos ⟨by rw [hop]; rfl, hw⟩

theorem askNd_of_busy {s : State} (target : Nat) (ofCycle : Bool) (h : s.head.ndOp ≠ none ∨ s.head.ndWaiting ≠ []) :
    askNd target ofCycle s
      = { s with head := { s.head with ndWaiting := s.head.ndWaiting ++ [{ target := target, ofCycle := ofCycle }] } } := by
  have hno : ¬(s.head.ndOp.isNone = true ∧ s.head.ndWaiting = []) := by
    rw [Option.isNone_iff_eq_none, not_and_or]
    exact h
  rw [askNd, if_neg hno]
  rfl

theorem startWaitingNd_of_none {s : State} (h : s.head.ndOp.isSome = true ∨ s.head.ndWaiting = []) : startWaitingNd s = s := by
  unfold startWaitingNd
  split
  · rename_i hop hw
    simp [hop, hw] at h
  · rfl

theorem startWaitingNd_of_cons {s : State} {w : NdWait} {ws : List NdWait} (hop : s.head.ndOp = none)
    (hw : s.head.ndWaiting = w :: ws) :
    startWaitingNd s = beginNd w.target w.ofCycle { s with head := { s.head with ndWaiting := ws } } := by
  simp only [startWaitingNd, hop, hw, State.onHead]

theorem ndTimeoutEvent_of_some {s : State} {o : NdOp} (ho : s.head.ndOp = some o) :
    ndTimeoutEvent s = haltReport .ndTimeout o.stale { s with head := { s.head with nd := none, ndOp := none } } := by
  simp only [ndTimeoutEvent, ho, State.onHead]

/-- Settles O47: each event of the light head, with the halts it reports. -/
theorem lightHeadEvents : Obligations.LightHeadEvents := by
  intro s hd
  have hself := eventEnd_self hd
  refine ⟨fun sense h => ?_, fun h => ?_, fun c t ht hcase => ?_, fun h => ?_, idleExpiry_of_none hd, ?_,
    fun a b c d e => ⟨fun h => ?_, fun m r t hm hdensity hr ht => ?_⟩, fun h => ?_, ?_,
    fun target ofCycle => ⟨askNd_of_idle target ofCycle, askNd_of_busy target ofCycle⟩,
    fun h => congrArg Host.Outcome.next (startWaitingNd_of_none h),
    fun w ws hop hw => congrArg Host.Outcome.next (startWaitingNd_of_cons hop hw), fun h => ⟨?_, ?_⟩, fun o ho => ?_, ?_⟩
  · change Host.Outcome.next (eventEnd false s (warmUpEvent sense s)) = _
    rw [warmUpEvent, if_neg h, hself]
  · change Host.Outcome.next (eventEnd false s (warmUpEvent true s)) = _
    rw [warmUpEvent_of_warming h, if_pos rfl]
  · have hexec : exec c s = .next (eventEnd false s (haltReport .lampFail false t)) := by
      subst ht
      obtain ⟨rfl, h⟩ | ⟨rfl, h⟩ := hcase
      · change Host.Outcome.next (eventEnd false s (warmUpEvent false s)) = _
        rw [warmUpEvent_of_warming h]
        rfl
      · change Host.Outcome.next (eventEnd false s (lampFailureEvent s)) = _
        rw [lampFailureEvent_of_lit h]
        rfl
    refine ⟨hexec, fun hc hw => ?_⟩
    rw [hexec, haltReport_of_none _ hw hc (by rw [ht]), eventEnd_halted hw]
  · have hno : ¬(s.head.lamp = .warming ∨ s.head.lamp = .ready) := by rcases h with h | h <;> simp [h]
    change Host.Outcome.next (eventEnd false s (lampFailureEvent s)) = _
    rw [lampFailureEvent, if_neg hno, hself]
  · rintro t hi rfl
    exact ⟨idleExpiry_of_dark hd hi, idleExpiry_of_lit hd hi⟩
  · change Host.Outcome.next (meterEvent _ s) = _
    simp only [meterEvent, h]
  · have hread := takeReadings_eq hdensity hr
    subst ht
    refine ⟨fun y hof hy => ?_, fun hof => ?_, fun hof hnone => ?_⟩ <;> change Host.Outcome.next (meterEvent _ s) = _
    · rw [meterEvent_of_cycle hm hof hy, hread]
    · rw [meterEvent_disowned hm hof, hread]
    · rw [meterEvent_of_no_cycle hm hof hnone, hread]
  · change Host.Outcome.next (eventEnd false s (meterTimeoutEvent s)) = _
    rw [meterTimeoutEvent, h]
    exact congrArg Host.Outcome.next hself
  · intro m t hm ht
    have hexec : exec .meterTimeout s = .next (eventEnd false s (tryPlan (haltReport .meterTimeout m.stale t))) := by
      rw [ht, ← meterTimeoutEvent_of_some hm]
      rfl
    refine ⟨hexec, fun hc hstale hw => ?_⟩
    have hcycle : (setStandMode (.halted .meterTimeout) t).stand.cycle = none := by rw [setStandMode_halted, ht]; exact hc
    rw [hexec, hstale, haltReport_of_none _ hw hc (by rw [ht]), tryPlan_of_none hcycle, eventEnd_halted hw]
  · change Host.Outcome.next (ndCompleteEvent s) = _
    simp only [ndCompleteEvent, h]
  · change Host.Outcome.next (eventEnd false s (ndTimeoutEvent s)) = _
    rw [ndTimeoutEvent, h]
    exact congrArg Host.Outcome.next hself
  · change Host.Outcome.next (ndCompleteEvent s) = _
    simp only [ndCompleteEvent, ho, State.onHead]
  · intro o t ho ht
    have hexec : exec .ndTimeout s = .next (eventEnd false s (haltReport .ndTimeout o.stale t)) := by
      rw [ht, ← ndTimeoutEvent_of_some ho]
      rfl
    refine ⟨hexec, fun hc hstale hw => ?_⟩
    rw [hexec, hstale, haltReport_of_none _ hw hc (by rw [ht]), eventEnd_halted hw]

end Sys2Proof.Machine
end

section
/-! SUPPORT. The profile table: its slots after each update, the searches for a slot, what a choice can answer, and the lookup, the
choice and the learning of R50 to R58 read off these. -/

namespace Sys2Proof.Machine

/-! ## Slots after an update -/

theorem join_setIfInBounds {α : Type} {n : Nat} (v : Vector (Option α) n) (k j : Nat) (e : Option α) :
    ((v.setIfInBounds k e)[j]?).join = if j = k ∧ j < n then e else (v[j]?).join := by
  rw [Vector.getElem?_setIfInBounds]
  by_cases hk : k = j
  · subst hk
    by_cases hn : k < n <;> simp [hn]
  · simp [hk, Ne.symm hk]

theorem lt_of_join {α : Type} {n k : Nat} {v : Vector (Option α) n} {e : α} (h : (v[k]?).join = some e) : k < n := by
  by_contra hk
  rw [Vector.getElem?_eq_none (by omega)] at h
  cases h

theorem lt_of_original? {t : ProfileTable} {k : Nat} {e : OriginalEntry} (h : t.original? k = some e) : k < 48 := lt_of_join h

theorem lt_of_range? {t : ProfileTable} {k : Nat} {r : RangeEntry} (h : t.range? k = some r) : k < 8 := lt_of_join h

section

variable (t : ProfileTable) (j k : Nat)

theorem original?_setOriginal (e : Option OriginalEntry) :
    (t.setOriginal k e).original? j = if j = k ∧ j < 48 then e else t.original? j := join_setIfInBounds _ _ _ _

theorem range?_setRange (r : Option RangeEntry) :
    (t.setRange k r).range? j = if j = k ∧ j < 8 then r else t.range? j := join_setIfInBounds _ _ _ _


/-- Only the used marks of LEARNED entries are cleared (R53, step 4). -/
theorem original?_clearMarks :
    t.clearMarks.original? j = (t.original? j).map fun o => if o.mode = .learned then { o with used := false } else o := by
  rw [ProfileTable.original?, ProfileTable.clearMarks, mapVec_eq_map, Vector.getElem?_map, ProfileTable.original?]
  cases t.originals[j]? <;> rfl

end

/-! ## Searches -/

/-- The first slot whose valid entry meets a test. -/
def ProfileTable.first? (t : ProfileTable) (p : OriginalEntry → Bool) : Option Nat :=
  t.originals.toList.findIdx? fun e => e.any p

theorem first?_eq_some_iff {t : ProfileTable} {p : OriginalEntry → Bool} {k : Nat} :
    t.first? p = some k ↔
      (∃ e, t.original? k = some e ∧ p e = true) ∧ ∀ j < k, ∀ f, t.original? j = some f → ¬p f = true := by
  rw [ProfileTable.first?, findIdx?_any_eq_some_iff]
  exact ⟨And.right, fun h => ⟨h.1.elim fun _ he => lt_of_join he.1, h⟩⟩

theorem first?_eq_none_iff {t : ProfileTable} {p : OriginalEntry → Bool} :
    t.first? p = none ↔ ∀ j f, t.original? j = some f → ¬p f = true := by
  rw [ProfileTable.first?, List.findIdx?_eq_none_iff]
  constructor
  · intro h j f hf
    have hj : j < t.originals.toList.length := by simpa using lt_of_original? hf
    have hget : t.originals.toList[j] = some f := by
      rw [ProfileTable.original?, Vector.getElem?_eq_getElem (lt_of_original? hf)] at hf
      exact hf
    have := h _ (List.getElem_mem hj)
    simpa [hget] using this
  · intro h e he
    obtain ⟨j, hj, rfl⟩ := List.getElem_of_mem he
    have hget := vector_toList_get? t.originals hj
    rw [List.getElem?_eq_getElem hj, Option.some_inj] at hget
    rw [hget]
    cases hf : (t.originals[j]?).join with
    | none => rfl
    | some f => simpa using h j f hf

theorem heldBy?_eq_first? (t : ProfileTable) (x : Nat) : t.heldBy? x = t.first? fun e => e.cat == x :=
  congrArg (List.findIdx? · t.originals.toList) (funext fun e => by cases e <;> rfl)

theorem heldBy?_of_first {t : ProfileTable} {x k : Nat} {e : OriginalEntry} (he : t.original? k = some e) (hcat : e.cat = x)
    (hmin : ∀ j < k, ∀ f, t.original? j = some f → f.cat ≠ x) : t.heldBy? x = some k :=
  heldBy?_eq_some_iff.2 ⟨lt_of_original? he, ⟨e, he, hcat⟩, hmin⟩

theorem heldBy?_eq_none_iff {t : ProfileTable} {x : Nat} : t.heldBy? x = none ↔ ∀ k e, t.original? k = some e → e.cat ≠ x := by
  simp only [heldBy?_eq_first?, first?_eq_none_iff, beq_iff_eq, ne_eq]

/-- The first invalid slot. -/
def ProfileTable.free? (t : ProfileTable) : Option Nat := t.originals.toList.findIdx? fun e => e.isNone

theorem free?_eq_some_iff {t : ProfileTable} {k : Nat} :
    t.free? = some k ↔ k < 48 ∧ t.original? k = none ∧ ∀ j < k, t.original? j ≠ none := by
  have hslot : ∀ {j}, (hj : j < 48) → t.original? j = t.originals[j] := fun hj => by
    rw [ProfileTable.original?, Vector.getElem?_eq_getElem hj]
    rfl
  rw [ProfileTable.free?, List.findIdx?_eq_some_iff_getElem]
  simp only [Vector.length_toList, Vector.getElem_toList, Option.isNone_iff_eq_none]
  constructor
  · rintro ⟨hk, hnone, hmin⟩
    exact ⟨hk, (hslot hk).trans hnone, fun j hj h => hmin j hj ((hslot (hj.trans hk)).symm.trans h)⟩
  · rintro ⟨hk, hnone, hmin⟩
    exact ⟨hk, (hslot hk).symm.trans hnone, fun j hj h => hmin j hj ((hslot (hj.trans hk)).trans h)⟩

theorem free?_eq_none {t : ProfileTable} (h : ∀ j < 48, t.original? j ≠ none) : t.free? = none := by
  rw [Option.eq_none_iff_forall_ne_some]
  intro k hk
  obtain ⟨hlt, hnone, -⟩ := free?_eq_some_iff.1 hk
  exact h k hlt hnone

/-- In a table with a valid entry of a kind in every slot, every entry is of that kind. -/
theorem entries_of_full {t : ProfileTable} {P : OriginalEntry → Prop} (h : ∀ j < 48, ∃ f, t.original? j = some f ∧ P f) :
    (∀ j < 48, t.original? j ≠ none) ∧ ∀ j f, t.original? j = some f → P f := by
  refine ⟨fun j hj hnone => ?_, fun j f hf => ?_⟩
  · obtain ⟨f, hf, -⟩ := h j hj
    cases hnone.symm.trans hf
  · obtain ⟨f', hf', hP⟩ := h j (lt_of_original? hf)
    cases hf'.symm.trans hf
    exact hP

/-! ## The victim and the choice -/

/-- The victim rule over the three searches it makes (R53, steps 2 to 5). -/
theorem victim_eq (t : ProfileTable) :
    t.victim =
      match t.free? with
      | some k => some { slot := k, inPlace := false, table := t, displaced := [] }
      | none =>
        match t.first? fun o => decide (o.mode = .learned) && !o.used with
        | some k => some { slot := k, inPlace := false, table := t, displaced := t.catsAt k }
        | none =>
          (t.first? fun o => decide (o.mode = .learned)).map fun k =>
            { slot := k, inPlace := false, table := t.clearMarks, displaced := t.catsAt k } := by
  have hsearch : ∀ {p : OriginalEntry → Bool} {q : Option OriginalEntry → Bool} {k : Option Nat},
      t.originals.toList.findIdx? q = k → (∀ o, q (some o) = p o) → q none = false → t.first? p = k := fun {p q} _ h hs hn => by
    have hq : q = fun e => e.any p := funext fun e => by cases e with | none => exact hn | some o => exact hs o
    rw [← h, hq, ProfileTable.first?]
  unfold ProfileTable.victim
  split
  · rename_i k h
    rw [show t.free? = some k from h]
  · rename_i h
    rw [show t.free? = none from h]
    split
    · rename_i k h
      rw [hsearch h (fun _ => rfl) rfl]
    · rename_i h
      rw [hsearch h (fun _ => rfl) rfl]
      split
      · rename_i k h
        rw [hsearch h (fun _ => rfl) rfl]
        rfl
      · rename_i h
        rw [hsearch h (fun _ => rfl) rfl]
        rfl

theorem victim_of_free {t : ProfileTable} {k : Nat} (h : t.free? = some k) :
    t.victim = some { slot := k, inPlace := false, table := t, displaced := [] } := by rw [victim_eq, h]

theorem catsAt_of_entry {t : ProfileTable} {k : Nat} {e : OriginalEntry} (h : t.original? k = some e) : t.catsAt k = [e.cat] := by
  rw [ProfileTable.catsAt, h]
  rfl

/-- What a choice can answer: the number's own slot, the pointer's slot with any other slot of the number made invalid, or, with the
pointer off and the number not held, a slot of the table with at most marks cleared (R52, R53). -/
theorem choose_cases {t : ProfileTable} {x : Nat} {c : SlotChoice} (h : t.choose x = some c) :
    (t.heldBy? x = some c.slot ∧ c.table = t)
      ∨ (t.pointer = some c.slot ∧ t.heldBy? x = none ∧ c.table = t)
      ∨ (∃ k, t.pointer = some c.slot ∧ t.heldBy? x = some k ∧ c.table = t.setOriginal k none)
      ∨ (t.heldBy? x = none ∧ c.slot < 48 ∧ (c.table = t ∨ c.table = t.clearMarks)) := by
  unfold ProfileTable.choose at h
  cases hp : t.pointer with
  | some p =>
    cases hk : t.heldBy? x with
    | some k =>
      simp only [hp, hk] at h
      split at h
      · cases h; exact .inl ⟨rfl, rfl⟩
      · cases h; exact .inr (.inr (.inl ⟨k, rfl, rfl, rfl⟩))
    | none =>
      simp only [hp, hk] at h
      cases h
      exact .inr (.inl ⟨rfl, rfl, rfl⟩)
  | none =>
    cases hk : t.heldBy? x with
    | some k =>
      simp only [hp, hk] at h
      cases h
      exact .inl ⟨rfl, rfl⟩
    | none =>
      simp only [hp, hk, victim_eq] at h
      refine .inr (.inr (.inr ⟨rfl, ?_⟩))
      split at h
      · rename_i k hfree
        cases h
        exact ⟨(free?_eq_some_iff.1 hfree).1, .inl rfl⟩
      · split at h
        · rename_i k hfirst
          cases h
          obtain ⟨⟨e, he, -⟩, -⟩ := first?_eq_some_iff.1 hfirst
          exact ⟨lt_of_original? he, .inl rfl⟩
        · obtain ⟨k, hfirst, rfl⟩ := Option.map_eq_some_iff.1 h
          obtain ⟨⟨e, he, -⟩, -⟩ := first?_eq_some_iff.1 hfirst
          exact ⟨lt_of_original? he, .inr rfl⟩

theorem choose_off {t : ProfileTable} {x : Nat} (hnone : t.heldBy? x = none) (hp : t.pointer = none) : t.choose x = t.victim := by
  simp only [ProfileTable.choose, hp, hnone]

/-- Settles O27: the choice by the pointer and the slot held, and the victim rule by its three searches. -/
theorem slotForAWrite : Obligations.SlotForAWrite := by
  intro t x holds hholds
  have hheld : ∀ k, holds k → t.heldBy? x = some k := fun k hk => by
    obtain ⟨⟨e, he, hcat⟩, hmin⟩ := (hholds k).1 hk
    exact heldBy?_of_first he hcat hmin
  have hnot : (∀ k, ¬holds k) → t.heldBy? x = none := fun hno => by
    rw [Option.eq_none_iff_forall_ne_some]
    exact fun k hk => hno k ((hholds k).2 (heldBy?_eq_some_iff.1 hk).2)
  refine ⟨fun k hk hp => ?_, fun p k hk hp hpk => ?_, fun p hno hp => ?_, fun hno hp => ?_⟩
  · rcases hp with hp | hp <;> simp [ProfileTable.choose, hp, hheld k hk]
  · simp [ProfileTable.choose, hp, hheld k hk, hpk]
  · simp only [ProfileTable.choose, hp, hnot hno]
  rw [choose_off (hnot hno) hp]
  have hunused : ∀ {k e}, t.original? k = some e → (∀ f, t.original? k = some f → f.mode = .learned → f.used = true) →
      ¬(decide (e.mode = .learned) && !e.used) = true := fun he h hp => by
    rw [Bool.and_eq_true, decide_eq_true_eq, Bool.not_eq_true'] at hp
    simp [h _ he hp.1] at hp
  refine ⟨fun k hk hfree hmin => victim_of_free (free?_eq_some_iff.2 ⟨hk, hfree, hmin⟩), fun k e hfull he hmode hused hmin => ?_,
    fun k e hall he hmode hmin => ⟨t.clearMarks, ?_, rfl, rfl, fun j f hf => ?_⟩, fun hall => ?_⟩
  · have hfirst : (t.first? fun o => decide (o.mode = .learned) && !o.used) = some k :=
      first?_eq_some_iff.2 ⟨⟨e, he, by simp [hmode, hused]⟩, fun j hj f hf => hunused hf (hmin j hj)⟩
    simp only [victim_eq, free?_eq_none hfull, hfirst, catsAt_of_entry he]
  · obtain ⟨hfull, hused⟩ := entries_of_full hall
    have hno : (t.first? fun o => decide (o.mode = .learned) && !o.used) = none :=
      first?_eq_none_iff.2 fun j f hf => hunused hf (hused j)
    have hfirst : (t.first? fun o => decide (o.mode = .learned)) = some k :=
      first?_eq_some_iff.2 ⟨⟨e, he, by simp [hmode]⟩, fun j hj f hf => by simpa using hmin j hj f hf⟩
    simp only [victim_eq, free?_eq_none hfull, hno, hfirst, catsAt_of_entry he, Option.map_some]
  · rw [original?_clearMarks, hf]
    rfl
  · obtain ⟨hfull, hmode⟩ := entries_of_full hall
    have hno : (t.first? fun o => decide (o.mode = .learned) && !o.used) = none :=
      first?_eq_none_iff.2 fun j f hf => by simp [hmode j f hf]
    have hnone : (t.first? fun o => decide (o.mode = .learned)) = none :=
      first?_eq_none_iff.2 fun j f hf => by simp [hmode j f hf]
    simp only [victim_eq, free?_eq_none hfull, hno, hnone, Option.map_none]

/-! ## Lookup -/

theorem holds_iff {r : RangeEntry} {x : Nat} : r.holds x = true ↔ r.base ≤ x ∧ x < r.base + 2 ^ r.exponent := by
  simp [RangeEntry.holds]

/-- The lookup of a number that no original entry serves goes to the range entries (R50). -/
theorem lookup_of_noLearn {t : ProfileTable} {x : Nat} (h : ∀ k e, t.original? k = some e → e.cat = x → e.mode = .noLearn) :
    t.lookup x = t.lookupRange x := by
  unfold ProfileTable.lookup
  cases hk : t.heldBy? x with
  | none => rfl
  | some k =>
    obtain ⟨-, ⟨e, he, hcat⟩, -⟩ := heldBy?_eq_some_iff.1 hk
    simp only [he, h k e he hcat]

/-- The slot a range lookup stops at. -/
def ProfileTable.rangeOf? (t : ProfileTable) (x : Nat) : Option Nat := t.ranges.toList.findIdx? fun e => e.any fun r => r.holds x

theorem lookupRange_eq (t : ProfileTable) (x : Nat) :
    t.lookupRange x =
      match t.rangeOf? x with
      | some k => { source := .range k, p := (t.range? k).elim 0 fun r => r.p, fixed := none }
      | none => { source := .miss, p := 0, fixed := none } :=
  congrArg
    (fun f : Option RangeEntry → Bool =>
      (match t.ranges.toList.findIdx? f with
      | some k => { source := .range k, p := (t.range? k).elim 0 fun r => r.p, fixed := none }
      | none => { source := .miss, p := 0, fixed := none } : ProfileResult))
    (funext fun e => by cases e <;> rfl)

theorem rangeOf?_eq_some_iff {t : ProfileTable} {x k : Nat} :
    t.rangeOf? x = some k ↔
      k < 8 ∧ (∃ r, t.range? k = some r ∧ r.holds x = true) ∧ ∀ j < k, ∀ q, t.range? j = some q → ¬q.holds x = true :=
  findIdx?_any_eq_some_iff

/-- Settles O29: the lookup by the slot held or the range slot that answers, and the mark of an original entry. -/
theorem profileLookup : Obligations.ProfileLookup := by
  refine fun t x => ⟨fun k e he hcat hmin => ?_, fun hno => ?_, fun _ => rfl, rfl⟩
  · have hk := heldBy?_of_first he hcat hmin
    refine ⟨fun hmode => ?_, fun hmode => ?_, ?_⟩
    · simp only [ProfileTable.lookup, hk, he, hmode]
    · simp only [ProfileTable.lookup, hk, he, hmode]
    · have huses : min 255 (e.uses + 1) = if e.uses < 255 then e.uses + 1 else 255 := by split <;> omega
      simp only [ProfileTable.mark, he, Option.map_some, huses]
  · rw [lookup_of_noLearn hno, lookupRange_eq]
    refine ⟨fun k r hr hx hmin => ?_, fun hmiss => ?_⟩
    · have hk : t.rangeOf? x = some k :=
        rangeOf?_eq_some_iff.2 ⟨lt_of_range? hr, ⟨r, hr, holds_iff.2 hx⟩, fun j hj q hq => mt holds_iff.1 (hmin j hj q hq)⟩
      simp only [hk, hr, Option.elim_some]
    · have hk : t.rangeOf? x = none := Option.eq_none_iff_forall_ne_some.2 fun k hk => by
        obtain ⟨-, ⟨r, hr, hx⟩, -⟩ := rangeOf?_eq_some_iff.1 hk
        exact hmiss k r hr (holds_iff.1 hx)
      simp only [hk]

/-! ## Learning -/

theorem clampInt_eq_max_min {lo hi x : Int} (h : lo ≤ hi) : clampInt lo hi x = max lo (min hi x) := by
  unfold clampInt
  split
  · omega
  · split <;> omega

/-- A number held: its entry, the first of the number, decides (R57). -/
theorem learn_of_held {t : ProfileTable} {x k n spacing : Nat} {pUsed : Int} {step : LastStep} {e : OriginalEntry}
    (hk : t.heldBy? x = some k) (he : t.original? k = some e) :
    t.learn x n spacing pUsed step =
      if e.mode = .learned then
        (t.setOriginal k
            (some { e with p := max (-24) (min 24 (e.p + learnDelta n spacing step)), used := true, last := some step }),
          .updated k)
      else (t, .unchanged) := by
  simp only [ProfileTable.learn, hk, he, clampInt_eq_max_min (show (-24 : Int) ≤ 24 by decide)]

/-- The LEARNED entry a number not held is written as (R58). -/
def seededEntry (x n spacing : Nat) (pUsed : Int) (step : LastStep) : OriginalEntry :=
  { cat := x, mode := .learned, p := max (-24) (min 24 (pUsed + learnDelta n spacing step)), fixed := none, used := true,
    uses := 0, last := some step }

/-- A number not held: the choice of a slot decides (R58). -/
theorem learn_of_not_held {t : ProfileTable} {x n spacing : Nat} {pUsed : Int} {step : LastStep} (h : t.heldBy? x = none) :
    t.learn x n spacing pUsed step =
      match t.choose x with
      | some c => (c.table.setOriginal c.slot (some (seededEntry x n spacing pUsed step)), .inserted c.slot c.displaced.head?)
      | none => (t, .dropped) := by
  simp only [ProfileTable.learn, h, clampInt_eq_max_min (show (-24 : Int) ≤ 24 by decide)]
  cases t.choose x <;> rfl

/-- Halving toward zero: the half is at most half the distance, less than one from it, and on its side of zero. -/
theorem tdiv_two_bounds (d : Int) :
    2 * (d.tdiv 2).natAbs ≤ d.natAbs ∧ d.natAbs ≤ 2 * (d.tdiv 2).natAbs + 1 ∧ 0 ≤ d.tdiv 2 * d := by
  obtain ⟨m, rfl | rfl⟩ := d.eq_nat_or_neg
  · have h : ((m : Int).tdiv 2) = ((m / 2 : Nat) : Int) := rfl
    rw [h]
    exact ⟨by omega, by omega, by positivity⟩
  · have h : ((-(m : Int)).tdiv 2) = -((m / 2 : Nat) : Int) := by rw [Int.neg_tdiv]; rfl
    rw [h, neg_mul_neg]
    exact ⟨by omega, by omega, by positivity⟩

/-- Settles O30: the delta of each outcome, and what it teaches the table by the slot held or chosen. -/
theorem learning : Obligations.Learning := by
  refine ⟨fun n spacing j => tdiv_two_bounds (j * spacing), fun h spacing => ?_, fun t x n spacing pUsed step =>
    ⟨fun k e he hcat hmin => ?_, fun hno => ?_⟩⟩
  · have hsteps : (2 * h + 1 + 1) / 2 = h + 1 := by omega
    simp only [learnDelta, hsteps]
    generalize (h + 1) * spacing = d
    exact ⟨by omega, by omega, trivial⟩
  · rw [learn_of_held (heldBy?_of_first he hcat hmin) he]
    exact ⟨fun hmode => if_pos hmode, fun hmode => if_neg hmode⟩
  · rw [learn_of_not_held (heldBy?_eq_none_iff.2 hno)]
    refine ⟨fun hc => ?_, fun c hc => ?_⟩
    · rw [hc]
    · rw [hc]
      rfl

end Sys2Proof.Machine
end

section
/-! SUPPORT. The soundness of the profile table under every write: entries in their ranges, no catalogue number in two slots (R48, R49,
R54, R55). -/

namespace Sys2Proof.Machine

/-! ## The soundness of a table -/

/-- What `ProfilesSound` says of the profile table, each part by its name. -/
structure ProfileTable.Sound (t : ProfileTable) : Prop where
  originals : ∀ k e, t.original? k = some e → e.sound
  ranges : ∀ k r, t.range? k = some r → r.sound
  pointer : ∀ k, t.pointer = some k → k < 48
  distinct : ∀ j k x y, t.original? j = some x → t.original? k = some y → x.cat = y.cat → j = k

theorem profilesSound_iff {s : State} : ProfilesSound s ↔ s.profiles.Sound := by
  constructor
  · rintro ⟨horiginals, hranges, hpointer, hdistinct⟩
    exact ⟨fun k e he => horiginals k (lt_of_original? he) e he, fun k r hr => hranges k (lt_of_range? hr) r hr, hpointer,
      fun j k x y hx hy => hdistinct j (lt_of_original? hx) k (lt_of_original? hy) x hx y hy⟩
  · rintro ⟨horiginals, hranges, hpointer, hdistinct⟩
    exact ⟨fun k _ => horiginals k, fun k _ => hranges k, hpointer, fun j _ k _ x hx y hy => hdistinct j k x y hx hy⟩

/-- A table whose entries are those of a sound one, each within its ranges and under its number, is sound. -/
theorem ProfileTable.Sound.of_entries {t u : ProfileTable} (ht : t.Sound) (hr : u.ranges = t.ranges) (hp : u.pointer = t.pointer)
    (h : ∀ k f, u.original? k = some f → f.sound ∧ ∃ e, t.original? k = some e ∧ e.cat = f.cat) : u.Sound := by
  refine ⟨fun k f hf => (h k f hf).1, fun k r hk => ht.ranges k r ?_, fun k hk => ht.pointer k (hp ▸ hk), fun j k x y hx hy hxy => ?_⟩
  · rwa [ProfileTable.range?, hr] at hk
  · obtain ⟨-, x', hx', hcat⟩ := h j x hx
    obtain ⟨-, y', hy', hcat'⟩ := h k y hy
    exact ht.distinct j k x' y' hx' hy' (by rw [hcat, hcat', hxy])

/-- A sound entry is written into a slot, and no other slot holds its number. -/
theorem ProfileTable.Sound.setOriginal {t : ProfileTable} (ht : t.Sound) {k : Nat} {e : OriginalEntry} (he : e.sound)
    (hfree : ∀ j f, t.original? j = some f → f.cat = e.cat → j = k) : (t.setOriginal k (some e)).Sound := by
  have hslot : ∀ {j f}, (t.setOriginal k (some e)).original? j = some f →
      (j = k ∧ f = e) ∨ (j ≠ k ∧ t.original? j = some f) := by
    intro j f hf
    rw [original?_setOriginal] at hf
    by_cases hj : j = k
    · split at hf
      · cases hf; exact .inl ⟨hj, rfl⟩
      · rename_i h
        exact absurd ⟨hj, lt_of_original? hf⟩ h
    · rw [if_neg fun h => hj h.1] at hf
      exact .inr ⟨hj, hf⟩
  refine ⟨fun j f hf => ?_, ht.ranges, ht.pointer, fun i j x y hx hy hxy => ?_⟩
  · rcases hslot hf with ⟨-, rfl⟩ | ⟨-, hf⟩
    · exact he
    · exact ht.originals j f hf
  · rcases hslot hx with ⟨hi, hxe⟩ | ⟨-, hx'⟩ <;> rcases hslot hy with ⟨hj, hye⟩ | ⟨-, hy'⟩
    · rw [hi, hj]
    · rw [hi, hfree j y hy' (by rw [← hxy, hxe])]
    · rw [hj, hfree i x hx' (by rw [hxy, hye])]
    · exact ht.distinct i j x y hx' hy' hxy

/-- A slot is made invalid. -/
theorem ProfileTable.Sound.dropOriginal {t : ProfileTable} (ht : t.Sound) (k : Nat) : (t.setOriginal k none).Sound := by
  refine ht.of_entries rfl rfl fun j f hf => ?_
  rw [original?_setOriginal] at hf
  split at hf
  · cases hf
  · exact ⟨ht.originals j f hf, f, hf, rfl⟩

theorem ProfileTable.Sound.clearMarks {t : ProfileTable} (ht : t.Sound) : t.clearMarks.Sound := by
  refine ht.of_entries rfl rfl fun j f hf => ?_
  rw [original?_clearMarks] at hf
  obtain ⟨e, he, rfl⟩ := Option.map_eq_some_iff.1 hf
  have hsound := ht.originals j e he
  split
  · exact ⟨hsound, e, he, rfl⟩
  · exact ⟨hsound, e, he, rfl⟩

/-- A range entry is written or made invalid. -/
theorem ProfileTable.Sound.setRange {t : ProfileTable} (ht : t.Sound) (k : Nat) {r : Option RangeEntry} (hr : ∀ q ∈ r, q.sound) :
    (t.setRange k r).Sound := by
  refine ⟨ht.originals, fun j q hq => ?_, ht.pointer, ht.distinct⟩
  rw [range?_setRange] at hq
  split at hq
  · exact hr q hq
  · exact ht.ranges j q hq

/-! ## The mark, the choice, learning -/

/-- An entry of its slot's number is replaced by a sound one of the same number. -/
theorem ProfileTable.Sound.replace {t : ProfileTable} (ht : t.Sound) {k : Nat} {e f : OriginalEntry} (he : t.original? k = some e)
    (hf : f.sound) (hcat : f.cat = e.cat) : (t.setOriginal k (some f)).Sound :=
  ht.setOriginal hf fun j g hg hj => ht.distinct j k g e hg he (hj.trans hcat)

theorem ProfileTable.Sound.mark {t : ProfileTable} (ht : t.Sound) (source : ProfileSource) : (t.mark source).Sound := by
  cases source with
  | range k => exact ht
  | miss => exact ht
  | original k =>
    have hmark : t.mark (.original k)
        = t.setOriginal k ((t.original? k).map fun e => { e with used := true, uses := min 255 (e.uses + 1) }) := rfl
    rw [hmark]
    cases he : t.original? k with
    | none => exact ht.dropOriginal k
    | some e =>
      obtain ⟨hp, hno, -, hfixed⟩ := ht.originals k e he
      refine ht.replace he ?_ rfl
      exact ⟨hp, hno, Nat.min_le_left _ _, hfixed⟩

/-- A choice hands over a sound table in which no slot but the chosen one holds the number (R52). -/
theorem ProfileTable.Sound.choose {t : ProfileTable} (ht : t.Sound) {x : Nat} {c : SlotChoice} (h : t.choose x = some c) :
    c.table.Sound ∧ ∀ j f, c.table.original? j = some f → f.cat = x → j = c.slot := by
  obtain ⟨hk, htable⟩ | ⟨-, hnone, htable⟩ | ⟨k, -, hk, htable⟩ | ⟨hnone, -, htable⟩ := choose_cases h
  · obtain ⟨-, ⟨e, he, hcat⟩, -⟩ := heldBy?_eq_some_iff.1 hk
    rw [htable]
    exact ⟨ht, fun j f hf hx => ht.distinct j c.slot f e hf he (hx.trans hcat.symm)⟩
  · rw [htable]
    exact ⟨ht, fun j f hf hx => absurd hx (heldBy?_eq_none_iff.1 hnone j f hf)⟩
  · obtain ⟨-, ⟨e, he, hcat⟩, -⟩ := heldBy?_eq_some_iff.1 hk
    rw [htable]
    refine ⟨ht.dropOriginal k, fun j f hf hx => ?_⟩
    rw [original?_setOriginal] at hf
    split at hf
    · cases hf
    · rename_i hj
      exact absurd ⟨ht.distinct j k f e hf he (hx.trans hcat.symm), lt_of_original? hf⟩ hj
  · rcases htable with htable | htable <;> rw [htable]
    · exact ⟨ht, fun j f hf hx => absurd hx (heldBy?_eq_none_iff.1 hnone j f hf)⟩
    · refine ⟨ht.clearMarks, fun j f hf hx => ?_⟩
      rw [original?_clearMarks] at hf
      obtain ⟨e, he, rfl⟩ := Option.map_eq_some_iff.1 hf
      refine absurd ?_ (heldBy?_eq_none_iff.1 hnone j e he)
      split at hx <;> exact hx

/-- An entry of the number is written into the slot chosen for it. -/
theorem ProfileTable.Sound.write {t : ProfileTable} (ht : t.Sound) {x : Nat} {c : SlotChoice} (h : t.choose x = some c)
    {e : OriginalEntry} (he : e.sound) (hcat : e.cat = x) : (c.table.setOriginal c.slot (some e)).Sound := by
  obtain ⟨htable, hfree⟩ := ht.choose h
  exact htable.setOriginal he fun j f hf hj => hfree j f hf (hj.trans hcat)

theorem correction_in_range (p : Int) : -24 ≤ max (-24) (min 24 p) ∧ max (-24) (min 24 p) ≤ 24 := by omega

theorem ProfileTable.Sound.learn {t : ProfileTable} (ht : t.Sound) (x n spacing : Nat) (pUsed : Int) (step : LastStep) :
    (t.learn x n spacing pUsed step).1.Sound := by
  cases hk : t.heldBy? x with
  | some k =>
    obtain ⟨-, ⟨e, he, -⟩, -⟩ := heldBy?_eq_some_iff.1 hk
    rw [learn_of_held hk he]
    split
    · rename_i hmode
      obtain ⟨-, -, huses, hfixed⟩ := ht.originals k e he
      exact ht.replace he ⟨correction_in_range _, fun h => absurd (hmode.symm.trans h) nofun, huses, hfixed⟩ rfl
    · exact ht
  | none =>
    rw [learn_of_not_held hk]
    cases hc : t.choose x with
    | none => exact ht
    | some c => exact ht.write hc ⟨correction_in_range _, nofun, Nat.zero_le _, nofun⟩ rfl

/-! ## The kept profile table -/

/-- Every elementary change keeps the profile table sound: the part writes it by a mark and by learning alone. -/
theorem Move.profilesSound (a b : State) (h : Move a b) (hs : a.profiles.Sound) : b.profiles.Sound := by
  cases h with
  | mark source => exact hs.mark source
  | learn x n spacing p step => exact hs.learn x n spacing p step
  | _ => exact hs

/-- A SET PROFILE that passes its tests writes a sound entry (R54, R59). -/
theorem entry_sound {t : ProfileTable} (ht : t.Sound) {cat mode : Nat} {p : Int} {fixed : Option Nat} {m : ProfileMode} {c : SlotChoice}
    (h : setProfileRange cat mode p fixed = none) (hc : t.choose cat = some c) : (c.entry cat m p fixed).sound := by
  obtain ⟨-, -, hp, hfixed⟩ := setProfileRange_eq_none_iff.1 h
  refine ⟨?_, fun hm => if_pos hm, ?_, fun d hd => ?_⟩
  · change -24 ≤ (if m = .noLearn then 0 else p) ∧ (if m = .noLearn then 0 else p) ≤ 24
    split
    · decide
    · exact hp
  · change (match if c.inPlace then c.table.original? c.slot else none with | some e => e.uses | none => 0) ≤ 255
    split
    · rename_i e he
      have : c.table.original? c.slot = some e := by
        split at he
        · exact he
        · cases he
      obtain ⟨-, -, huses, -⟩ := (ht.choose hc).1.originals c.slot e this
      exact huses
    · exact Nat.zero_le _
  · change d ∈ (if m = .manual then fixed else none) at hd
    split at hd
    · rename_i hm
      exact ⟨hm, (hfixed d hd).1⟩
    · cases hd

theorem pointerOf_lt {slot k : Nat} (h : slot ≤ 47 ∨ slot = Config.pointerOff) (hk : pointerOf slot = some k) : k < 48 := by
  rcases h with h | h
  · rw [pointerOf_slot h] at hk
    cases hk
    omega
  · rw [pointerOf, if_pos h] at hk
    cases hk

/-- Every change that a command makes itself keeps the profile table sound. -/
theorem OwnMove.profilesSound (o : Own) (a b : State) (h : OwnMove o a b) (hs : a.profiles.Sound) : b.profiles.Sound := by
  cases h with
  | setOriginal cat mode p fixed m c _ h _ hc => exact hs.write hc (entry_sound hs h hc) rfl
  | dropOriginal k => exact hs.dropOriginal k
  | setRange slot base exponent p _ h =>
    obtain ⟨-, hbase, ⟨hlo, hhi⟩, ⟨hp, hp'⟩, haligned⟩ := setRange_ok_iff.1 (firstFailing_none h _ List.mem_cons_self)
    refine hs.setRange slot fun q hq => ?_
    cases hq
    exact ⟨hbase, hlo, hhi, haligned, hp, hp'⟩
  | dropRange k => exact hs.setRange k nofun
  | pointer slot _ h => exact ⟨hs.originals, hs.ranges, fun k hk => pointerOf_lt h hk, hs.distinct⟩
  | power => exact profilesSound_iff.1 reset_profilesSound
  | load b => cases b <;> exact hs
  | unload b => cases b <;> exact hs
  | clear b => cases b <;> exact hs
  | _ => exact hs

/-- Settles O55: every elementary change and every command's own change keeps the profile table sound. -/
theorem profilesKept : Obligations.ProfilesKept := fun _ _ hs h =>
  profilesSound_iff.2 (step_keeps (P := fun s => s.profiles.Sound) (fun _ _ => id) Move.profilesSound OwnMove.profilesSound h
    (profilesSound_iff.1 hs))

end Sys2Proof.Machine
end

section
/-! SUPPORT. The bodies of requests: each reads back as the request it was written for, and is spelled by the fields it carries (R62,
R187, R192 to R196). -/

namespace Sys2Proof

/-! ## Reading a body back -/

/-- The body of a well-formed request reads back by the reader of its kind, whatever follows it; READ PROFILE has its own. -/
theorem readRequest_body (r : Request) (rest : List Byte) (h : r.fieldsFit = true) (hk : r.kind ≠ 0x1D) :
    readRequest r.kind (r.body ++ rest) = some (r, rest) := by
  have one : ∀ {α : Type} (f : α → Request) (t : Reader α) (w : List Byte) (x : α), t (w ++ rest) = some (x, rest) →
      readThen f t (w ++ rest) = some (f x, rest) := fun f t w x => then_ok f t w rest x
  have two : ∀ {α β : Type} (f : α → β → Request) (t : Reader α) (u : Reader β) (w v : List Byte) (x : α) (y : β),
      t (w ++ (v ++ rest)) = some (x, v ++ rest) → u (v ++ rest) = some (y, rest) →
      readTwo f t u ((w ++ v) ++ rest) = some (f x y, rest) := fun f t u w v x y => two_ok f t u w v rest x y
  cases r with
  | placeOrder q => exact one _ _ _ _ (readPlace_ok q rest h)
  | amendOrder q => exact one _ _ _ _ (readAmend_ok q rest h)
  | setStock q => exact one _ _ _ _ (readStock_ok q rest h)
  | setStand q => exact one _ _ _ _ (readStand_ok q rest h)
  | setCounter q => exact one _ _ _ _ (readCounter_ok q rest h)
  | cancelOrder n => exact one _ _ _ _ (readU_ok 2 n rest h)
  | holdOrder n => exact one _ _ _ _ (readU_ok 2 n rest h)
  | releaseOrder n => exact one _ _ _ _ (readU_ok 2 n rest h)
  | setFloor v => exact one _ _ _ _ (readU_ok 1 v rest h)
  | setPlacement k => exact one _ _ _ _ (readU_ok 1 k rest h)
  | readTray f => exact one _ _ _ _ (readU_ok 1 f rest h)
  | rewindBack b => exact one _ _ _ _ (readU_ok 1 b rest h)
  | unloadBack b => exact one _ _ _ _ (readU_ok 1 b rest h)
  | clearBack b => exact one _ _ _ _ (readU_ok 1 b rest h)
  | printLabels c => exact one _ _ _ _ (readU_ok 1 c rest h)
  | setDate d => exact one _ _ _ _ (readU_ok 2 d rest h)
  | lockCounter c => exact one _ _ _ _ (readU_ok 1 c rest h)
  | readCounters c => exact one _ _ _ _ (readU_ok 1 c rest h)
  | readStock | readHead | readBack | startStand | stopStand | abortSlide | resetStand | readStand | pausePrinter | resumePrinter
  | closePeriod => rfl
  | readProfileTable | readProfileLookup => exact absurd rfl hk
  | readOrder n i =>
    obtain ⟨hn, hi⟩ := Bool.and_eq_true_iff.1 h
    exact two _ _ _ _ _ _ _ (readU_ok 2 n _ hn) (readU_ok 1 i rest hi)
  | dropProfile t k =>
    obtain ⟨ht, hk⟩ := Bool.and_eq_true_iff.1 h
    exact two _ _ _ _ _ _ _ (readU_ok 1 t _ ht) (readU_ok 1 k rest hk)
  | closeRoll r d =>
    obtain ⟨hr, hd⟩ := Bool.and_eq_true_iff.1 h
    exact two _ _ _ _ _ _ _ (readU_ok 3 r _ hr) (readU_ok 1 d rest hd)
  | readRoll r i =>
    obtain ⟨hr, hi⟩ := Bool.and_eq_true_iff.1 h
    exact two _ _ _ _ _ _ _ (readU_ok 3 r _ hr) (readU_ok 1 i rest hi)
  | readFrames r i =>
    obtain ⟨hr, hi⟩ := Bool.and_eq_true_iff.1 h
    exact two _ _ _ _ _ _ _ (readU_ok 3 r _ hr) (readU_ok 1 i rest hi)
  | relabel r f =>
    obtain ⟨hr, hf⟩ := Bool.and_eq_true_iff.1 h
    exact two _ _ _ _ _ _ _ (readU_ok 3 r _ hr) (readU_ok 1 f rest hf)
  | adjustAccount a v =>
    obtain ⟨ha, hv⟩ := Bool.and_eq_true_iff.1 h
    exact two _ _ _ _ _ _ _ (readU_ok 2 a _ ha) (readI_ok 3 v rest (by decide) hv)
  | mapTray es =>
    obtain ⟨hl, hes⟩ := Bool.and_eq_true_iff.1 h
    exact one _ _ _ _ (readList_ok readTrayEntry _ es rest hl fun e he u => readTray_ok e u (List.all_eq_true.1 hes e he))
  | reportSelections r es =>
    obtain ⟨hrl, hes⟩ := Bool.and_eq_true_iff.1 h
    obtain ⟨hr, hl⟩ := Bool.and_eq_true_iff.1 hrl
    exact two _ _ _ _ _ _ _ (readU_ok 3 r _ hr)
      (readList_ok readSelectEntry _ es rest hl fun e he u => readSelect_ok e u (List.all_eq_true.1 hes e he))
  | setProfile c m p f =>
    simp only [Request.fieldsFit, Bool.and_eq_true] at h
    obtain ⟨⟨⟨hc, hm⟩, hp⟩, hf⟩ := h
    simp only [Request.kind, Request.body, readRequest, List.append_assoc]
    rw [bind_ok _ _ _ _ _ (readU_ok 3 c _ hc), bind_ok _ _ _ _ _ (readU_ok 1 m _ hm), bind_ok _ _ _ _ _ (readI_ok 1 p _ (by decide) hp),
      bind_ok _ _ _ _ _ (readOpt_ok 2 f rest hf)]
    rfl
  | setRange k b e p =>
    simp only [Request.fieldsFit, Bool.and_eq_true] at h
    obtain ⟨⟨⟨hk, hb⟩, he⟩, hp⟩ := h
    simp only [Request.kind, Request.body, readRequest, List.append_assoc]
    rw [bind_ok _ _ _ _ _ (readU_ok 1 k _ hk), bind_ok _ _ _ _ _ (readU_ok 3 b _ hb), bind_ok _ _ _ _ _ (readU_ok 1 e _ he),
      bind_ok _ _ _ _ _ (readI_ok 1 p rest (by decide) hp)]
    rfl
  | loadRoll b r k f =>
    simp only [Request.fieldsFit, Bool.and_eq_true] at h
    obtain ⟨⟨⟨hb, hr⟩, hk⟩, hf⟩ := h
    simp only [Request.kind, Request.body, readRequest, List.append_assoc]
    rw [bind_ok _ _ _ _ _ (readU_ok 1 b _ hb), bind_ok _ _ _ _ _ (readU_ok 3 r _ hr), bind_ok _ _ _ _ _ (readU_ok 1 k _ hk),
      bind_ok _ _ _ _ _ (readU_ok 1 f rest hf)]
    rfl
  | readLabelsLine i =>
    simp only [Request.kind, Request.body, readRequest, List.append_assoc]
    rw [bind_ok _ _ _ _ _ (readU_ok 3 0 _ (by decide)), bind_ok _ _ _ _ _ (readU_ok 1 i rest h)]
    rfl
  | readLabelsRecord r f =>
    simp only [Request.fieldsFit, Bool.and_eq_true, bne_iff_ne] at h
    obtain ⟨⟨hr, hf⟩, hne⟩ := h
    simp only [Request.kind, Request.body, readRequest, List.append_assoc]
    rw [bind_ok _ _ _ _ _ (readU_ok 3 r _ hr), bind_ok _ _ _ _ _ (readU_ok 1 f rest hf), if_neg hne]
    rfl
  | setRates m t c =>
    simp only [Request.fieldsFit, Bool.and_eq_true] at h
    obtain ⟨⟨hm, ht⟩, hc⟩ := h
    simp only [Request.kind, Request.body, readRequest, List.append_assoc]
    rw [bind_ok _ _ _ _ _ (readU_ok 2 m _ hm), bind_ok _ _ _ _ _ (readU_ok 1 t _ ht), bind_ok _ _ _ _ _ (readU_ok 2 c rest hc)]
    rfl

theorem readIncoming_of_ne {kind : Nat} {body : List Byte} (h : kind ≠ 0x1D) :
    readIncoming kind body = incomingOf kind (readWhole (readRequest kind) body) := by
  unfold readIncoming
  exact if_neg h

/-- READ PROFILE is read behind its form byte, TABLE 0 or LOOKUP 1 (R62). -/
theorem readIncoming_table (rest : List Byte) :
    readIncoming 0x1D (natBytes 1 0 ++ rest) = incomingOf 0x1D (readWhole (readTwo .readProfileTable (readU 1) (readU 1)) rest) := by
  simp [readIncoming, natBytes]

theorem readIncoming_lookup (rest : List Byte) :
    readIncoming 0x1D (natBytes 1 1 ++ rest) = incomingOf 0x1D (readWhole (readThen .readProfileLookup (readU 3)) rest) := by
  simp [readIncoming, natBytes]

/-- A request whose fields fit reads back from its kind and body. -/
theorem readIncoming_body (r : Request) (h : r.fieldsFit = true) : readIncoming r.kind r.body = .read r := by
  by_cases hk : r.kind = 0x1D
  · cases r with
    | readProfileTable t k =>
      obtain ⟨ht, hk⟩ := Bool.and_eq_true_iff.1 h
      rw [Request.kind, Request.body, List.append_assoc, readIncoming_table,
        whole_of _ _ _ (two_ok Request.readProfileTable _ _ _ _ [] t k (readU_ok 1 t _ ht) (readU_ok 1 k [] hk))]
      rfl
    | readProfileLookup c =>
      rw [Request.kind, Request.body, readIncoming_lookup,
        whole_of _ _ _ (then_ok Request.readProfileLookup _ _ [] c (readU_ok 3 c [] h))]
      rfl
    | _ => cases hk
  · rw [readIncoming_of_ne hk, whole_of _ _ _ (readRequest_body r [] h hk)]
    rfl

/-! ## The bytes of fields -/

/-- The bytes of a number, the most significant first. -/
theorem natBytes_getElem? (n v i : Nat) (hi : i < n) : (natBytes n v)[i]? = some (BitVec.ofNat 8 (v / 256 ^ (n - 1 - i))) := by
  induction n generalizing i with
  | zero => omega
  | succ n ih =>
    cases i with
    | zero => rfl
    | succ i =>
      rw [natBytes, List.getElem?_cons_succ, ih i (by omega)]
      congr 4
      omega

theorem intBytes_of_nonneg {n : Nat} {v : Int} (h0 : 0 ≤ v) (hv : v < 256 ^ n) : intBytes n v = natBytes n v.toNat := by
  rw [intBytes, Int.emod_eq_of_lt h0 hv]

/-- A negative value is written in two's complement. -/
theorem intBytes_of_neg {n : Nat} {v : Int} (h0 : v < 0) (hv : -256 ^ n ≤ v) : intBytes n v = natBytes n (v + 256 ^ n).toNat := by
  rw [intBytes, ← Int.add_emod_right, Int.emod_eq_of_lt (by omega) (by omega)]

theorem textBytes_eq (t : Text) : textBytes t = BitVec.ofNat 8 t.length :: t := by simp [textBytes, natBytes]

@[simp] theorem bodyBytes_nil : bodyBytes [] = [] := rfl

@[simp] theorem bodyBytes_cons (f : Machine.Field) (fs : List Machine.Field) : bodyBytes (f :: fs) = fieldBytes f ++ bodyBytes fs := rfl

@[simp] theorem bodyBytes_append (fs gs : List Machine.Field) : bodyBytes (fs ++ gs) = bodyBytes fs ++ bodyBytes gs :=
  List.flatMap_append

@[simp] theorem bodyBytes_flatMap {α : Type} (f : α → List Machine.Field) (l : List α) :
    bodyBytes (l.flatMap f) = l.flatMap fun x => bodyBytes (f x) := List.flatMap_assoc

@[simp] theorem fieldBytes_u (n v : Nat) : fieldBytes (.u n v) = natBytes n v := rfl

@[simp] theorem fieldBytes_i (n : Nat) (v : Int) : fieldBytes (.i n v) = intBytes n v := rfl

@[simp] theorem fieldBytes_text (t : Text) : fieldBytes (.text t) = textBytes t := rfl

@[simp] theorem bodyBytes_optU (n : Nat) (x : Option Nat) : bodyBytes (Machine.optU n x) = optBytes (natBytes n) x := by
  rw [Machine.optU_eq]
  cases x <;> simp [optBytes]

/-- A field that a mask does not select has no bytes (R194). -/
theorem bodyBytes_sel (m : BitVec 16) (b : Nat) (f : List Machine.Field) :
    bodyBytes (if m.getLsbD b then f else []) = selBytes m b (bodyBytes f) := by
  unfold selBytes
  split <;> rfl

/-! ## The bodies spelled -/

theorem selectBytes_eq :
    SelectReq.bytes = fun e => bodyBytes ([.u 1 e.first, .u 1 e.outcome] ++ (if e.outcome = 0 then [.i 1 e.step] else [])) := by
  funext e
  unfold SelectReq.bytes
  split <;> simp

/-- Settles O4: every body by the reader of its kind, the bytes of each form of field, and every kind and body field by field. -/
theorem bodiesReadBack : Obligations.BodiesReadBack := by
  refine ⟨fun r h => readIncoming_body r (Bool.and_eq_true_iff.1 h).1, fun _ => rfl,
    fun n v => ⟨natBytes_len n v, fun i hi => natBytes_getElem? n v i hi⟩,
    fun n v => ⟨intBytes_of_nonneg, intBytes_of_neg⟩, textBytes_eq, fun sel hsel r => ?_⟩
  have hbytes : ∀ m b f, bodyBytes (sel m b f) = selBytes m b (bodyBytes f) := fun m b f => by rw [hsel, bodyBytes_sel]
  cases r with
  | placeOrder q =>
    simp only [Request.kind, Request.body, PlaceReq.bytes, listBytes, bodyBytes_append, bodyBytes_cons, bodyBytes_nil, bodyBytes_flatMap,
      fieldBytes_u, fieldBytes_i, fieldBytes_text, List.append_assoc, List.append_nil, Prod.mk.injEq, true_and, List.append_cancel_left_eq]
    refine List.flatMap_congr fun x _ => ?_
    obtain ⟨cat, caption, adjust⟩ := x
    cases caption <;> cases adjust <;> simp [SlideReq.bytes]
  | amendOrder q => simp [Request.kind, Request.body, AmendReq.bytes, hbytes]
  | setStock q => simp [Request.kind, Request.body, StockReq.bytes]
  | setStand q => simp [Request.kind, Request.body, StandReq.bytes, hbytes]
  | setCounter q => simp [Request.kind, Request.body, CounterReq.bytes, hbytes]
  | reportSelections roll es => simp [Request.kind, Request.body, listBytes, selectBytes_eq]
  | mapTray es => simp [Request.kind, Request.body, listBytes]
  | _ => simp [Request.kind, Request.body]

end Sys2Proof
end

section
/-! SUPPORT. One entry of a selection report: what a settled group leaves of its roll, the label of a kept frame, and the work list's part
in an outcome change (R132 to R137, R148 to R151). -/

namespace Sys2Proof.Machine

/-! ## The work list's part of an outcome change -/

/-- A state with the work list and the desk link of another. -/
def withWork (u t : State) : State := { t with work := u.work, link := u.link }

theorem eq_withWork {s t : State} (hw : t.work = s.work) (hl : t.link = s.link) : t = withWork s t := by
  unfold withWork
  rw [← hw, ← hl]

theorem withWork_setOrderState (u t : State) (n : Nat) (st : OrderState) (former : Option FormerState) :
    setOrderState n st former (withWork u t) = withWork (setOrderState n st former u) t := by
  have ho : (withWork u t).order? n = u.order? n := rfl
  unfold setOrderState
  rw [ho]
  cases u.order? n with
  | none => rfl
  | some o =>
    simp only
    split <;> rfl

theorem withWork_promoteTop (u t : State) : promoteTop (withWork u t) = withWork (promoteTop u) t := by
  have hw : (withWork u t).work = u.work := rfl
  unfold promoteTop
  rw [hw]
  cases u.work.stack with
  | nil => rfl
  | cons top rest =>
    have ho : (withWork u t).order? top = u.order? top := rfl
    simp only [ho]
    cases u.order? top with
    | none => rfl
    | some o =>
      simp only
      split
      · rfl
      · exact withWork_setOrderState u t _ _ _

theorem withWork_removeFromStack (u t : State) (n : Nat) :
    removeFromStack n (withWork u t) = withWork (removeFromStack n u) t := by
  have hw : (withWork u t).work = u.work := rfl
  unfold removeFromStack
  rw [hw]
  split
  · exact withWork_promoteTop (u.onWork fun w => { w with stack := w.stack.filter fun k => k != n }) t
  · rfl

/-- An outcome change reads and writes the work list and the link alone (R24). -/
theorem withWork_takeOutcomeChange (u t : State) (n : Nat) :
    takeOutcomeChange n (withWork u t) = withWork (takeOutcomeChange n u) t := by
  have ho : (withWork u t).order? n = u.order? n := rfl
  unfold takeOutcomeChange
  rw [ho]
  cases u.order? n with
  | none => rfl
  | some o =>
    simp only
    split
    · rw [withWork_removeFromStack]
      rfl
    · split
      · exact withWork_setOrderState u t _ _ _
      · rfl

/-- A slide of an order takes its outcome, and the work list the change. -/
def slideTaken (n i : Nat) (change : Slide → Slide) (s : State) : State := takeOutcomeChange n (onSlide n i change s)

/-- On a state that has the work list and link of another, the change is that of the other. -/
theorem slideTaken_eq {s t : State} (hw : t.work = s.work) (hl : t.link = s.link) (n i : Nat) (change : Slide → Slide) :
    slideTaken n i change t = withWork (slideTaken n i change s) t := by
  have h : onSlide n i change t = withWork (onSlide n i change s) t := by
    rw [eq_withWork hw hl]
    rfl
  rw [slideTaken, h, withWork_takeOutcomeChange]
  rfl

/-! ## The rolls of the register -/

theorem slotRoll?_onSlot_eq (s : State) (k j : Nat) (f : Roll → Roll) :
    (s.onSlot k f).slotRoll? j = if j = k then (s.slotRoll? k).map f else s.slotRoll? j := by
  have h : (s.onSlot k f).slotRoll? j = if j = k ∧ j < 8 then (s.slotRoll? k).map f else s.slotRoll? j := join_setIfInBounds _ _ _ _
  rw [h]
  by_cases hj : j = k
  · subst hj
    by_cases h8 : j < 8
    · simp [h8]
    · have hnone : s.slotRoll? j = none := Option.eq_none_iff_forall_ne_some.2 fun r hr => h8 (lt_of_slotRoll? hr)
      simp [hnone]
  · simp [hj]

/-- What the place and the number of a label read of a roll record: its id, its unload sequence, and of each frame the number and the
label state. -/
def Roll.labelView (r : Roll) : Nat × Option Nat × List (Nat × Option LabelState) :=
  (r.id, r.unloadSeq, r.frames.map fun f => (f.number, f.label))

/-- Two registers with the same labels in the same places. -/
def SameLabels (s t : State) : Prop := ∀ j, (t.slotRoll? j).map Roll.labelView = (s.slotRoll? j).map Roll.labelView

theorem slotOf?_iff_map {s : State} {roll k : Nat} :
    s.slotOf? roll = some k ↔
      (s.slotRoll? k).map (fun r => r.id) = some roll ∧ ∀ j < k, (s.slotRoll? j).map (fun r => r.id) ≠ some roll := by
  simp [slotOf?_eq_some_iff]

theorem SameLabels.ids {s t : State} (h : SameLabels s t) (j : Nat) :
    (t.slotRoll? j).map (fun r => r.id) = (s.slotRoll? j).map fun r => r.id := by
  have hid := congrArg (Option.map fun v => v.1) (h j)
  rw [Option.map_map, Option.map_map] at hid
  exact hid

/-- Slots with the same ids are found alike. -/
theorem slotOf?_of_ids {s t : State} (h : ∀ j, (t.slotRoll? j).map (fun r => r.id) = (s.slotRoll? j).map fun r => r.id) (roll : Nat) :
    t.slotOf? roll = s.slotOf? roll := by
  ext k
  rw [slotOf?_iff_map, slotOf?_iff_map]
  simp only [h]

theorem labelRank_eq (s : State) (k : LabelKey) :
    labelRank s k = ((((s.slotOf? k.roll).bind fun j => (s.slotRoll? j).map Roll.labelView).bind fun v => v.2.1).getD 0, k.frame) := by
  rw [labelRank]
  cases s.slotOf? k.roll with
  | none => rfl
  | some j => cases h : s.slotRoll? j <;> simp [h, Roll.labelView]

theorem SameLabels.labelBefore {s t : State} (h : SameLabels s t) : labelBefore t = labelBefore s := by
  funext x y
  simp only [Machine.labelBefore, labelRank_eq, slotOf?_of_ids h.ids, h _]

theorem mem_labelsWith {st : LabelState} {s : State} {w : LabelKey} :
    w ∈ labelsWith st s ↔
      ∃ j v, (s.slotRoll? j).map Roll.labelView = some v ∧ ∃ p ∈ v.2.2, p.2 = some st ∧ { roll := v.1, frame := p.1 } = w := by
  simp only [labelsWith, List.mem_flatMap, Prod.exists, mem_registerOrder, List.mem_map, List.mem_filter, decide_eq_true_eq]
  constructor
  · rintro ⟨j, r, hr, f, ⟨hf, hst⟩, rfl⟩
    exact ⟨j, r.id, r.unloadSeq, r.frames.map fun f => (f.number, f.label), by rw [hr]; rfl, f.number, f.label,
      List.mem_map_of_mem hf, hst, rfl⟩
  · rintro ⟨j, a, b, l, hv, n, x, hp, hst, rfl⟩
    obtain ⟨r, hr, hview⟩ := Option.map_eq_some_iff.1 hv
    cases hview
    obtain ⟨f, hf, heq⟩ := List.mem_map.1 hp
    cases heq
    exact ⟨j, r, hr, f, ⟨hf, hst⟩, rfl⟩

theorem SameLabels.mem_labelsWith {s t : State} (h : SameLabels s t) {st : LabelState} {w : LabelKey} :
    w ∈ labelsWith st t ↔ w ∈ labelsWith st s := by simp only [Machine.mem_labelsWith, h _]

theorem labelsWith_of_register {s t : State} (h : t.register = s.register) (st : LabelState) : labelsWith st t = labelsWith st s := by
  simp only [labelsWith, State.registerOrder, slotRoll?_of_register h]

theorem labelStateOf_of_register {s t : State} (h : t.register = s.register) (k : LabelKey) : labelStateOf t k = labelStateOf s k := by
  have hslot : t.slotOf? k.roll = s.slotOf? k.roll := slotOf?_of_ids (fun j => by rw [slotRoll?_of_register h]) _
  have hroll : t.slotRoll? = s.slotRoll? := funext (slotRoll?_of_register h)
  rw [labelStateOf, hslot, hroll]
  rfl

/-! ## Label states -/

/-- A frame record without its label state. -/
def Frame.unlabelled (f : Frame) : Frame := { f with label := none }

/-- A roll record without its label states. -/
def Roll.unlabelled (r : Roll) : Roll := { r with frames := r.frames.map Frame.unlabelled }

/-- What the operations on labels leave of a state: everything but the queue and the label states of frames in the register. -/
structure Relabelled (s t : State) : Prop where
  rest : t = { s with register := t.register, labels := { s.labels with queue := t.labels.queue } }
  rolls : ∀ j, (t.slotRoll? j).map Roll.unlabelled = (s.slotRoll? j).map Roll.unlabelled

theorem Relabelled.refl (s : State) : Relabelled s s := ⟨rfl, fun _ => rfl⟩

theorem Relabelled.trans {a b c : State} (h : Relabelled a b) (k : Relabelled b c) : Relabelled a c :=
  ⟨by rw [k.rest, h.rest], fun j => (k.rolls j).trans (h.rolls j)⟩

/-- The roll record after the frame of a number, where it is kept, takes a label state (R149). -/
def Roll.setLabel (r : Roll) (frame : Nat) (st : LabelState) : Roll :=
  { r with frames := r.frames.map fun f => if f.number == frame ∧ f.selection = .kept then { f with label := some st } else f }

theorem setLabel_unlabelled (r : Roll) (frame : Nat) (st : LabelState) : (r.setLabel frame st).unlabelled = r.unlabelled := by
  simp only [Roll.unlabelled, Roll.setLabel, List.map_map]
  congr 1
  refine List.map_congr_left fun f _ => ?_
  simp only [Function.comp_apply]
  split <;> rfl

theorem setLabelState_of_slot {k : LabelKey} {st : LabelState} {s : State} {slot : Nat} (h : s.slotOf? k.roll = some slot) :
    setLabelState k st s = s.onSlot slot fun r => r.setLabel k.frame st := by
  simp only [setLabelState, h]
  rfl

theorem relabelled_setLabelState (k : LabelKey) (st : LabelState) (s : State) : Relabelled s (setLabelState k st s) := by
  cases h : s.slotOf? k.roll with
  | none =>
    have : setLabelState k st s = s := by simp only [setLabelState, h]
    rw [this]
    exact .refl s
  | some slot =>
    rw [setLabelState_of_slot h]
    refine ⟨rfl, fun j => ?_⟩
    rw [slotRoll?_onSlot_eq]
    split
    · rename_i hj
      subst hj
      cases s.slotRoll? j with
      | none => rfl
      | some r => exact congrArg some (setLabel_unlabelled r _ _)
    · rfl

theorem relabelled_enqueue (k : LabelKey) (s : State) : Relabelled s (enqueue k s) := by
  obtain ⟨hrest, hrolls⟩ := relabelled_setLabelState k .queued s
  refine ⟨?_, hrolls⟩
  rw [enqueue, hrest]
  rfl

theorem relabelled_fillBy (n : Nat) (s : State) : Relabelled s (fillBy n s) := by
  induction n generalizing s with
  | zero => exact .refl s
  | succ n ih =>
    unfold fillBy
    split
    · split
      · exact .refl s
      · exact (relabelled_enqueue _ s).trans (ih _)
    · exact .refl s

@[simp] theorem enqueue_queue (k : LabelKey) (s : State) :
    (enqueue k s).labels.queue = insertBy (labelBefore s) k s.labels.queue := by
  rw [enqueue, onLabels_labels, setLabelState_labels]

/-- With as many rounds as places left in the queue, the fill ends with a full queue or with no label WAITING (R151). -/
theorem fillBy_ends (n : Nat) (s : State) (h : 32 ≤ s.labels.queue.length + n) :
    32 ≤ (fillBy n s).labels.queue.length ∨ labelsWith .waiting (fillBy n s) = [] := by
  induction n generalizing s with
  | zero => exact .inl h
  | succ n ih =>
    unfold fillBy
    split
    · split
      · rename_i hnone
        exact .inr hnone
      · exact ih _ (by rw [enqueue_queue, insertBy_length]; omega)
    · rename_i hfull
      exact .inl (Nat.le_of_not_lt hfull)

theorem fillQueue_ends (s : State) : 32 ≤ (fillQueue s).labels.queue.length ∨ labelsWith .waiting (fillQueue s) = [] :=
  fillBy_ends 32 s (by omega)

theorem fillQueue_of_full {s : State} (h : 32 ≤ s.labels.queue.length) : fillQueue s = s := if_neg (Nat.not_lt_of_le h)

/-! ## The label of a kept frame -/

/-- The state with a label record more. -/
def recorded (rec : LabelRecord) (s : State) : State := s.onLabels fun u => { u with records := u.records ++ [rec] }

theorem newLabelState_eq_queued_iff {s : State} {k : LabelKey} :
    newLabelState s k = .queued ↔ s.labels.queue.length < 32 ∧ ∀ w ∈ labelsWith .waiting s, labelBefore s k w = true := by
  unfold newLabelState
  split
  · rename_i h
    exact ⟨fun _ => ⟨h.1, List.all_eq_true.1 h.2⟩, fun _ => rfl⟩
  · rename_i h
    exact ⟨nofun, fun hq => absurd ⟨hq.1, List.all_eq_true.2 hq.2⟩ h⟩

theorem newLabelState_cases (s : State) (k : LabelKey) : newLabelState s k = .queued ∨ newLabelState s k = .waiting := by
  unfold newLabelState
  split
  · exact .inl rfl
  · exact .inr rfl

theorem makeLabel_of_queued {rec : LabelRecord} {s : State} (h : newLabelState s rec.key = .queued) :
    makeLabel rec s = enqueue rec.key (recorded rec s) := by
  simp only [makeLabel, h]
  rfl

theorem makeLabel_of_waiting {rec : LabelRecord} {s : State} (h : newLabelState s rec.key = .waiting) :
    makeLabel rec s = fillQueue (setLabelState rec.key .waiting (recorded rec s)) := by
  simp only [makeLabel, h]
  rfl

theorem relabelled_makeLabel (rec : LabelRecord) (s : State) : Relabelled (recorded rec s) (makeLabel rec s) := by
  rcases newLabelState_cases s rec.key with h | h
  · rw [makeLabel_of_queued h]
    exact relabelled_enqueue _ _
  · rw [makeLabel_of_waiting h]
    exact (relabelled_setLabelState _ _ _).trans (relabelled_fillBy _ _)

theorem makeLabel_records (rec : LabelRecord) (s : State) : (makeLabel rec s).labels.records = s.labels.records ++ [rec] := by
  rw [(relabelled_makeLabel rec s).rest]
  rfl

/-- A label waits only with a full queue after its fill, with no label WAITING, or with an older one WAITING (R134, R151). -/
theorem makeLabel_ends (rec : LabelRecord) (s : State) :
    32 ≤ (makeLabel rec s).labels.queue.length ∨ labelsWith .waiting (makeLabel rec s) = []
      ∨ ∀ w ∈ labelsWith .waiting s, labelBefore s rec.key w = true := by
  rcases newLabelState_cases s rec.key with h | h
  · exact .inr (.inr (newLabelState_eq_queued_iff.1 h).2)
  · rw [makeLabel_of_waiting h]
    exact (fillQueue_ends _).imp_right .inl

theorem labelStateOf_of_slot {s : State} {k : LabelKey} {slot : Nat} {r : Roll} (h : s.slotOf? k.roll = some slot)
    (hr : s.slotRoll? slot = some r) :
    labelStateOf s k = (r.frames.find? fun f => f.number == k.frame).bind fun f => f.label := by
  rw [labelStateOf, h, Option.bind_some, hr, Option.bind_some]

/-- A label state given to the one frame of its number, which is kept, is the label's state. -/
theorem labelStateOf_setLabelState {s : State} {k : LabelKey} {st : LabelState} {slot : Nat} {r : Roll} {f : Frame}
    (h : s.slotOf? k.roll = some slot) (hr : s.slotRoll? slot = some r)
    (hf : r.frames.find? (fun f => f.number == k.frame) = some f) (hkept : f.selection = .kept) :
    labelStateOf (setLabelState k st s) k = some st := by
  have hnumber : f.number = k.frame := by simpa using List.find?_some hf
  rw [setLabelState_of_slot h]
  have hslot : (s.onSlot slot fun r => r.setLabel k.frame st).slotOf? k.roll = some slot := by
    rw [slotOf?_of_ids (s := s) fun j => ?_, h]
    rw [slotRoll?_onSlot_eq]
    split
    · rename_i hj
      rw [hj, Option.map_map]
      rfl
    · rfl
  rw [labelStateOf_of_slot hslot (slotRoll?_onSlot _ hr)]
  have hfun : ((fun f : Frame => f.number == k.frame) ∘ fun f =>
      if f.number == k.frame ∧ f.selection = .kept then { f with label := some st } else f) = fun f => f.number == k.frame := by
    funext x
    simp only [Function.comp_apply]
    split <;> rfl
  simp only [Roll.setLabel, List.find?_map, hfun, hf, Option.map_some, Option.bind_some, hnumber, hkept]
  simp

end Sys2Proof.Machine
end

section
/-! SUPPORT. The entries of a selection report: the settled group, the rejections, the KEEP and its label (R131 to R137, R148 to R151). -/

namespace Sys2Proof.Machine

/-! ## A settled group -/

/-- What an entry selects of a frame of its group: the frame of the step kept, no other (R133, R135, R136). -/
def entrySelection (e : SelectReq) (f : Frame) : Selection :=
  if e.outcome = 0 ∧ f.step = e.step ∧ f.kind = .exposure then .kept else .discarded

/-- A frame after an entry on the group of a first frame. -/
def Frame.settledBy (f : Frame) (e : SelectReq) (first : Nat) : Frame :=
  if f.group = first then { f with selection := entrySelection e f } else f

/-- A roll record after an entry on the group of a first frame. -/
def Roll.settledBy (r : Roll) (e : SelectReq) (first : Nat) (outcome : GroupOutcome) : Roll :=
  { r with
    groups := r.groups.map fun h => if h.first = first then { h with outcome := outcome } else h,
    frames := r.frames.map fun f => f.settledBy e first }

theorem keepStep_eq {r : Roll} {e : SelectReq} (first : Nat) (h : e.outcome = 0) :
    r.keepStep first e.step = r.settledBy e first (.kept e.step) := by
  have hsel : entrySelection e = fun f => if f.step = e.step ∧ f.kind = .exposure then .kept else .discarded := by
    funext f
    simp [entrySelection, h]
  simp [Roll.keepStep, Roll.onGroup, Roll.onFramesOf, Roll.settledBy, Frame.settledBy, hsel]

theorem discardGroup_eq {r : Roll} {e : SelectReq} (first : Nat) (outcome : GroupOutcome) (h : e.outcome ≠ 0) :
    r.discardGroup first outcome = r.settledBy e first outcome := by
  have hsel : entrySelection e = fun _ => .discarded := by
    funext f
    simp [entrySelection, h]
  simp [Roll.discardGroup, Roll.onGroup, Roll.onFramesOf, Roll.settledBy, Frame.settledBy, hsel]

theorem settledBy_labelView (r : Roll) (e : SelectReq) (first : Nat) (outcome : GroupOutcome) :
    (r.settledBy e first outcome).labelView = r.labelView := by
  have h : ∀ f : Frame, ((f.settledBy e first).number, (f.settledBy e first).label) = (f.number, f.label) := fun f => by
    unfold Frame.settledBy
    split <;> rfl
  simp only [Roll.labelView, Roll.settledBy, List.map_map, Function.comp_def, h]

/-- The fields of a frame that an entry and a label leave, and its selection. -/
theorem frame_of_unlabelled {f f' : Frame} {e : SelectReq} {first : Nat} (h : f'.unlabelled = (f.settledBy e first).unlabelled) :
    f'.selection = (if f.group = first then entrySelection e f else f.selection)
      ∧ (f'.number, f'.kind, f'.group, f'.step, f'.amount, f'.account, f'.credited)
        = (f.number, f.kind, f.group, f.step, f.amount, f.account, f.credited) := by
  unfold Frame.settledBy at h
  cases f
  cases f'
  split at h <;> simp_all [Frame.unlabelled]

theorem settledBy_label (f : Frame) (e : SelectReq) (first : Nat) : (f.settledBy e first).label = f.label := by
  unfold Frame.settledBy
  split <;> rfl

/-- The record that a settled one is but for label states. -/
theorem roll_of_unlabelled {q r : Roll} {e : SelectReq} {first : Nat} {outcome : GroupOutcome}
    (h : q.unlabelled = (r.settledBy e first outcome).unlabelled) :
    q.groups = r.groups.map (fun h => if h.first = first then { h with outcome := outcome } else h)
      ∧ q.frames.length = r.frames.length
      ∧ ∀ (i : Nat) (f f' : Frame), r.frames[i]? = some f → q.frames[i]? = some f' →
          f'.unlabelled = (f.settledBy e first).unlabelled := by
  have hframes : q.frames.map Frame.unlabelled = (r.settledBy e first outcome).frames.map Frame.unlabelled := congrArg (fun r => r.frames) h
  refine ⟨congrArg (fun r => r.groups) h, by simpa [Roll.settledBy] using congrArg List.length hframes, fun i f f' hf hf' => ?_⟩
  have hi := congrArg (fun l => l[i]?) hframes
  simpa [Roll.settledBy, hf, hf'] using hi

/-- The group of an entry has its outcome. -/
theorem group?_outcome {q r : Roll} {first : Nat} {g : Group} {outcome : GroupOutcome} (hg : r.group? first = some g)
    (h : q.groups = r.groups.map fun h => if h.first = g.first then { h with outcome := outcome } else h) :
    (q.group? g.first).map (fun h => h.outcome) = some outcome := by
  have hfirst : g.first = first := by simpa using List.find?_some hg
  have hfun : ((fun h : Group => h.first == first) ∘ fun h => if h.first = first then { h with outcome := outcome } else h)
      = fun h => h.first == first := by
    funext h
    simp only [Function.comp_apply]
    split <;> rfl
  rw [Roll.group?] at hg
  rw [Roll.group?, h, hfirst, List.find?_map, hfun, hg]
  simp [hfirst]

/-! ## An entry applied -/

/-- The profile table after what a selection teaches; REJECT teaches nothing (R56, R136). -/
def taught (g : Group) (teach : Option LastStep) (t : ProfileTable) : ProfileTable :=
  match teach with
  | some step => (t.learn g.cat g.n g.spacing g.pUsed step).1
  | none => t

/-- What an applied entry leaves before the work list takes the outcome. -/
structure Settles (k : Nat) (e : SelectReq) (r : Roll) (g : Group) (outcome : GroupOutcome) (teach : Option LastStep) (s u : State) :
    Prop where
  work : u.work = s.work
  link : u.link = s.link
  tally : u.tally = s.tally
  profiles : u.profiles = taught g teach s.profiles
  roll : (u.slotRoll? k).map Roll.unlabelled = some (r.settledBy e g.first outcome).unlabelled
  rejected : e.outcome ≠ 0 → u.slotRoll? k = some (r.settledBy e g.first outcome) ∧ u.labels = s.labels

/-- The state of a group discarded for a rejection, with what it teaches. -/
def discardedState (k : Nat) (g : Group) (outcome : GroupOutcome) (teach : Option LastStep) (s : State) : State :=
  (s.onSlot k fun r => r.discardGroup g.first outcome).onProfiles fun _ => taught g teach s.profiles

theorem discarded_settles {k : Nat} {e : SelectReq} {r : Roll} {s : State} (g : Group) (outcome : GroupOutcome) (teach : Option LastStep)
    (hr : s.slotRoll? k = some r) (he : e.outcome ≠ 0) : Settles k e r g outcome teach s (discardedState k g outcome teach s) := by
  have hslot : (discardedState k g outcome teach s).slotRoll? k = some (r.settledBy e g.first outcome) := by
    rw [← discardGroup_eq g.first outcome he]
    exact slotRoll?_onSlot _ hr
  exact ⟨rfl, rfl, rfl, rfl, by rw [hslot]; rfl, fun _ => ⟨hslot, rfl⟩⟩

/-- The state of a kept group with its label, where the order and the frame are found (R133, R134). -/
def labelledState (k : Nat) (r : Roll) (g : Group) (j : Int) (s : State) : State :=
  match s.order? g.order, groupSlide s g, r.frameOfStep? g.first j with
  | some o, some x, some f => makeLabel (labelRecordOf s r g f.number o x) (s.onSlot k fun r => r.keepStep g.first j)
  | _, _, _ => s.onSlot k fun r => r.keepStep g.first j

/-- The state of a kept group with its label and what it teaches. -/
def keptState (k : Nat) (r : Roll) (g : Group) (j : Int) (s : State) : State :=
  (labelledState k r g j s).onProfiles fun _ => taught g (some (.kept j)) s.profiles

/-- A kept group's state is that of its frames settled, but for a label record, the queue and label states. -/
theorem labelled_cases (k : Nat) (r : Roll) (g : Group) (j : Int) (s : State) :
    ∃ records, Relabelled ((s.onSlot k fun r => r.keepStep g.first j).onLabels fun u => { u with records := records })
      (labelledState k r g j s) := by
  unfold labelledState
  split
  · exact ⟨_, relabelled_makeLabel _ _⟩
  · exact ⟨s.labels.records, .refl _⟩

theorem labelled_leaves (k : Nat) (r : Roll) (g : Group) (j : Int) (s : State) :
    (labelledState k r g j s).work = s.work ∧ (labelledState k r g j s).link = s.link ∧ (labelledState k r g j s).tally = s.tally
      ∧ (labelledState k r g j s).profiles = s.profiles := by
  obtain ⟨records, hrest, -⟩ := labelled_cases k r g j s
  rw [hrest]
  exact ⟨rfl, rfl, rfl, rfl⟩

theorem kept_settles {k : Nat} {e : SelectReq} {r : Roll} {s : State} (g : Group) (hr : s.slotRoll? k = some r) (he : e.outcome = 0) :
    Settles k e r g (.kept e.step) (some (.kept e.step)) s (keptState k r g e.step s) := by
  obtain ⟨hwork, hlink, htally, -⟩ := labelled_leaves k r g e.step s
  obtain ⟨records, -, hrolls⟩ := labelled_cases k r g e.step s
  refine ⟨hwork, hlink, htally, rfl, (hrolls k).trans ?_, fun h => absurd he h⟩
  rw [← keepStep_eq g.first he]
  exact congrArg (Option.map Roll.unlabelled) (slotRoll?_onSlot _ hr)

theorem applyKeep_eq (k : Nat) (r : Roll) (g : Group) (j : Int) (s : State) :
    applyKeep k r g j s
      = (slideTaken g.order g.slide (fun x => { x with outcome := .kept }) (keptState k r g j s),
          (s.profiles.learn g.cat g.n g.spacing g.pUsed (.kept j)).2) := by
  obtain ⟨-, -, -, hprofiles⟩ := labelled_leaves k r g j s
  have h : applyKeep k r g j s
      = (slideTaken g.order g.slide (fun x => { x with outcome := .kept }) (learnFrom g (.kept j) (labelledState k r g j s)).1,
          (learnFrom g (.kept j) (labelledState k r g j s)).2) := rfl
  rw [h, learnFrom, hprofiles]
  rfl

/-- DONE, with the group's outcome as the entry left it (R132). -/
theorem doneResult_eq {k : Nat} {r : Roll} {e : SelectReq} {g : Group} {outcome : GroupOutcome} {teach : Option LastStep} {s u : State}
    (hg : r.group? e.first = some g) (hu : Settles k e r g outcome teach s u) (change : Slide → Slide) (slide : Option Slide)
    (learned : Option LearnResult) (label : Option (Nat × Option LabelState)) :
    doneResult s (slideTaken g.order g.slide change u) k g slide learned label
      = .done outcome slide learned label
          ((s.order? g.order).isSome && ((slideTaken g.order g.slide change u).order? g.order).isNone) := by
  obtain ⟨q, hq, hroll⟩ := Option.map_eq_some_iff.1 hu.roll
  obtain ⟨hgroups, -, -⟩ := roll_of_unlabelled hroll
  have hslot : (slideTaken g.order g.slide change u).slotRoll? k = some q := by
    rw [slideTaken_eq hu.work hu.link]
    exact hq
  rw [doneResult, hslot, Option.bind_some, group?_outcome hg hgroups, Option.getD_some]

/-- The slide after a rejection by exposure, with the bounds of its shift spelled out (R135). -/
theorem rejectedBy_eq (x : Slide) (move : Int) :
    x.rejectedBy move
      = if x.attempts < 3 then { x with outcome := .reshootDue, shift := max (-48) (min 48 (x.shift + move)) }
        else { x with outcome := .rejected } := by
  rw [Slide.rejectedBy, clampInt_eq_max_min (by decide)]
  rfl

/-- The number, outcome and lesson of a rejection, with what it makes of the slide (R135, R136). -/
inductive RejectionOf (g : Group) : Nat → GroupOutcome → Option LastStep → (Slide → Slide) → Prop where
  | underExposed {change : Slide → Slide} (h : ∀ x, change x = x.rejectedBy (shiftMove g)) :
      RejectionOf g 1 .rejectUnder (some .under) change
  | overExposed {change : Slide → Slide} (h : ∀ x, change x = x.rejectedBy (-(shiftMove g))) :
      RejectionOf g 2 .rejectOver (some .over) change
  | plain (n : Nat) {change : Slide → Slide} (h : ∀ x, change x = x.rejectedPlain) : RejectionOf g (n + 3) .reject none change

/-- A rejection discards the group, teaches what it teaches, and the work list takes the slide's outcome. -/
theorem applyEntry_rejected {k : Nat} {e : SelectReq} {r : Roll} {g : Group} {s : State} {outcome : GroupOutcome}
    {teach : Option LastStep} {change : Slide → Slide} (hr : s.slotRoll? k = some r) (hg : r.group? e.first = some g)
    (hcomplete : g.completeness = .complete) (hopen : g.outcome = .unselected) (h : RejectionOf g e.outcome outcome teach change) :
    applyEntry k e s
      = (slideTaken g.order g.slide change (discardedState k g outcome teach s),
          .done outcome ((groupSlide s g).map change) (teach.map fun step => (s.profiles.learn g.cat g.n g.spacing g.pUsed step).2)
            none
            ((s.order? g.order).isSome
              && ((slideTaken g.order g.slide change (discardedState k g outcome teach s)).order? g.order).isNone)) := by
  have hne : e.outcome ≠ 0 := by
    generalize e.outcome = n at h
    cases h <;> omega
  rw [← doneResult_eq hg (discarded_settles g outcome teach hr hne) change]
  obtain ⟨first, number, step⟩ := e
  change RejectionOf g number outcome teach change at h
  simp only [applyEntry, hr, hg, hcomplete, hopen, ne_eq, not_true, if_false]
  cases h with
  | underExposed h => rw [show change = fun x => x.rejectedBy (shiftMove g) from funext h]; rfl
  | overExposed h => rw [show change = fun x => x.rejectedBy (-(shiftMove g)) from funext h]; rfl
  | plain n h => rw [show change = Slide.rejectedPlain from funext h]; rfl

/-- A KEEP within the bracket. -/
theorem applyEntry_kept {k : Nat} {e : SelectReq} {r : Roll} {g : Group} {s t : State} (hr : s.slotRoll? k = some r)
    (hg : r.group? e.first = some g) (hcomplete : g.completeness = .complete) (hopen : g.outcome = .unselected)
    (he : e.outcome = 0) (hstep : ¬(g.n - 1) / 2 < e.step.natAbs)
    (ht : t = slideTaken g.order g.slide (fun x => { x with outcome := .kept }) (keptState k r g e.step s)) :
    applyEntry k e s
      = (t, .done (.kept e.step) ((groupSlide s g).map fun x => { x with outcome := .kept })
              (some (s.profiles.learn g.cat g.n g.spacing g.pUsed (.kept e.step)).2)
              (some (r.frameOfStep g.first e.step, labelStateOf t { roll := r.id, frame := r.frameOfStep g.first e.step }))
              ((s.order? g.order).isSome && (t.order? g.order).isNone)) := by
  subst ht
  rw [← doneResult_eq hg (kept_settles g hr he)]
  simp only [applyEntry, hr, hg, hcomplete, hopen, ne_eq, not_true, if_false, he, hstep, applyKeep_eq]

/-! ## The label of a KEEP -/

theorem frameOfStep?_eq (r : Roll) (first : Nat) (j : Int) :
    r.frameOfStep? first j
      = r.frames.find? fun f => f.group == first && (decide (f.step = j) && decide (f.kind = .exposure)) := by
  rw [Roll.frameOfStep?, Roll.framesOf, List.find?_filter]
  congr 1
  funext f
  rw [Bool.eq_iff_iff]
  simp

/-- The frame of the step kept is, under its number, the KEPT frame of the settled roll (R133). -/
theorem find?_settledBy_kept {r : Roll} {e : SelectReq} {first : Nat} {f : Frame} (outcome : GroupOutcome) (he : e.outcome = 0)
    (hfind : r.frameOfStep? first e.step = some f) (huniq : ∀ f' ∈ r.frames, f'.number = f.number → f' = f) :
    (r.settledBy e first outcome).frames.find? (fun x => x.number == f.number) = some { f with selection := .kept } := by
  rw [frameOfStep?_eq] at hfind
  have hsettled : f.settledBy e first = { f with selection := .kept } := by
    have hf := List.find?_some hfind
    simp only [Bool.and_eq_true, beq_iff_eq, decide_eq_true_eq] at hf
    obtain ⟨hgroup, hstep, hkind⟩ := hf
    simp [Frame.settledBy, entrySelection, hgroup, he, hstep, hkind]
  have hnumber : r.frames.find? (fun x => x.number == f.number) = some f := by
    cases hx : r.frames.find? (fun x => x.number == f.number) with
    | none => exact absurd (beq_self_eq_true f.number) (List.find?_eq_none.1 hx f (List.mem_of_find?_eq_some hfind))
    | some x => rw [huniq x (List.mem_of_find?_eq_some hx) (by simpa using List.find?_some hx)]
  have hfun : ((fun x : Frame => x.number == f.number) ∘ fun x : Frame => x.settledBy e first)
      = fun x : Frame => x.number == f.number := by
    funext x
    simp only [Function.comp_apply, Frame.settledBy]
    split <;> rfl
  simp only [Roll.settledBy, List.find?_map, hfun, hnumber, Option.map_some, hsettled]

/-- Settling the frames of a roll leaves every label in its place. -/
theorem sameLabels_settled {k : Nat} {r : Roll} {s : State} {e : SelectReq} {first : Nat} {outcome : GroupOutcome} {f : Roll → Roll}
    (hr : s.slotRoll? k = some r) (hf : f r = r.settledBy e first outcome) : SameLabels s (s.onSlot k f) := fun j => by
  rw [slotRoll?_onSlot_eq]
  split
  · rename_i hj
    rw [hj, hr, Option.map_some, hf, Option.map_some, settledBy_labelView, Option.map_some]
  · rfl

/-- The label of a kept frame, the one frame of its number in the first slot of its roll: QUEUED in its place or WAITING (R134). -/
theorem makeLabel_kept {k : Nat} {e : SelectReq} {r : Roll} {g : Group} {f : Frame} {s s' : State} {rec : LabelRecord}
    {key : LabelKey} (hr : s.slotRoll? k = some r) (he : e.outcome = 0) (hfind : r.frameOfStep? g.first e.step = some f)
    (hrec : rec.key = key) (hkey : key = { roll := r.id, frame := f.number })
    (hs' : s' = s.onSlot k fun r => r.keepStep g.first e.step)
    (hfirst : ∀ j < k, ∀ q, s.slotRoll? j = some q → q.id ≠ r.id) (huniq : ∀ f' ∈ r.frames, f'.number = f.number → f' = f) :
    (s.labels.queue.length < 32 → (∀ w ∈ labelsWith .waiting s, labelBefore s key w = true) →
        labelStateOf (makeLabel rec s') key = some .queued
          ∧ (makeLabel rec s').labels.queue = insertBy (labelBefore s) key s.labels.queue)
      ∧ (32 ≤ s.labels.queue.length →
          labelStateOf (makeLabel rec s') key = some .waiting ∧ (makeLabel rec s').labels.queue = s.labels.queue)
      ∧ (32 ≤ (makeLabel rec s').labels.queue.length ∨ labelsWith .waiting (makeLabel rec s') = []
          ∨ ∀ w ∈ labelsWith .waiting s, labelBefore s key w = true) := by
  subst hrec
  have hkeep : r.keepStep g.first e.step = r.settledBy e g.first (.kept e.step) := keepStep_eq g.first he
  have hsame : SameLabels s s' := by
    rw [hs']
    exact sameLabels_settled hr hkeep
  have hqueue : s'.labels = s.labels := by rw [hs']; rfl
  have hroll : (recorded rec s').slotRoll? k = some (r.settledBy e g.first (.kept e.step)) := by
    rw [← hkeep, hs']
    exact slotRoll?_onSlot _ hr
  have hslot : (recorded rec s').slotOf? rec.key.roll = some k := by
    have hk : (recorded rec s').slotOf? rec.key.roll = s.slotOf? rec.key.roll := slotOf?_of_ids (s := s) hsame.ids _
    rw [hk, hkey]
    exact slotOf?_eq_some_iff.2 ⟨⟨r, hr, rfl⟩, hfirst⟩
  have hframe : (r.settledBy e g.first (.kept e.step)).frames.find? (fun x => x.number == rec.key.frame)
      = some { f with selection := .kept } := by
    rw [hkey]
    exact find?_settledBy_kept _ he hfind huniq
  have hstate : ∀ st, labelStateOf (setLabelState rec.key st (recorded rec s')) rec.key = some st := fun st =>
    labelStateOf_setLabelState hslot hroll hframe rfl
  have hbefore : labelBefore (recorded rec s') = labelBefore s := hsame.labelBefore
  have hqueued : newLabelState s' rec.key = .queued ↔
      s.labels.queue.length < 32 ∧ ∀ w ∈ labelsWith .waiting s, labelBefore s rec.key w = true := by
    simp only [newLabelState_eq_queued_iff, hqueue, hsame.mem_labelsWith, hsame.labelBefore]
  refine ⟨fun hroom holder => ?_, fun hfull => ?_, ?_⟩
  · rw [makeLabel_of_queued (hqueued.2 ⟨hroom, holder⟩), enqueue_queue, hbefore]
    refine ⟨hstate .queued, ?_⟩
    change insertBy _ _ s'.labels.queue = _
    rw [hqueue]
  · have hwait : newLabelState s' rec.key = .waiting :=
      (newLabelState_cases s' rec.key).resolve_left fun h => absurd (hqueued.1 h).1 (Nat.not_lt_of_le hfull)
    have hq : (setLabelState rec.key .waiting (recorded rec s')).labels.queue = s.labels.queue := by
      rw [setLabelState_labels, ← hqueue]
      rfl
    rw [makeLabel_of_waiting hwait, fillQueue_of_full (by rw [hq]; exact hfull)]
    exact ⟨hstate .waiting, hq⟩
  · have hends := makeLabel_ends rec s'
    simpa only [hsame.mem_labelsWith, hsame.labelBefore] using hends

/-! ## The entries of a selection report -/

/-- What an applied entry leaves, the work list's part taken: the lesson, the link and the work list, and the roll of its slot. -/
theorem applied_leaves {k : Nat} {e : SelectReq} {r : Roll} {g : Group} {outcome : GroupOutcome} {teach : Option LastStep} {s u t : State}
    {change : Slide → Slide} (hu : Settles k e r g outcome teach s u) (ht : t = slideTaken g.order g.slide change u) :
    t.profiles = taught g teach s.profiles
      ∧ (t.work = (slideTaken g.order g.slide change s).work ∧ t.link = (slideTaken g.order g.slide change s).link)
      ∧ (∃ q, t.slotRoll? k = some q
          ∧ q.groups = r.groups.map (fun h => if h.first = g.first then { h with outcome := outcome } else h)
          ∧ q.frames.length = r.frames.length
          ∧ ∀ (i : Nat) (f f' : Frame), r.frames[i]? = some f → q.frames[i]? = some f' →
              (f'.selection = if f.group = g.first then
                (if e.outcome = 0 ∧ f.step = e.step ∧ f.kind = .exposure then .kept else .discarded) else f.selection)
                ∧ (f'.number, f'.kind, f'.group, f'.step, f'.amount, f'.account, f'.credited)
                    = (f.number, f.kind, f.group, f.step, f.amount, f.account, f.credited)
                ∧ (e.outcome ≠ 0 → f'.label = f.label))
      ∧ t.tally = s.tally
      ∧ (e.outcome ≠ 0 → t.labels = s.labels) := by
  rw [slideTaken_eq hu.work hu.link] at ht
  subst ht
  obtain ⟨q, hq, hroll⟩ := Option.map_eq_some_iff.1 hu.roll
  obtain ⟨hgroups, hlength, hframes⟩ := roll_of_unlabelled hroll
  refine ⟨hu.profiles, ⟨rfl, rfl⟩, ⟨q, hq, hgroups, hlength, fun i f f' hf hf' => ?_⟩, hu.tally, fun hne => (hu.rejected hne).2⟩
  obtain ⟨hselection, hfields⟩ := frame_of_unlabelled (hframes i f f' hf hf')
  refine ⟨hselection, hfields, fun hne => ?_⟩
  obtain ⟨hexact, -⟩ := hu.rejected hne
  cases hq.symm.trans hexact
  rw [Roll.settledBy, List.getElem?_map, hf] at hf'
  cases hf'
  exact settledBy_label f e g.first

theorem finished_iff {x y : Option Order} : (x.isSome && y.isNone) = true ↔ x ≠ none ∧ y = none := by
  simp [Option.isSome_iff_ne_none]

/-- Settles O40: the tests of an entry in their order, a rejection and a KEEP by what each leaves, and the label of the KEEP. -/
theorem selectionEntries : Obligations.SelectionEntries := by
  intro k e s t r result hr happly
  refine ⟨fun hno => ?_, fun g hg => ⟨fun h => ?_, fun hcomplete h => ?_, fun hcomplete hopen he hstep => ?_,
    fun hcomplete hopen hvalid outcome teach change hcase => ?_⟩⟩
  · have hg : r.group? e.first = none := List.find?_eq_none.2 fun g hg => by simpa using hno g hg
    simp only [applyEntry, hr, hg, Prod.mk.injEq] at happly
    exact ⟨happly.2.symm, happly.1.symm⟩
  all_goals have hgroup : r.group? e.first = some g := hg
  · simp only [applyEntry, hr, hgroup, if_pos h, Prod.mk.injEq] at happly
    exact ⟨happly.2.symm, happly.1.symm⟩
  · simp only [applyEntry, hr, hgroup, hcomplete, ne_eq, not_true, if_false, if_pos h, Prod.mk.injEq] at happly
    exact ⟨happly.2.symm, happly.1.symm⟩
  · simp only [applyEntry, hr, hgroup, hcomplete, hopen, ne_eq, not_true, if_false, he, if_pos hstep, Prod.mk.injEq] at happly
    exact ⟨happly.2.symm, happly.1.symm⟩
  by_cases he : e.outcome = 0
  · have hstep : ¬(g.n - 1) / 2 < e.step.natAbs := fun h => hvalid ⟨he, h⟩
    obtain ⟨houtcome, hteach, hchange⟩ : outcome = .kept e.step ∧ teach = some (.kept e.step)
        ∧ change = fun x => { x with outcome := .kept } := by
      obtain ⟨heq, hchange⟩ | ⟨heq, -⟩ | ⟨heq, -⟩ | ⟨-, hn, -⟩ := hcase
      · obtain ⟨-, rfl, rfl⟩ : _ ∧ outcome = _ ∧ teach = _ := by simpa only [Prod.mk.injEq] using heq
        exact ⟨rfl, rfl, funext hchange⟩
      · rw [he] at heq; cases heq
      · rw [he] at heq; cases heq
      · omega
    subst houtcome hteach hchange
    have hdone := happly.symm.trans (applyEntry_kept hr hgroup hcomplete hopen he hstep rfl)
    obtain ⟨ht, hresult⟩ := Prod.mk.inj hdone
    obtain ⟨hprofiles, hwork, hslot, htally, hlabels⟩ := applied_leaves (kept_settles g hr he) ht
    have hpart := slideTaken_eq (kept_settles g hr he).work (kept_settles g hr he).link g.order g.slide
      fun x => { x with outcome := .kept }
    rw [← ht] at hresult
    refine ⟨⟨_, _, hresult, finished_iff, fun h => absurd he h, fun f _ hf => ?_⟩, hprofiles, fun u hu => hu ▸ hwork, hslot, htally,
      hlabels, fun o x f key _ ho hx hf hkey => ?_⟩
    · rw [Roll.frameOfStep, frameOfStep?_eq, hf]
      rfl
    · have hlabelled : labelledState k r g e.step s
          = makeLabel (labelRecordOf s r g f.number o x) (s.onSlot k fun r => r.keepStep g.first e.step) := by
        have hslide : groupSlide s g = some x := by rw [groupSlide, ho]; exact hx
        rw [labelledState, ho, hslide, frameOfStep?_eq, hf]
      have hlabelsPart : t.labels = (labelledState k r g e.step s).labels := by rw [ht, hpart]; rfl
      have hregister : t.register = (labelledState k r g e.step s).register := by rw [ht, hpart]; rfl
      rw [hlabelled] at hlabelsPart hregister
      rw [hlabelsPart, labelStateOf_of_register hregister, labelsWith_of_register hregister]
      refine ⟨(makeLabel_records _ _).trans ?_, fun hfirst huniq =>
        makeLabel_kept hr he ((frameOfStep?_eq r g.first e.step).trans hf) hkey.symm hkey rfl hfirst huniq⟩
      rw [labelRecordOf, hkey]
      rfl
  · have hrej : RejectionOf g e.outcome outcome teach change := by
      obtain ⟨heq, -⟩ | ⟨heq, hchange⟩ | ⟨heq, hchange⟩ | ⟨heq, hn, hchange⟩ := hcase
      · exact absurd (congrArg Prod.fst heq) he
      · obtain ⟨hn, rfl, rfl⟩ : e.outcome = 1 ∧ outcome = _ ∧ teach = _ := by simpa only [Prod.mk.injEq] using heq
        rw [hn]
        exact .underExposed fun x => (hchange x).trans (rejectedBy_eq x _).symm
      · obtain ⟨hn, rfl, rfl⟩ : e.outcome = 2 ∧ outcome = _ ∧ teach = _ := by simpa only [Prod.mk.injEq] using heq
        rw [hn]
        exact .overExposed fun x => (hchange x).trans (rejectedBy_eq x _).symm
      · obtain ⟨rfl, rfl⟩ : outcome = _ ∧ teach = _ := by simpa only [Prod.mk.injEq] using heq
        obtain ⟨m, hm⟩ := Nat.exists_eq_add_of_le' hn
        rw [hm]
        exact .plain m hchange
    have hdone := happly.symm.trans (applyEntry_rejected hr hgroup hcomplete hopen hrej)
    obtain ⟨ht, hresult⟩ := Prod.mk.inj hdone
    obtain ⟨hprofiles, hwork, hslot, htally, hlabels⟩ := applied_leaves (discarded_settles g outcome teach hr he) ht
    rw [← ht] at hresult
    exact ⟨⟨_, _, hresult, finished_iff, fun _ => rfl, fun _ h => absurd h he⟩, hprofiles, fun u hu => hu ▸ hwork, hslot, htally,
      hlabels, fun _ _ _ _ h => absurd h he⟩

end Sys2Proof.Machine
end

section
/-! SUPPORT. The soundness of the gate record and the tray map under every change of the feeder; MAP TRAY entry by entry (R66 to R71). -/

namespace Sys2Proof.Machine

/-! ## The kept feeder -/

/-- What `FeederSound` says of the feeder, each part by its name. -/
structure Feeder.Sound (f : Feeder) : Prop where
  gate : f.gate = .empty ↔ f.gateSense = false
  range : ∀ p x : Nat, (f.map[p]?).join = some x → 1 ≤ x ∧ x ≤ 16777215
  distinct : ∀ p q x : Nat, (f.map[p]?).join = some x → (f.map[q]?).join = some x → p = q
  absent : f.present = false → ∀ p : Nat, (f.map[p]?).join = none

theorem feederSound_iff {s : State} : FeederSound s ↔ s.feeder.Sound := by
  constructor
  · rintro ⟨hgate, hrange, hdistinct, habsent⟩
    refine ⟨hgate, fun p x hx => hrange p (lt_of_join hx) x hx,
      fun p q x hp hq => hdistinct p (lt_of_join hp) q (lt_of_join hq) x hp x hq rfl, fun hno p => ?_⟩
    by_contra hne
    obtain ⟨x, hx⟩ := Option.ne_none_iff_exists'.1 hne
    exact hne (habsent hno p (lt_of_join hx))
  · rintro ⟨hgate, hrange, hdistinct, habsent⟩
    exact ⟨hgate, fun p _ => hrange p, fun p _ q _ x hx y hy hxy => hdistinct p q x hx (hxy ▸ hy), fun hno p _ => habsent hno p⟩

/-- A feeder with the map and the tray of a sound one is sound when its gate record agrees with its sense. -/
theorem Feeder.Sound.of_map {f g : Feeder} (hf : f.Sound) (hmap : g.map = f.map) (hpresent : g.present = f.present)
    (hgate : g.gate = .empty ↔ g.gateSense = false) : g.Sound := by
  obtain ⟨-, hrange, hdistinct, habsent⟩ := hf
  rw [← hmap] at hrange hdistinct habsent
  exact ⟨hgate, hrange, hdistinct, hpresent ▸ habsent⟩

/-- A number is mapped at a position, and no other position holds it, or the position becomes EMPTY (R68, R71). -/
theorem Feeder.Sound.setMap {f : Feeder} (hf : f.Sound) (p : Nat) {e : Option Nat} (hpresent : f.present = true ∨ e = none)
    (he : ∀ x ∈ e, (1 ≤ x ∧ x ≤ 16777215) ∧ ∀ q, (f.map[q]?).join = some x → q = p) :
    Feeder.Sound { f with map := f.map.setIfInBounds p e } := by
  have hslot : ∀ {q x}, ((f.map.setIfInBounds p e)[q]?).join = some x →
      (q = p ∧ e = some x) ∨ (f.map[q]?).join = some x := by
    intro q x hx
    rw [join_setIfInBounds] at hx
    split at hx
    · rename_i h; exact .inl ⟨h.1, hx⟩
    · exact .inr hx
  refine ⟨hf.gate, fun q x hx => ?_, fun q r x hq hr => ?_, fun hno q => ?_⟩
  · rcases hslot hx with ⟨-, hx⟩ | hx
    · exact (he x hx).1
    · exact hf.range q x hx
  · rcases hslot hq with ⟨hqp, hx⟩ | hq <;> rcases hslot hr with ⟨hrp, hx'⟩ | hr
    · rw [hqp, hrp]
    · rw [hqp, (he x hx).2 r hr]
    · rw [hrp, (he x hx').2 q hq]
    · exact hf.distinct q r x hq hr
  · rw [join_setIfInBounds, hf.absent hno]
    rcases hpresent with h | h
    · rw [h] at hno; cases hno
    · rw [h, ite_self]

theorem gateAfterTimeout_eq_empty {sense : Bool} : gateAfterTimeout sense = .empty ↔ sense = false := by cases sense <;> decide

/-- Every elementary change keeps the feeder sound: the part by itself touches the gate record alone, as a timeout leaves it. -/
theorem Move.feederSound (a b : State) (h : Move a b) (hs : a.feeder.Sound) : b.feeder.Sound := by
  cases h with
  | feeder f _ h =>
    obtain ⟨hmap, hpresent, hsense, hgate⟩ := h
    refine hs.of_map hmap hpresent ?_
    rw [onFeeder_feeder, hsense]
    rcases hgate with h | h
    · exact h.trans hs.gate
    · rw [h, gateAfterTimeout_eq_empty]
  | back b => cases b <;> exact hs
  | backRoll b => cases b <;> exact hs
  | frame b => cases b <;> exact hs
  | _ => exact hs

/-! ## MAP TRAY entries -/

theorem isBusy_iff {s : State} {pos : Nat} :
    isBusy s pos = true ↔ pos ∈ s.feeder.feedBusy ∨ ∃ x, s.feeder.gate = .holds pos x := by
  unfold isBusy
  rw [Bool.or_eq_true, List.contains_iff_mem]
  cases s.feeder.gate <;> simp

/-- Another position holds the number of an entry: the lowest such one (R68). -/
theorem heldElsewhere_eq_some_iff {map : Vector (Option Nat) 80} {e : TrayReq} {p : Nat} :
    heldElsewhere map e = some p ↔
      e.cat ≠ 0 ∧ p < 80 ∧ p ≠ e.pos ∧ (map[p]?).join = some e.cat ∧ ∀ q < p, q ≠ e.pos → (map[q]?).join ≠ some e.cat := by
  unfold heldElsewhere
  split
  · rename_i h; simp [h]
  · rename_i h
    simp only [List.find?_range_eq_some, Bool.and_eq_true, bne_iff_ne, decide_eq_true_eq, List.mem_range, Bool.not_eq_true',
      Bool.and_eq_false_iff, bne_eq_false_iff_eq, decide_eq_false_iff_not]
    constructor
    · rintro ⟨⟨hpos, hat⟩, hlt, hfirst⟩
      exact ⟨h, hlt, hpos, hat, fun q hq hne => (hfirst q hq).resolve_left hne⟩
    · rintro ⟨-, hlt, hpos, hat, hfirst⟩
      exact ⟨⟨hpos, hat⟩, hlt, fun q hq => or_iff_not_imp_left.2 (hfirst q hq)⟩

theorem heldElsewhere_eq_none_iff {map : Vector (Option Nat) 80} {e : TrayReq} :
    heldElsewhere map e = none ↔ e.cat = 0 ∨ ∀ p < 80, p ≠ e.pos → (map[p]?).join ≠ some e.cat := by
  unfold heldElsewhere
  split
  · rename_i h; simp [h]
  · rename_i h; simp [h]

/-- An entry is taken DONE: in range, its position not busy, its number at no other position (R68). -/
theorem trayResult_eq_done_iff {s : State} {e : TrayReq} :
    trayResult s e = .done ↔
      (e.pos ≤ 79 ∧ e.cat ≤ 16777215) ∧ ¬isBusy s e.pos = true ∧ heldElsewhere s.feeder.map e = none := by
  unfold trayResult
  split
  · rename_i h
    exact iff_of_false nofun fun hc => by omega
  · rename_i h
    split
    · rename_i hbusy
      exact iff_of_false nofun fun hc => hc.2.1 hbusy
    · rename_i hfree
      cases hheld : heldElsewhere s.feeder.map e with
      | some p => exact iff_of_false nofun fun hc => nomatch hc.2.2
      | none => exact iff_of_true rfl ⟨by omega, hfree, rfl⟩

/-- Every change that a command makes itself keeps the feeder sound. -/
theorem OwnMove.feederSound (o : Own) (a b : State) (h : OwnMove o a b) (hs : a.feeder.Sound) : b.feeder.Sound := by
  cases h with
  | map e _ hdone hpresent =>
    obtain ⟨⟨hpos, hcat⟩, -, hfree⟩ := trayResult_eq_done_iff.1 hdone
    refine hs.setMap e.pos (.inl hpresent) fun x hx => ?_
    have hx : ¬e.cat = 0 ∧ e.cat = x := by simpa [mappedNumber] using hx
    obtain ⟨hzero, rfl⟩ := hx
    refine ⟨by omega, fun q hq => ?_⟩
    by_contra hne
    exact (heldElsewhere_eq_none_iff.1 hfree).resolve_left hzero q (lt_of_join hq) hne hq
  | trayOut =>
    have hempty : ∀ p, (((Vector.replicate 80 none : Vector (Option Nat) 80))[p]?).join = none := fun p => join_replicate_none
    refine ⟨hs.gate, fun p x hx => ?_, fun p q x hx => ?_, fun _ => hempty⟩
    · exact nomatch (hempty p).symm.trans hx
    · exact nomatch (hempty p).symm.trans hx
  | trayIn => exact ⟨hs.gate, hs.range, hs.distinct, nofun⟩
  | gateOn f _ h =>
    obtain ⟨hmap, hpresent, hsense, hgate⟩ := h
    exact hs.of_map hmap hpresent (by rw [onFeeder_feeder, hsense]; exact iff_of_false hgate nofun)
  | gateOff f _ h =>
    obtain ⟨hmap, hpresent, hsense, hgate⟩ := h
    have hagree : (f a.feeder).gate = .empty ↔ (f a.feeder).gateSense = false := by rw [hgate, hsense]; exact iff_of_true rfl rfl
    rcases hmap with hmap | ⟨p, hmap⟩
    · exact hs.of_map hmap hpresent hagree
    · exact (hs.setMap p (.inr rfl) nofun).of_map hmap hpresent hagree
  | power strap1 strap0 tray gate =>
    have hempty : ∀ p, ((powerOnEvent strap1 strap0 tray gate a).feeder.map[p]?).join = none := fun p => join_replicate_none
    refine ⟨gateAfterTimeout_eq_empty, fun p x hx => ?_, fun p q x hx => ?_, fun _ => hempty⟩
    · exact nomatch (hempty p).symm.trans hx
    · exact nomatch (hempty p).symm.trans hx
  | load b => cases b <;> exact hs
  | unload b => cases b <;> exact hs
  | clear b => cases b <;> exact hs
  | _ => exact hs

/-- Settles O54: every elementary change and every command's own change keeps the feeder sound. -/
theorem feederKept : Obligations.FeederKept := fun _ _ hs h =>
  feederSound_iff.2 (step_keeps (P := fun s => s.feeder.Sound) (fun _ _ => id) Move.feederSound OwnMove.feederSound h
    (feederSound_iff.1 hs))

/-! ## MAP TRAY -/

theorem trayResult_range {s : State} {e : TrayReq} (h : ¬(e.pos ≤ 79 ∧ e.cat ≤ 16777215)) : trayResult s e = .range :=
  if_pos (by omega)

theorem trayResult_busy {s : State} {e : TrayReq} (h : e.pos ≤ 79 ∧ e.cat ≤ 16777215) (hb : isBusy s e.pos = true) :
    trayResult s e = .busy := by
  rw [trayResult, if_neg (by omega), if_pos hb]

theorem trayResult_duplicate {s : State} {e : TrayReq} {p : Nat} (h : e.pos ≤ 79 ∧ e.cat ≤ 16777215)
    (hb : ¬isBusy s e.pos = true) (hp : heldElsewhere s.feeder.map e = some p) : trayResult s e = .duplicate p := by
  rw [trayResult, if_neg (by omega), if_neg hb, hp]

/-- An entry not taken DONE leaves the state to the next one (R68). -/
theorem mapEntries_refused {e : TrayReq} {es : List TrayReq} {s : State} {r : TrayResult} (h : trayResult s e = r)
    (hr : r ≠ .done) : mapEntries (e :: es) s = ((mapEntries es s).1, r :: (mapEntries es s).2) := by
  rw [mapEntries, mapEntry, h, if_neg hr]

theorem mapEntries_done {e : TrayReq} {es : List TrayReq} {s t : State} (h : trayResult s e = .done)
    (ht : t = { s with feeder :=
      { s.feeder with map := s.feeder.map.setIfInBounds e.pos (if e.cat = 0 then none else some e.cat) } }) :
    mapEntries (e :: es) s = ((mapEntries es t).1, .done :: (mapEntries es t).2) := by
  rw [mapEntries, mapEntry, h, if_pos rfl, ht]
  rfl

/-- What the entries answer, and the map they leave, depend on the feeder alone. -/
theorem mapEntries_of_feeder (es : List TrayReq) {s t : State} (h : t.feeder = s.feeder) :
    (mapEntries es t).2 = (mapEntries es s).2 := by
  have hresult : ∀ {u v : State} (e : TrayReq), v.feeder = u.feeder → trayResult v e = trayResult u e := fun e h => by
    rw [trayResult, trayResult, isBusy, isBusy, h]
  induction es generalizing s t with
  | nil => rfl
  | cons e es ih =>
    have hentry : (mapEntry e t).feeder = (mapEntry e s).feeder := by
      simp only [mapEntry, hresult e h]
      split
      · simp only [onFeeder_feeder, h]
      · exact h
    simp only [mapEntries, hresult e h, ih hentry]

/-- Settles O31: MAP TRAY's two tests, and its entries one at a time. -/
theorem mapTray : Obligations.MapTray := by
  refine ⟨fun es s hf => ⟨fun h => ?_, fun h1 h60 hp => ?_, fun h1 h60 hp => ?_⟩, rfl, fun _ => rfl, fun _ => rfl,
    fun e es s inRange busy hrange hbusy => ?_⟩
  · have hno : inNat 1 60 es.length = false := Bool.eq_false_iff.2 fun hin => h (inNat_iff.1 hin)
    exact exec_refused rfl hf (answer_refused (by simp [hno]))
  · have hin := inNat_iff.2 ⟨h1, h60⟩
    exact exec_refused rfl hf (answer_refused (by simp [hin, hp]))
  · have hin := inNat_iff.2 ⟨h1, h60⟩
    refine exec_replied rfl hf ((answer_accepted (by simp [hin, hp])).trans ?_)
    rw [mapEntries_of_feeder es (hunting_feeder s)]
  · rw [← isBusy_iff] at hbusy
    rw [hrange, hbusy]
    refine ⟨fun h => mapEntries_refused (trayResult_range h) nofun, fun h hb => mapEntries_refused (trayResult_busy h hb) nofun,
      fun p hp h hb hcat hne hat hfirst => ?_, fun t h hb hfree ht => ?_⟩
    · exact mapEntries_refused (trayResult_duplicate h hb (heldElsewhere_eq_some_iff.2 ⟨hcat, hp, hne, hat, hfirst⟩)) nofun
    · exact mapEntries_done (trayResult_eq_done_iff.2 ⟨h, hb, heldElsewhere_eq_none_iff.2 hfree⟩) ht

end Sys2Proof.Machine
end

section
/-! SUPPORT. The events of the feeder, of the tray and of the gate: the end of an event of the feeder alone, operations as they start, the
senses by the operation in flight (R67, R70 to R76, R113). -/

namespace Sys2Proof.Machine

/-! ## The end of an event of the feeder alone -/

/-- An event of the feeder alone runs no choice. -/
theorem eventEnd_of_feeder {s : State} (hd : NumbersDistinct s) (f : Feeder → Feeder) :
    eventEnd false s (s.onFeeder f) = standEnd s (s.onFeeder f) := by
  have : ¬(false || choiceTriggered s (s.onFeeder f)) = true := not_choiceTriggered hd rfl rfl rfl
  rw [eventEnd, if_neg this]

/-- An event of the feeder that leaves the tray-present state sends no STAND CHANGED (R110). -/
theorem eventEnd_of_same_tray {s : State} (hd : NumbersDistinct s) {f : Feeder → Feeder}
    (h : (f s.feeder).present = s.feeder.present) : eventEnd false s (s.onFeeder f) = s.onFeeder f := by
  rw [eventEnd_of_feeder hd, standEnd, if_pos ⟨rfl, rfl, h.symm⟩]

/-- An event of the feeder that changes the tray-present state ends with STAND CHANGED (R70, R110). -/
theorem eventEnd_of_other_tray {s : State} (hd : NumbersDistinct s) {f : Feeder → Feeder}
    (h : s.feeder.present ≠ (f s.feeder).present) :
    eventEnd false s (s.onFeeder f)
      = queueNotice (.standChanged s.stand.mode s.head.lamp (f s.feeder).present) (s.onFeeder f) := by
  rw [eventEnd_of_feeder hd, standEnd, if_neg fun hsame => h hsame.2.2]
  rfl

/-! ## Halt reports -/

theorem haltReport_leaves {s : State} (r : HaltReason) {stale : Bool} (h : stale = true ∨ ¬AtWork s) : haltReport r stale s = s := by
  unfold haltReport
  split
  · rfl
  · rename_i hlive
    have hno := h.resolve_left hlive
    split
    · rename_i hmode; exact absurd (.inl hmode) hno
    · rename_i hmode; exact absurd (.inr hmode) hno
    · rfl
    · rfl

/-! ## Operations as they start -/

theorem beginJob_eq (job : FeederJob) (ofCycle : Bool) (s : State) :
    beginJob job ofCycle s
      = { s with feeder :=
          { s.feeder with
            op := some
              { job := job, homing := decide (s.feeder.pos = none) && job.isFeed, limit := s.stand.settings.feedLimit,
                stale := false, ofCycle := ofCycle } } } := by
  have hnone : decide (s.feeder.pos = none) = s.feeder.pos.isNone := by cases s.feeder.pos <;> rfl
  rw [hnone]
  cases job <;> simp [beginJob, State.onFeeder, FeederJob.isFeed]

theorem askJob_of_busy {s : State} {job : FeederJob} {ofCycle : Bool} (h : s.feeder.op ≠ none ∨ s.feeder.waiting ≠ []) :
    askJob job ofCycle s
      = { s with feeder := { s.feeder with waiting := s.feeder.waiting ++ [{ job := job, ofCycle := ofCycle }] } } := by
  have hno : ¬feederIdle s = true := by rw [feederIdle_iff, not_and_or]; exact h
  rw [askJob, if_neg hno]
  rfl

theorem startJob_begins {s : State} {job : FeederJob} (ofCycle : Bool) (h : s.feeder.gate = .empty ∨ ∀ p x, job ≠ .feed p x) :
    startJob job ofCycle s = beginJob job ofCycle s := by
  cases job with
  | feed p x => exact if_pos (h.resolve_right fun hno => hno p x rfl)
  | home => rfl
  | ret p => rfl

theorem startWaitingJob_of_cons {s : State} {w : FeederWait} {ws : List FeederWait} (hop : s.feeder.op = none)
    (hw : s.feeder.waiting = w :: ws) :
    startWaitingJob s = startJob w.job w.ofCycle (s.onFeeder fun f => { f with waiting := ws }) := by
  simp only [startWaitingJob, hop, hw]

theorem startWaitingJob_of_none {s : State} (h : s.feeder.op.isSome = true ∨ s.feeder.waiting = []) : startWaitingJob s = s := by
  unfold startWaitingJob
  split
  · rename_i hop hw
    simp [hop, hw] at h
  · rfl

/-! ## The home sense and the timeout -/

theorem homeSenseEvent_of_none {s : State} (h : s.feeder.op = none) : homeSenseEvent s = s := by simp only [homeSenseEvent, h]

theorem homeSenseEvent_of_home {s : State} {o : FeederOp} (ho : s.feeder.op = some o) (hj : o.job = .home) :
    homeSenseEvent s = { s with feeder := { s.feeder with op := none, pos := some 0 } } := by
  obtain ⟨job, homing, limit, stale, ofCycle⟩ := o
  cases hj
  simp only [homeSenseEvent, ho, State.onFeeder]

theorem homeSenseEvent_of_other {s : State} {o : FeederOp} (ho : s.feeder.op = some o) (hj : o.job ≠ .home) :
    homeSenseEvent s
      = if o.homing then { s with feeder := { s.feeder with op := some { o with homing := false }, pos := some 0 } } else s := by
  unfold homeSenseEvent
  split
  · rename_i h
    rw [ho] at h
    cases h
    exact absurd rfl hj
  · rename_i h
    rw [ho] at h
    cases h
    rfl
  · rename_i h
    rw [ho] at h
    cases h

theorem exec_homeSense {c : Instr} {s : State} (hc : c ∈ [Instr.homeComplete, .feedHomeDone]) :
    exec c s = .next (homeSenseEvent s) := by
  rcases List.mem_pair.1 hc with rfl | rfl <;> rfl

/-- The feeder as a timeout leaves it (R76). -/
def Feeder.timedOut (f : Feeder) : Feeder :=
  { f with op := none, pos := none, feedBusy := [], gate := if f.gateSense then .foreign else .empty }

theorem feederFail_eq (stale : Bool) (s : State) :
    feederFail stale s = tryEndAborted (haltReport .feedTimeout stale (s.onFeeder Feeder.timedOut)) := rfl

theorem exec_feederTimeout {s : State} {o : FeederOp} (ho : s.feeder.op = some o) :
    exec .feederTimeout s
      = .next (eventEnd false s (tryEndAborted (haltReport .feedTimeout o.stale (s.onFeeder Feeder.timedOut)))) := by
  change Host.Outcome.next (eventEnd false s (feederTimeoutEvent s)) = _
  simp only [feederTimeoutEvent, ho, feederFail_eq]

/-- With no cycle in flight a timeout that halts the stand does no more (R76, R113). -/
theorem feederTimeout_halts {s : State} {o : FeederOp} (ho : s.feeder.op = some o) (hc : s.stand.cycle = none)
    (hlive : o.stale = false) (hw : AtWork s) :
    exec .feederTimeout s = .next (haltedWith .feedTimeout (s.onFeeder Feeder.timedOut)) := by
  have hcycle : (setStandMode (.halted .feedTimeout) (s.onFeeder Feeder.timedOut)).stand.cycle = none := hc
  rw [exec_feederTimeout ho, hlive, haltReport_of_none (s := s) (t := s.onFeeder Feeder.timedOut) _ hw hc rfl,
    tryEndAborted_of_none hcycle, eventEnd_halted hw]

/-- With no cycle in flight a timeout that halts nothing changes the feeder alone. -/
theorem feederTimeout_leaves {s : State} {o : FeederOp} (hd : NumbersDistinct s) (ho : s.feeder.op = some o)
    (hc : s.stand.cycle = none) (hno : o.stale = true ∨ ¬AtWork s) :
    exec .feederTimeout s = .next (s.onFeeder Feeder.timedOut) := by
  have hcycle : (s.onFeeder Feeder.timedOut).stand.cycle = none := hc
  rw [exec_feederTimeout ho, haltReport_leaves (s := s.onFeeder Feeder.timedOut) _ hno,
    tryEndAborted_of_none hcycle, eventEnd_of_same_tray hd rfl]

/-- Settles O45: each event of the feeder, with the halts it reports. -/
theorem feederEvents : Obligations.FeederEvents := by
  intro s hd
  refine ⟨fun w ws hop hw => ⟨fun h => ?_, fun hgate hfeed => ?_⟩, fun h => ?_, fun ofCycle => ⟨fun hop hw => ?_, askJob_of_busy⟩,
    fun c hc => ⟨fun h => ?_, fun o ho => ⟨fun hj => ?_, fun hj hhoming => ?_, fun hj hhoming => ?_⟩⟩, fun h => ?_,
    fun o t ho ht => ?_, fun stale t ht => by rw [ht, feederFail_eq]; rfl,
    fun reason stale => ⟨fun hlive hw => by rw [hlive, haltReport_atWork hw], haltReport_leaves reason⟩⟩
  · change Host.Outcome.next (eventEnd false s (startWaitingJob s)) = _
    rw [startWaitingJob_of_cons hop hw, startJob_begins (s := s.onFeeder fun f => { f with waiting := ws }) w.ofCycle h, beginJob_eq]
    have hend := eventEnd_of_same_tray hd (f := fun f =>
      { f with
        waiting := ws,
        op := some
          { job := w.job, homing := decide (s.feeder.pos = none) && w.job.isFeed, limit := s.stand.settings.feedLimit,
            stale := false, ofCycle := w.ofCycle } }) rfl
    refine (congrArg Host.Outcome.next hend).trans ?_
    cases w.job <;> rfl
  · obtain ⟨p, x, hfeed⟩ := hfeed
    change Host.Outcome.next (eventEnd false s (startWaitingJob s)) = _
    rw [startWaitingJob_of_cons hop hw, hfeed, startJob, onFeeder_feeder, if_neg hgate]
    rfl
  · change Host.Outcome.next (eventEnd false s (startWaitingJob s)) = _
    rw [startWaitingJob_of_none h, eventEnd_self hd]
  · rw [askJob, if_pos (feederIdle_iff.2 ⟨hop, hw⟩), startJob_begins (job := .home) ofCycle (.inr nofun), beginJob_eq]
    simp [FeederJob.isFeed]
  · rw [exec_homeSense hc, homeSenseEvent_of_none h]
  · rw [exec_homeSense hc, homeSenseEvent_of_home ho hj]
  · rw [exec_homeSense hc, homeSenseEvent_of_other ho hj, if_pos hhoming]
  · rw [exec_homeSense hc, homeSenseEvent_of_other ho hj, if_neg (by simp [hhoming])]
  · change Host.Outcome.next (eventEnd false s (feederTimeoutEvent s)) = _
    rw [feederTimeoutEvent, h]
    exact congrArg Host.Outcome.next (eventEnd_self hd)
  · subst ht
    exact ⟨exec_feederTimeout ho, fun hc hlive hw => feederTimeout_halts ho hc hlive hw,
      fun hc hno => feederTimeout_leaves hd ho hc hno⟩

/-! ## The gate senses -/

theorem gateLoadedEvent_of_other {s : State} (h : ∀ o p x, s.feeder.op = some o → o.job ≠ .feed p x) :
    gateLoadedEvent s = s.onFeeder fun f => { f with gateSense := true, gate := .foreign } := by
  unfold gateLoadedEvent
  split
  · rename_i ho
    exact absurd rfl (h _ _ _ ho)
  · rfl

theorem gateLoadedEvent_of_feed {s : State} {o : FeederOp} {p x : Nat} (ho : s.feeder.op = some o) (hj : o.job = .feed p x) :
    gateLoadedEvent s
      = if o.stale then
          s.onFeeder fun f =>
            { f with gateSense := true, op := none, pos := none, gate := .foreign, feedBusy := f.feedBusy.erase p }
        else
          tryEndAborted
            (tryPlan
              (s.onFeeder fun f =>
                { f with gateSense := true, op := none, pos := some p, gate := .holds p x, feedBusy := f.feedBusy.erase p })) := by
  obtain ⟨job, homing, limit, stale, ofCycle⟩ := o
  cases hj
  simp only [gateLoadedEvent, ho]

theorem gateClearedEvent_of_return {s : State} {o : FeederOp} {p : Nat} (ho : s.feeder.op = some o) (hj : o.job = .ret p) :
    gateClearedEvent s
      = tryEndAborted (tryEndNormal (s.onFeeder fun f => { f with gateSense := false, op := none, gate := .empty })) := by
  obtain ⟨job, homing, limit, stale, ofCycle⟩ := o
  cases hj
  simp only [gateClearedEvent, ho]

theorem gateClearedEvent_of_vacant {s : State} (h : ∀ o p, s.feeder.op = some o → o.job ≠ .ret p)
    (hg : ∀ p x, s.feeder.gate ≠ .holds p x) :
    gateClearedEvent s = s.onFeeder fun f => { f with gateSense := false, gate := .empty } := by
  unfold gateClearedEvent
  split
  · rename_i ho
    exact absurd rfl (h _ _ ho)
  · split
    · rename_i hgate
      exact absurd hgate (hg _ _)
    · rfl

theorem gateClearedEvent_of_holds {s : State} {p x : Nat} (h : ∀ o p, s.feeder.op = some o → o.job ≠ .ret p)
    (hg : s.feeder.gate = .holds p x) :
    gateClearedEvent s
      = if s.stand.cycle.isSome then
          tryEndAborted (haltReport .trayOut false
            (s.onFeeder fun f => { f with gateSense := false, gate := .empty, map := f.map.setIfInBounds p none }))
        else s.onFeeder fun f => { f with gateSense := false, gate := .empty, map := f.map.setIfInBounds p none } := by
  unfold gateClearedEvent
  split
  · rename_i ho
    exact absurd rfl (h _ _ ho)
  · rw [hg]

theorem exec_gateLoaded {c : Instr} {s : State} (hc : c ∈ [Instr.gateLoaded, .feedComplete]) :
    exec c s = .next (eventEnd false s (gateLoadedEvent s)) := by
  rcases List.mem_pair.1 hc with rfl | rfl <;> rfl

theorem exec_gateCleared {c : Instr} {s : State} (hc : c ∈ [Instr.gateCleared, .returnComplete]) :
    exec c s = .next (eventEnd false s (gateClearedEvent s)) := by
  rcases List.mem_pair.1 hc with rfl | rfl <;> rfl

/-! ## The tray senses -/

theorem feederOfCycle_iff {s : State} :
    feederOfCycle s = true ↔ (∃ o ∈ s.feeder.op, o.ofCycle = true) ∨ ∃ w ∈ s.feeder.waiting, w.ofCycle = true := by
  unfold feederOfCycle
  cases s.feeder.op <;> simp

theorem cycleOnTray_iff {s : State} :
    cycleOnTray s = true ↔ s.stand.cycle.isSome = true
      ∧ ((∃ o, s.feeder.op = some o ∧ o.ofCycle = true) ∨ (∃ w ∈ s.feeder.waiting, w.ofCycle = true)
        ∨ ∃ p x, s.feeder.gate = .holds p x) := by
  unfold cycleOnTray
  rw [Bool.and_eq_true, Bool.or_eq_true, feederOfCycle_iff, or_assoc]
  cases s.feeder.gate <;> simp

/-- A TRAY IN that the sense already shows changes nothing. -/
theorem trayInEvent_of_present {s : State} (h : s.feeder.present = true) : trayInEvent s = s := by
  rw [trayInEvent, ← h]
  rfl

/-- Settles O46: each sense of the tray and the gate, by the operation in flight and the gate record. -/
theorem trayAndGateEvents : Obligations.TrayAndGateEvents := by
  intro s hd
  refine ⟨fun t onTray ht hon => ?_, fun h => ?_, fun h => ?_, fun c hc => ?_, fun c hc => ?_⟩
  · rw [← cycleOnTray_iff] at hon
    have hexec : exec .trayOut s
        = .next (eventEnd false s (if cycleOnTray s then tryEndAborted (haltReport .trayOut false t) else t)) := by rw [ht]; rfl
    rw [hexec, hon]
    refine ⟨fun h => by rw [if_pos h], fun h hp => ?_, fun h hp => ?_⟩ <;> rw [if_neg h, ht]
    · exact congrArg Host.Outcome.next (eventEnd_of_other_tray hd (f := fun f =>
        { f with present := false, map := Vector.replicate 80 none, pos := none }) (by rw [hp]; nofun))
    · exact congrArg Host.Outcome.next (eventEnd_of_same_tray hd (f := fun f =>
        { f with present := false, map := Vector.replicate 80 none, pos := none }) hp.symm)
  · change Host.Outcome.next (eventEnd false s (trayInEvent s)) = _
    rw [trayInEvent_of_present h, eventEnd_self hd]
  · exact congrArg Host.Outcome.next (eventEnd_of_other_tray hd (f := fun f => { f with present := true }) (by rw [h]; nofun))
  · rw [exec_gateLoaded hc]
    refine ⟨fun h => ?_, fun o p x ho hj => ⟨fun hstale => ?_, fun hlive => ?_⟩⟩
    · rw [gateLoadedEvent_of_other h]
      exact congrArg Host.Outcome.next (eventEnd_of_same_tray hd rfl)
    · rw [gateLoadedEvent_of_feed ho hj, if_pos hstale]
      exact congrArg Host.Outcome.next (eventEnd_of_same_tray hd rfl)
    · rw [gateLoadedEvent_of_feed ho hj, if_neg (by simp [hlive])]
      rfl
  · rw [exec_gateCleared hc]
    refine ⟨fun o p ho hj => ?_, fun h => ⟨fun hg => ?_, fun p x t hg ht => ⟨fun hc => ?_, fun hc => ?_⟩⟩⟩
    · rw [gateClearedEvent_of_return ho hj]
      rfl
    · rw [gateClearedEvent_of_vacant h hg]
      exact congrArg Host.Outcome.next (eventEnd_of_same_tray hd rfl)
    · rw [gateClearedEvent_of_holds h hg, if_neg (by simp [hc]), ht]
      exact congrArg Host.Outcome.next (eventEnd_of_same_tray hd rfl)
    · rw [gateClearedEvent_of_holds h hg, if_pos hc, ht]
      rfl

end Sys2Proof.Machine
end

section
/-! SUPPORT. The abort of a cycle: the operations it withdraws, the SPOILT frame, the group discarded and credited, and how an aborted
cycle ends (R70, R98, R123 to R126, R172). -/

namespace Sys2Proof.Machine

/-! ## The backs through an abort -/

/-- A back with the operations of the cycle withdrawn (R124, step 1). -/
def Back.disowned (k : Back) : Back :=
  { k with waiting := k.waiting.filter (fun w => !w.ofCycle), advance := k.advance.map (fun a => { a with ofCycle := false }) }

/-- A back with a frame written and its spent-frame advance started or, with an ADVANCE in flight, owed (R90, R98). -/
def Back.spent (limit : Nat) (frame : Roll → Frame) (k : Back) : Back :=
  { k with roll := k.roll.map (fun r => r.addFrame (frame r)), gateFrame := .spent, owed := k.owed || k.advance.isSome,
           advance := some (k.advance.getD { cause := .spent, limit := limit, ofCycle := false }) }

/-- The back of a cycle after an abort has closed its shutter: with an EXPOSE in flight a SPOILT frame is written (R124, step 2). -/
def Cycle.spoiltBack (c : Cycle) (s : State) (k : Back) : Back :=
  match c.step? with
  | none => k
  | some p => if s.stand.expose.isSome then k.spent s.stand.settings.advanceLimit (stepFrame c p .spoilt none none) else k

/-- The state of an abort with its cause recorded and the operations of the cycle withdrawn. -/
def aborting (cause : AbortCause) (s : State) : State :=
  releaseOps (onCycle (fun c => { c with cause := some cause, phase := .ending }) s)

/-- That state with the shutter closed. -/
def withdrawn (cause : AbortCause) (s : State) : State := (aborting cause s).onStand fun t => { t with expose := none }

theorem settled_eq (c : Cycle) (cause : AbortCause) (s : State) :
    settled c cause s = settleGroup c (spoilFrame c (aborting cause s)) := rfl

theorem withdrawn_back (cause : AbortCause) (s : State) (b : BackId) : (withdrawn cause s).back b = (s.back b).disowned := by
  cases b <;> rfl

theorem aborting_roll (cause : AbortCause) (s : State) (b : BackId) : ((aborting cause s).back b).roll = (s.back b).roll := by
  cases b <;> rfl

@[simp] theorem onBack_tally (b : BackId) (f : Back → Back) (s : State) : (s.onBack b f).tally = s.tally := rfl

theorem releaseOps_tally (s : State) : (releaseOps s).tally = s.tally := by
  simp only [releaseOps, onBack_tally, onFilm_tally, onHead_tally, onFeeder_tally]

theorem aborting_tally (cause : AbortCause) (s : State) : (aborting cause s).tally = s.tally := releaseOps_tally _

theorem onBack_congr {b : BackId} {f g : Back → Back} {s : State} (h : f (s.back b) = g (s.back b)) :
    s.onBack b f = s.onBack b g := by
  cases b
  · exact congrArg (fun k => { s with film := { s.film with backA := k } }) h
  · exact congrArg (fun k => { s with film := { s.film with backB := k } }) h

theorem onBack_self {b : BackId} {f : Back → Back} {s : State} (h : f (s.back b) = s.back b) : s.onBack b f = s := by
  have hid : s.onBack b id = s := by cases b <;> rfl
  exact (onBack_congr h).trans hid

theorem onBack_onBack (b : BackId) (f g : Back → Back) (s : State) : (s.onBack b f).onBack b g = s.onBack b fun k => g (f k) := by
  cases b <;> rfl

theorem spentAdvance_writeFrame (b : BackId) (frame : Roll → Frame) (s : State) :
    spentAdvance b (writeFrame b frame s) = s.onBack b (Back.spent s.stand.settings.advanceLimit frame) := by
  have hadvance : ((writeFrame b frame s).back b).advance = (s.back b).advance := by rw [writeFrame, onBack_same]
  have hlimit : (writeFrame b frame s).stand = s.stand := rfl
  rw [spentAdvance, hadvance, startAdvance, hlimit]
  cases ha : (s.back b).advance with
  | none =>
    rw [if_pos Option.isNone_none, writeFrame, onBack_onBack]
    refine onBack_congr ?_
    simp [Back.spent, ha]
  | some a =>
    rw [if_neg nofun, writeFrame, onBack_onBack]
    refine onBack_congr ?_
    simp [Back.spent, ha]

/-- An abort's SPOILT frame changes the back of the cycle and closes the shutter, nothing else. -/
theorem spoilFrame_eq (c : Cycle) (s : State) :
    spoilFrame c s = (s.onStand fun t => { t with expose := none }).onBack c.back (c.spoiltBack s) := by
  unfold spoilFrame Cycle.spoiltBack
  cases hex : s.stand.expose with
  | none =>
    have hsame : (s.onStand fun t => { t with expose := none }) = s := by
      change { s with stand := { s.stand with expose := none } } = s
      rw [← hex]
    rw [hsame, if_neg nofun, onBack_self (by cases c.step? <;> rfl)]
  | some e =>
    rw [if_pos Option.isSome_some]
    cases c.step? with
    | none => exact (onBack_self rfl).symm
    | some p => exact spentAdvance_writeFrame _ _ _

theorem spoilFrame_tally (c : Cycle) (s : State) : (spoilFrame c s).tally = s.tally := by
  rw [spoilFrame_eq, onBack_tally, onStand_tally]

/-! ## The group settled -/

/-- A roll with the group of a first frame discarded, INCOMPLETE and credited (R125). -/
def Roll.abandoned (first : Nat) (r : Roll) : Roll :=
  ((r.discardGroup first .discarded).onGroup first fun g => { g with completeness := .incomplete }).onFramesOf first Frame.markCredited

/-- A roll whose frames keep all but their selection and their credited mark. -/
def Roll.SameFrames (r q : Roll) : Prop :=
  q.next = r.next ∧ ∃ g : Frame → Frame, q.frames = r.frames.map g
    ∧ ∀ x, ∃ sel cr, g x = { x with selection := sel, credited := cr }

theorem Roll.SameFrames.refl (r : Roll) : r.SameFrames r :=
  ⟨rfl, fun x => x, (List.map_id' _).symm, fun x => ⟨x.selection, x.credited, rfl⟩⟩

theorem abandoned_sameFrames (first : Nat) (r : Roll) : r.SameFrames (r.abandoned first) := by
  refine ⟨rfl, _, List.map_map, fun x => ?_⟩
  have hmark : ∀ y : Frame, ∃ cr, y.markCredited = { y with credited := cr } := fun y => by
    unfold Frame.markCredited
    split
    · exact ⟨_, rfl⟩
    · exact ⟨_, rfl⟩
  simp only [Function.comp_apply]
  by_cases h : x.group = first
  · obtain ⟨cr, hcr⟩ := hmark { x with selection := .discarded }
    exact ⟨.discarded, cr, by subst h; simpa using hcr⟩
  · exact ⟨x.selection, x.credited, by simp [h]⟩

/-- Every group of the first frame is DISCARDED and INCOMPLETE, its frames DISCARDED and its exposures credited. -/
theorem abandoned_group {first : Nat} {r : Roll} :
    (∀ h ∈ (r.abandoned first).groups, h.first = first → h.outcome = .discarded ∧ h.completeness = .incomplete)
      ∧ ∀ f ∈ (r.abandoned first).frames, f.group = first → f.selection = .discarded ∧ (f.kind = .exposure → f.credited = true) := by
  refine ⟨fun h hh hfirst => ?_, fun f hf => credited_frames (r := r) (outcome := .discarded) hf⟩
  obtain ⟨q, hq, rfl⟩ := List.mem_map.1 hh
  rw [discardGroup_groups] at hq
  obtain ⟨p, -, rfl⟩ := List.mem_map.1 hq
  by_cases hp : p.first = first
  · simp [hp]
  · simp [hp] at hfirst

/-- With no group short of its frames nothing is settled. -/
theorem settleGroup_of_full {c : Cycle} {s : State} (h : ∀ g, cycleGroup s c = some g → ¬g.exposed < g.n) : settleGroup c s = s := by
  unfold settleGroup
  split
  · rfl
  · rename_i g hg
    rw [if_neg (h g hg)]

theorem settleGroup_of_short {c : Cycle} {s : State} {g : Group} (hg : cycleGroup s c = some g) (hshort : g.exposed < g.n) :
    settleGroup c s = creditFrames c.stock (cycleFrames s c) (s.onBackRoll c.back (Roll.abandoned g.first)) := by
  simp only [settleGroup, hg, if_pos hshort]
  rfl

/-- The settling of a group changes the marks of its frames on the roll of the cycle's back, and makes postings. -/
theorem settleGroup_form (c : Cycle) (s : State) :
    ∃ f : Roll → Roll, (∀ r : Roll, r.SameFrames (f r)) ∧ SameButTally (s.onBackRoll c.back f) (settleGroup c s) := by
  by_cases h : ∀ g, cycleGroup s c = some g → ¬g.exposed < g.n
  · refine ⟨id, Roll.SameFrames.refl, ?_⟩
    rw [settleGroup_of_full h, State.onBackRoll, onBack_self (by simp)]
    exact .refl s
  · push Not at h
    obtain ⟨g, hg, hshort⟩ := h
    refine ⟨Roll.abandoned g.first, abandoned_sameFrames g.first, ?_⟩
    rw [settleGroup_of_short hg hshort]
    exact sameButTally_creditFrames _ _ _

theorem SameButTally.back {s t : State} (h : SameButTally s t) (b : BackId) : t.back b = s.back b := by
  rw [h]
  cases b <;> rfl

/-! ## The credits of an abort -/

theorem queueNotices_tally (ns : List Notice) (s : State) : (queueNotices ns s).tally = s.tally := by
  rw [sameBut_queueNotices ns s]

theorem post_tally (kind : PostKind) (account : Nat) (stock : Option Nat) (amount : Int) (s : State) :
    (post kind account stock amount s).tally
      = { s.tally with counters := mapVec (postCounter kind account stock amount) s.tally.counters } := by
  unfold post
  simp only
  split
  · rw [releaseCeiling, sameBut_releaseWhere]
    exact queueNotices_tally _ _
  · exact queueNotices_tally _ _

/-- What credits make of the counters depends on the tally unit alone. -/
theorem creditFrames_tally (stock : Nat) (fs : List Frame) {s t : State} (h : t.tally = s.tally) :
    (creditFrames stock fs t).tally = (creditFrames stock fs s).tally := by
  induction fs generalizing s t with
  | nil => exact h
  | cons f fs ih =>
    unfold creditFrames
    split
    · exact ih (by rw [post_tally, post_tally, h])
    · exact ih h

/-- A SPOILT frame at the end of the list is not credited. -/
theorem creditFrames_append_spoilt (stock : Nat) (fs : List Frame) {f : Frame} (hf : f.kind = .spoilt) (s : State) :
    creditFrames stock (fs ++ [f]) s = creditFrames stock fs s := by
  induction fs generalizing s with
  | nil => simp [creditFrames, hf]
  | cons x xs ih =>
    rw [List.cons_append, creditFrames, creditFrames]
    split
    · exact ih _
    · exact ih _

/-! ## The cycle's group through the SPOILT frame -/

theorem cycleGroup_congr {s t : State} {c : Cycle} (h : (t.back c.back).roll = (s.back c.back).roll) :
    cycleGroup t c = cycleGroup s c := by simp only [cycleGroup, h]

theorem cycleFrames_congr {s t : State} {c : Cycle} (h : (t.back c.back).roll = (s.back c.back).roll) :
    cycleFrames t c = cycleFrames s c := by simp only [cycleFrames, h]

/-- The roll of the cycle's back gains at most a SPOILT frame of the cycle's step. -/
theorem spoilFrame_roll (c : Cycle) (s : State) :
    ((spoilFrame c s).back c.back).roll = (s.back c.back).roll
      ∨ ∃ p r, (s.back c.back).roll = some r
          ∧ ((spoilFrame c s).back c.back).roll = some (r.addFrame (stepFrame c p .spoilt none none r)) := by
  rw [spoilFrame_eq, onBack_same]
  change ((c.spoiltBack s (s.back c.back)).roll = _) ∨ ∃ p r, _ ∧ (c.spoiltBack s (s.back c.back)).roll = _
  unfold Cycle.spoiltBack
  split
  · exact .inl rfl
  · rename_i p _
    split
    · cases hr : (s.back c.back).roll with
      | none => exact .inl (by rw [Back.spent, hr]; rfl)
      | some r => exact .inr ⟨p, r, rfl, by rw [Back.spent, hr]; rfl⟩
    · exact .inl rfl

theorem cycleGroup_spoilFrame (c : Cycle) (s : State) : cycleGroup (spoilFrame c s) c = cycleGroup s c := by
  obtain h | ⟨p, r, hr, h⟩ := spoilFrame_roll c s
  · exact cycleGroup_congr h
  · rw [cycleGroup_of_roll hr, cycleGroup_of_roll h]
    rfl

theorem creditFrames_spoilFrame {c : Cycle} {s : State} {g : Group} (hg : cycleGroup s c = some g) (stock : Nat) (t : State) :
    creditFrames stock (cycleFrames (spoilFrame c s) c) t = creditFrames stock (cycleFrames s c) t := by
  obtain h | ⟨p, r, hr, h⟩ := spoilFrame_roll c s
  · rw [cycleFrames_congr h]
  · rw [cycleGroup_of_roll hr] at hg
    obtain ⟨first, hfirst, -⟩ := Option.bind_eq_some_iff.1 hg
    have hframes : cycleFrames (spoilFrame c s) c = cycleFrames s c ++ [stepFrame c p .spoilt none none r] := by
      rw [cycleFrames_of_roll hr, cycleFrames_of_roll h, hfirst]
      simp [Roll.framesOf, Roll.addFrame, stepFrame, hfirst]
    rw [hframes, creditFrames_append_spoilt _ _ rfl]

/-! ## What the abort leaves -/

/-- The settled state: the operations withdrawn, the back of the cycle with its SPOILT frame and its group settled, and postings. -/
theorem settled_form (c : Cycle) (cause : AbortCause) (s : State) :
    ∃ f : Roll → Roll, (∀ r : Roll, r.SameFrames (f r))
      ∧ SameButTally (((withdrawn cause s).onBack c.back (c.spoiltBack s)).onBackRoll c.back f) (settled c cause s) := by
  rw [settled_eq, spoilFrame_eq]
  exact settleGroup_form c _

/-- Every block but the rolls, the tally and the work list, after the abort's settling. -/
theorem settled_blocks (c : Cycle) (cause : AbortCause) (s : State) :
    (settled c cause s).stand = (withdrawn cause s).stand ∧ (settled c cause s).feeder = (withdrawn cause s).feeder
      ∧ (settled c cause s).head = (withdrawn cause s).head
      ∧ (settled c cause s).film.swapWaiting = (withdrawn cause s).film.swapWaiting
      ∧ (settled c cause s).film.swap = (withdrawn cause s).film.swap := by
  obtain ⟨f, -, h⟩ := settled_form c cause s
  rw [h]
  cases hb : c.back <;> exact ⟨rfl, rfl, rfl, rfl, rfl⟩

/-- The backs after the abort's settling: the cycle's own with its SPOILT frame and its group settled. -/
theorem settled_backs (c : Cycle) (cause : AbortCause) (s : State) :
    (∃ f : Roll → Roll, (∀ r : Roll, r.SameFrames (f r))
        ∧ (settled c cause s).back c.back
          = { c.spoiltBack s (s.back c.back).disowned with roll := (c.spoiltBack s (s.back c.back).disowned).roll.map f })
      ∧ ∀ b, b ≠ c.back → (settled c cause s).back b = (s.back b).disowned := by
  obtain ⟨f, hf, h⟩ := settled_form c cause s
  refine ⟨⟨f, hf, ?_⟩, fun b hb => ?_⟩
  · rw [h.back, State.onBackRoll, onBack_same, onBack_same, withdrawn_back]
  · rw [h.back, State.onBackRoll, onBack_other _ _ _ _ hb, onBack_other _ _ _ _ hb, withdrawn_back]

/-- The stand's state given by an abort changes its mode and the idle timer alone. -/
theorem setModeIf_leaves (mode : Option StandMode) (s : State) :
    (setModeIf mode s).stand = { s.stand with mode := mode.getD s.stand.mode }
      ∧ (∃ idle, (setModeIf mode s).head = { s.head with idle := idle }) ∧ (setModeIf mode s).feeder = s.feeder
      ∧ (setModeIf mode s).film = s.film ∧ (∀ b, (setModeIf mode s).back b = s.back b) ∧ (setModeIf mode s).tally = s.tally := by
  cases mode with
  | none => exact ⟨rfl, ⟨_, rfl⟩, rfl, rfl, fun _ => rfl, rfl⟩
  | some m =>
    simp only [setModeIf, setStandMode]
    split
    · exact ⟨rfl, ⟨_, rfl⟩, rfl, rfl, fun b => by cases b <;> rfl, rfl⟩
    · exact ⟨rfl, ⟨_, rfl⟩, rfl, rfl, fun b => by cases b <;> rfl, rfl⟩

/-! ## The operations, the SPOILT frame and the group, each after the abort -/

theorem spoiltBack_of_closed {c : Cycle} {s : State} (h : s.stand.expose = none) (k : Back) : c.spoiltBack s k = k := by
  unfold Cycle.spoiltBack
  split
  · rfl
  · rw [h]; rfl

theorem spoiltBack_of_open {c : Cycle} {s : State} {p : PlanStep} (h : s.stand.expose.isSome = true) (hp : c.step? = some p)
    (k : Back) : c.spoiltBack s k = k.spent s.stand.settings.advanceLimit (stepFrame c p .spoilt none none) := by
  simp only [Cycle.spoiltBack, hp, if_pos h]

theorem disowned_advance (k : Back) : ∀ a ∈ k.disowned.advance, a.ofCycle = false := Option.forall_mem_map.2 fun _ _ => rfl

theorem spoiltBack_operations (c : Cycle) (s : State) (k : Back) :
    (c.spoiltBack s k).waiting = k.waiting
      ∧ ((∀ a ∈ k.advance, a.ofCycle = false) → ∀ a ∈ (c.spoiltBack s k).advance, a.ofCycle = false) := by
  unfold Cycle.spoiltBack
  split
  · exact ⟨rfl, id⟩
  · split
    · refine ⟨rfl, fun h a ha => ?_⟩
      cases Option.some.inj ha
      cases hk : k.advance with
      | none => rfl
      | some x => exact h x hk
    · exact ⟨rfl, id⟩

/-- The ADVANCEs of either back after the abort: those waiting of the cycle withdrawn, the one in flight of no cycle. -/
theorem settled_advances (c : Cycle) (cause : AbortCause) (s : State) (b : BackId) :
    ((settled c cause s).back b).waiting = (s.back b).waiting.filter (fun w => !w.ofCycle)
      ∧ ∀ a ∈ ((settled c cause s).back b).advance, a.ofCycle = false := by
  obtain ⟨⟨f, -, hown⟩, hother⟩ := settled_backs c cause s
  by_cases hb : b = c.back
  · obtain ⟨hwaiting, hadvance⟩ := spoiltBack_operations c s (s.back c.back).disowned
    rw [hb, hown]
    exact ⟨hwaiting, hadvance (disowned_advance _)⟩
  · rw [hother b hb]
    exact ⟨rfl, disowned_advance _⟩

theorem settled_owed {c : Cycle} {cause : AbortCause} {s : State} (h : s.stand.expose = none) :
    ((settled c cause s).back c.back).owed = (s.back c.back).owed := by
  obtain ⟨⟨f, -, hown⟩, -⟩ := settled_backs c cause s
  rw [hown, spoiltBack_of_closed h]
  rfl

/-- An exposure in flight leaves a SPOILT frame, the last of its roll, and its spent-frame advance started or owed (R90, R98). -/
theorem settled_spoilt {c : Cycle} {s : State} {p : PlanStep} {r : Roll} (cause : AbortCause) (hex : s.stand.expose.isSome = true)
    (hp : c.step? = some p) (hr : (s.back c.back).roll = some r) :
    ∃ q f sel cr, ((settled c cause s).back c.back).roll = some q ∧ q.next = r.next + 1 ∧ q.frames.getLast? = some f
      ∧ f = { stepFrame c p .spoilt none none r with selection := sel, credited := cr }
      ∧ ((settled c cause s).back c.back).gateFrame = .spent
      ∧ ((s.back c.back).advance = none →
          ((settled c cause s).back c.back).advance
            = some { cause := .spent, limit := s.stand.settings.advanceLimit, ofCycle := false })
      ∧ ((s.back c.back).advance.isSome = true → ((settled c cause s).back c.back).owed = true) := by
  obtain ⟨⟨f, hf, hown⟩, -⟩ := settled_backs c cause s
  rw [spoiltBack_of_open hex hp] at hown
  obtain ⟨hnext, g, hframes, hg⟩ := hf (r.addFrame (stepFrame c p .spoilt none none r))
  obtain ⟨sel, cr, hlast⟩ := hg (stepFrame c p .spoilt none none r)
  rw [hown]
  refine ⟨_, _, sel, cr, ?_, hnext, ?_, hlast, rfl, fun hadv => ?_, fun hadv => ?_⟩
  · change (((s.back c.back).roll.map _).map f) = _
    rw [hr]
    rfl
  · rw [hframes, Roll.addFrame, List.map_append, List.map_singleton, List.getLast?_concat]
  · change some (((s.back c.back).advance.map _).getD _) = _
    rw [hadv]
    rfl
  · change ((s.back c.back).owed || ((s.back c.back).advance.map _).isSome) = true
    rw [Option.isSome_map, hadv, Bool.or_true]

theorem aborting_group (c : Cycle) (cause : AbortCause) (s : State) : cycleGroup (aborting cause s) c = cycleGroup s c :=
  cycleGroup_congr (aborting_roll cause s c.back)

/-- A group short of its frames is DISCARDED, INCOMPLETE and credited (R125, R172). -/
theorem settled_short {c : Cycle} {s : State} {g : Group} (cause : AbortCause) (hg : cycleGroup s c = some g)
    (hshort : g.exposed < g.n) :
    (∀ q, ((settled c cause s).back c.back).roll = some q → ∃ r : Roll, q = r.abandoned g.first)
      ∧ (settled c cause s).tally.counters = (creditFrames c.stock (cycleFrames s c) s).tally.counters := by
  have hgroup : cycleGroup (aborting cause s) c = some g := (aborting_group c cause s).trans hg
  have htally : (spoilFrame c (aborting cause s)).tally = s.tally := (spoilFrame_tally c _).trans (aborting_tally cause s)
  rw [settled_eq, settleGroup_of_short ((cycleGroup_spoilFrame c _).trans hgroup) hshort, creditFrames_spoilFrame hgroup,
    cycleFrames_congr (aborting_roll cause s c.back)]
  refine ⟨fun q hq => ?_, congrArg Tally.counters (creditFrames_tally _ _ htally)⟩
  rw [(sameButTally_creditFrames _ _ _).back, State.onBackRoll, onBack_same] at hq
  obtain ⟨r, -, hr⟩ := Option.map_eq_some_iff.1 hq
  exact ⟨r, hr.symm⟩

/-- With no exposure in flight and no group short of its frames the roll and the tally are as they were. -/
theorem settled_untouched {c : Cycle} {s : State} (cause : AbortCause) (hfull : ∀ g, cycleGroup s c = some g → ¬g.exposed < g.n)
    (hex : s.stand.expose = none) :
    ((settled c cause s).back c.back).roll = (s.back c.back).roll ∧ (settled c cause s).tally = s.tally := by
  have hclosed : (aborting cause s).stand.expose = none := hex
  rw [settled_eq, settleGroup_of_full (by rw [cycleGroup_spoilFrame, aborting_group]; exact hfull)]
  refine ⟨?_, (spoilFrame_tally c _).trans (aborting_tally cause s)⟩
  rw [spoilFrame_eq, onBack_same, spoiltBack_of_closed hclosed]
  exact aborting_roll cause s c.back

/-! ## The end of an aborted cycle -/

/-- An aborted cycle not ended by a reset waits on its FEED or RETURN, has its original returned, or ends (R70, R126). -/
theorem tryEndAborted_of_cause {s : State} {c : Cycle} {x : AbortCause} (hc : s.stand.cycle = some c) (hx : c.cause = some x)
    (hreset : x ≠ .reset) :
    tryEndAborted s
      = if feederOfCycle s then s
        else if x.mayReturn && gateHolds s c && feederUsable s then askReturn (returnPos s c) s
        else endCycle s := by
  simp only [tryEndAborted, hc, hx]

theorem tryEndAborted_of_live {s : State} {c : Cycle} (hc : s.stand.cycle = some c) (hx : c.cause = none) : tryEndAborted s = s := by
  simp only [tryEndAborted, hc, hx]

theorem tryEndAborted_of_reset {s : State} {c : Cycle} (hc : s.stand.cycle = some c) (hx : c.cause = some .reset) :
    tryEndAborted s = endCycle s := by
  simp only [tryEndAborted, hc, hx]

theorem returnPos_of_holds {s : State} {c : Cycle} (h : s.feeder.gate = .holds c.pos c.cat) : returnPos s c = c.pos := by
  simp only [returnPos, h]

/-- When the ending of an aborted cycle asks for a RETURN (R70, R126). -/
theorem asksReturn_iff {s : State} {c : Cycle} {x : AbortCause} :
    (x.mayReturn && gateHolds s c && feederUsable s) = true ↔
      x ≠ .halt .trayOut ∧ s.feeder.gate = .holds c.pos c.cat ∧ s.feeder.pos.isSome = true ∧ s.feeder.present = true := by
  rw [Bool.and_eq_true, Bool.and_eq_true, gateHolds_iff, feederUsable, Bool.and_eq_true, AbortCause.mayReturn, decide_eq_true_iff,
    and_assoc]

theorem askReturn_of_idle {s : State} (pos : Nat) (hop : s.feeder.op = none) (hw : s.feeder.waiting = []) :
    askReturn pos s = beginJob (.ret pos) true s := if_pos (feederIdle_iff.2 ⟨hop, hw⟩)

theorem askReturn_of_busy {s : State} (pos : Nat) (h : s.feeder.op ≠ none ∨ s.feeder.waiting ≠ []) :
    askReturn pos s = waitJob (.ret pos) true s := if_neg (by rw [feederIdle_iff, not_and_or]; exact h)

theorem abortCycle_of_aborted {s : State} {c : Cycle} {x : AbortCause} (cause : AbortCause) (mode : Option StandMode)
    (hc : s.stand.cycle = some c) (hx : c.cause = some x) : abortCycle cause mode s = setModeIf mode s := by
  simp [abortCycle, hc, hx]

/-- Settles O38: the settling of an abort part by part, and the ending that follows it. -/
theorem abortSettlesTheCycle : Obligations.AbortSettlesTheCycle := by
  refine ⟨fun s t c cause mode hc hcause ht => ?_, fun s c x cause mode hc hx => ⟨⟨?_, ?_⟩, fun hreset => ?_, fun moving hmoving => ?_⟩,
    fun s cause mode => ⟨rfl, tryEndAborted_of_none, fun c => tryEndAborted_of_live⟩,
    fun s pos => ⟨askReturn_of_idle pos, askReturn_of_busy pos⟩⟩
  · rw [abortCycle_eq hc hcause] at ht
    obtain ⟨hstand, ⟨idle, hhead⟩, hfeeder, hfilm, hback, htally⟩ := setModeIf_leaves mode (settled c cause s)
    obtain ⟨kstand, kfeeder, khead, kwaiting, kswap⟩ := settled_blocks c cause s
    simp only [← ht, hback]
    rw [hstand, hhead, hfeeder, hfilm, htally, kstand, kfeeder, khead, kwaiting, kswap]
    refine ⟨congrArg (Option.map _) hc, rfl, rfl, rfl, rfl, rfl, Option.forall_mem_map.2 fun _ _ => rfl,
      Option.forall_mem_map.2 fun _ _ => rfl, rfl, Option.forall_mem_map.2 fun _ _ => rfl, settled_advances c cause s, settled_owed,
      fun p r hex hp hr => ?_, fun g hg hshort => ?_, settled_untouched cause⟩
    · obtain ⟨q, f, sel, cr, hq, hnext, hlast, hframe, hspent, hstarts, howed⟩ := settled_spoilt cause hex hp hr
      subst hframe
      exact ⟨by rw [hq]; exact congrArg some hnext, hspent,
        ⟨q, _, hq, hlast, rfl, rfl, rfl, rfl, rfl, rfl, rfl, rfl, rfl, rfl, rfl, rfl⟩, hstarts, howed⟩
    · obtain ⟨hroll, hcounters⟩ := settled_short cause hg hshort
      refine ⟨fun q hq => ?_, hcounters⟩
      obtain ⟨r, rfl⟩ := hroll q hq
      exact abandoned_group
  · exact abortCycle_of_aborted cause none hc hx
  · rw [abortCycle_of_aborted cause _ hc hx, (setModeIf_leaves _ s).1]
    exact hc
  · exact tryEndAborted_of_reset hc (hx.trans (congrArg some hreset))
  · have hmoving : moving ↔ feederOfCycle s = true := hmoving.trans feederOfCycle_iff.symm
    rw [hmoving]
    refine ⟨fun hreset h => ?_, fun hreset htray h hgate hpos hpresent => ?_, fun hreset h hno => ?_⟩ <;>
      rw [tryEndAborted_of_cause hc hx hreset]
    · rw [if_pos h]
    · rw [if_neg h, if_pos (asksReturn_iff.2 ⟨htray, hgate, hpos, hpresent⟩), returnPos_of_holds hgate]
    · have hstays : ¬(x.mayReturn && gateHolds s c && feederUsable s) = true := fun hret => by
        obtain ⟨htray, hgate, hpos, hpresent⟩ := asksReturn_iff.1 hret
        rcases hno with h | h | h | h
        · exact htray h
        · exact h hgate
        · rw [h] at hpos; cases hpos
        · rw [h] at hpresent; cases hpresent
      rw [if_neg h, if_neg hstays]

end Sys2Proof.Machine
end

section
/-! SUPPORT. The places of roll records, and the soundness of the roll records under every change: no roll id in two places, a frame log
that rises below the next frame number, a roll in every back but an EMPTY one (R84, R86, R90, R129). -/

namespace Sys2Proof.Machine

/-! ## The places of roll records -/

/-- Where a roll record is held: in a back or in a register slot (R86, R129). -/
inductive RollPlace where
  | back (b : BackId)
  | slot (k : Nat)
deriving DecidableEq

/-- The roll record of a place. -/
def State.rollAt (s : State) : RollPlace → Option Roll
  | .back b => (s.back b).roll
  | .slot k => s.slotRoll? k

/-- Every place there is. -/
def RollPlace.all : List RollPlace := .back .backA :: .back .backB :: (List.range 8).map .slot

theorem RollPlace.all_nodup : RollPlace.all.Nodup := by decide

theorem mem_all_of_rollAt {s : State} {x : RollPlace} {r : Roll} (h : s.rollAt x = some r) : x ∈ RollPlace.all := by
  cases x with
  | back b => cases b <;> decide
  | slot k => simpa [RollPlace.all] using lt_of_slotRoll? h

theorem allRolls_eq (s : State) : s.allRolls = RollPlace.all.filterMap s.rollAt := by
  have hcons : ∀ x l, (x :: l).filterMap s.rollAt = (s.rollAt x).toList ++ l.filterMap s.rollAt := fun x l => by
    cases h : s.rollAt x <;> simp [h]
  have hregister : s.register.toList.filterMap id = ((List.range 8).map .slot).filterMap s.rollAt := by
    have hlist : s.register.toList = (List.range 8).map fun k => s.slotRoll? k := by
      refine List.ext_getElem (by simp) fun k hk _ => ?_
      have hk8 : k < 8 := by simpa using hk
      simp [slotRoll?_of_lt hk8]
    rw [hlist, List.filterMap_map, List.filterMap_map]
    rfl
  rw [State.allRolls, hregister, RollPlace.all, hcons, hcons, List.append_assoc]
  rfl

theorem mem_allRolls_iff {s : State} {r : Roll} : r ∈ s.allRolls ↔ ∃ x, s.rollAt x = some r := by
  rw [allRolls_eq, List.mem_filterMap]
  exact ⟨fun ⟨x, _, hx⟩ => ⟨x, hx⟩, fun ⟨x, hx⟩ => ⟨x, mem_all_of_rollAt hx, hx⟩⟩

/-! ## The places after each update -/

theorem rollAt_of_backs {s t : State} (hback : ∀ b, t.back b = s.back b) (hregister : t.register = s.register) (x : RollPlace) :
    t.rollAt x = s.rollAt x := by
  cases x with
  | back b => exact congrArg Back.roll (hback b)
  | slot k => exact slotRoll?_of_register hregister k

theorem rollAt_onBack (b : BackId) (f : Back → Back) (s : State) (x : RollPlace) :
    (s.onBack b f).rollAt x = if x = .back b then (f (s.back b)).roll else s.rollAt x := by
  cases x with
  | back c =>
    by_cases h : c = b
    · subst h
      simp [State.rollAt]
    · simp [State.rollAt, onBack_other _ _ _ _ h, h]
  | slot k => simp only [reduceCtorEq, if_false]; rfl

theorem rollAt_onBackRoll (b : BackId) (f : Roll → Roll) (s : State) (x : RollPlace) :
    (s.onBackRoll b f).rollAt x = if x = .back b then (s.rollAt x).map f else s.rollAt x := by
  rw [State.onBackRoll, rollAt_onBack]
  refine if_ctx_congr Iff.rfl (fun h => ?_) fun _ => rfl
  rw [h]
  rfl

theorem rollAt_writeFrame (b : BackId) (f : Roll → Frame) (s : State) (x : RollPlace) :
    (writeFrame b f s).rollAt x = if x = .back b then (s.rollAt x).map (fun r => r.addFrame (f r)) else s.rollAt x := by
  rw [writeFrame, rollAt_onBack]
  refine if_ctx_congr Iff.rfl (fun h => ?_) fun _ => rfl
  rw [h]
  rfl

theorem rollAt_setSlot (k : Nat) (e : Option Roll) (s : State) (x : RollPlace) :
    (s.onRegister fun v => v.setIfInBounds k e).rollAt x = if x = .slot k ∧ k < 8 then e else s.rollAt x := by
  cases x with
  | back b => simp only [reduceCtorEq, false_and, if_false]; cases b <;> rfl
  | slot j =>
    refine (join_setIfInBounds s.register k j e).trans (if_ctx_congr ?_ (fun _ => rfl) fun _ => rfl)
    rw [RollPlace.slot.injEq]
    exact and_congr_right fun h => by rw [h]

theorem rollAt_onSlot (k : Nat) (f : Roll → Roll) (s : State) (x : RollPlace) :
    (s.onSlot k f).rollAt x = if x = .slot k then (s.rollAt x).map f else s.rollAt x := by
  cases x with
  | back b => simp only [reduceCtorEq, if_false]; cases b <;> rfl
  | slot j =>
    refine (slotRoll?_onSlot_eq s k j f).trans (if_ctx_congr (by rw [RollPlace.slot.injEq]) (fun h => ?_) fun _ => rfl)
    rw [RollPlace.slot.inj h]
    rfl

/-- The place is a slot of the register. -/
def RollPlace.isSlot : RollPlace → Bool
  | .back _ => false
  | .slot _ => true

theorem rollAt_slots (f : Roll → Roll) (s : State) (x : RollPlace) :
    (s.onRegister fun v => mapVec (fun e => e.map f) v).rollAt x
      = if x.isSlot then (s.rollAt x).map f else s.rollAt x := by
  cases x with
  | back b => cases b <;> rfl
  | slot k =>
    change ((mapVec _ s.register)[k]?).join = ((s.register[k]?).join).map f
    rw [mapVec_eq_map, Vector.getElem?_map]
    cases s.register[k]? <;> rfl

/-! ## The soundness of the roll records -/

/-- What `RollsSound` says of the roll records, each part by its name and by the places that hold them. -/
structure RollsHeld (s : State) : Prop where
  sound : ∀ x r, s.rollAt x = some r → r.sound
  distinct : ∀ x y p q, s.rollAt x = some p → s.rollAt y = some q → p.id = q.id → x = y
  empty : ∀ b, (s.back b).state = .empty ↔ (s.back b).roll = none

/-- No roll id twice in the list of the rolls: none in two places. -/
theorem ids_nodup_iff {s : State} :
    (s.allRolls.map fun r => r.id).Nodup
      ↔ ∀ x y p q, s.rollAt x = some p → s.rollAt y = some q → p.id = q.id → x = y := by
  rw [allRolls_eq, List.nodup_iff_pairwise_ne, List.pairwise_map, List.pairwise_filterMap]
  constructor
  · intro h x y p q hx hy hid
    have hsymm : Std.Symm fun x y => ∀ p, s.rollAt x = some p → ∀ q, s.rollAt y = some q → p.id ≠ q.id :=
      ⟨fun _ _ h q hq p hp => (h p hp q hq).symm⟩
    by_contra hne
    exact h.forall (mem_all_of_rollAt hx) (mem_all_of_rollAt hy) hne p hx q hy hid
  · intro h
    exact RollPlace.all_nodup.pairwise_of_forall_ne fun x _ y _ hne p hp q hq hid => hne (h x y p q hp hq hid)

theorem rollsSound_iff {s : State} : RollsSound s ↔ RollsHeld s := by
  have hempty : ((s.film.backA.state = .empty ↔ s.film.backA.roll = none) ∧ (s.film.backB.state = .empty ↔ s.film.backB.roll = none))
      ↔ ∀ b, (s.back b).state = .empty ↔ (s.back b).roll = none :=
    ⟨fun ⟨ha, hb⟩ b => match b with | .backA => ha | .backB => hb, fun h => ⟨h .backA, h .backB⟩⟩
  have hsound : (∀ r ∈ s.allRolls, r.sound) ↔ ∀ x r, s.rollAt x = some r → r.sound := by
    simp only [mem_allRolls_iff]
    exact ⟨fun h x r hx => h r ⟨x, hx⟩, fun h r ⟨x, hx⟩ => h x r hx⟩
  rw [RollsSound, hsound, ids_nodup_iff, hempty]
  exact ⟨fun ⟨h1, h2, h3⟩ => ⟨h1, h2, h3⟩, fun ⟨h1, h2, h3⟩ => ⟨h1, h2, h3⟩⟩

/-- Records that come each from its own place, sound and under their ids, are sound. -/
theorem RollsHeld.of_rolls {s t : State} (hs : RollsHeld s) {origin : RollPlace → RollPlace} (hinj : origin.Injective)
    (h : ∀ x r, t.rollAt x = some r → ∃ q, s.rollAt (origin x) = some q ∧ r.id = q.id ∧ (q.sound → r.sound))
    (hempty : ∀ b, (t.back b).state = .empty ↔ (t.back b).roll = none) : RollsHeld t := by
  refine ⟨fun x r hr => ?_, fun x y p q hp hq hid => hinj ?_, hempty⟩
  · obtain ⟨q, hq, -, hsound⟩ := h x r hr
    exact hsound (hs.sound _ q hq)
  · obtain ⟨p', hp', hpid, -⟩ := h x p hp
    obtain ⟨q', hq', hqid, -⟩ := h y q hq
    exact hs.distinct _ _ p' q' hp' hq' (by rw [← hpid, ← hqid, hid])

theorem RollsHeld.of_backs {s t : State} (hs : RollsHeld s) (hback : ∀ b, t.back b = s.back b) (hregister : t.register = s.register) :
    RollsHeld t :=
  hs.of_rolls Function.injective_id (fun x r hr => ⟨r, (rollAt_of_backs hback hregister x).symm.trans hr, rfl, id⟩) fun b => by
    rw [hback]
    exact hs.empty b

/-- A roll record changed without a frame exposed is as sound as it was. -/
theorem RollKept.sound {r q : Roll} (h : RollKept r q) (hr : r.sound) : q.sound := by
  obtain ⟨-, -, -, hnext, -, hframes⟩ := h
  obtain ⟨hone, hrange, hsorted⟩ := hr
  rw [Roll.sound, hframes, hnext]
  refine ⟨hone, fun f hf => ?_, hsorted⟩
  obtain ⟨f', hf', hnumber⟩ := List.mem_map.1 (hframes ▸ List.mem_map_of_mem (f := fun f : Frame => f.number) hf)
  rw [← hnumber]
  exact hrange f' hf'

/-- A frame written with the next frame number is the last of a log that rises (R90). -/
theorem addFrame_sound {r : Roll} {f : Frame} (hf : f.number = r.next) (hr : r.sound) : (r.addFrame f).sound := by
  obtain ⟨hone, hrange, hsorted⟩ := hr
  refine ⟨Nat.le_add_left 1 r.next, fun g hg => ?_, ?_⟩
  · rcases List.mem_append.1 hg with hg | hg
    · obtain ⟨hlo, hhi⟩ := hrange g hg
      exact ⟨hlo, Nat.lt_succ_of_lt hhi⟩
    · rw [List.mem_singleton.1 hg, hf]
      exact ⟨hone, Nat.lt_succ_self _⟩
  · simp only [Roll.addFrame, List.map_append, List.map_cons, List.map_nil, List.pairwise_append, List.mem_map, List.mem_singleton]
    refine ⟨hsorted, List.pairwise_singleton _ _, ?_⟩
    rintro a ⟨g, hg, rfl⟩ b rfl
    rw [hf]
    exact (hrange g hg).2

/-- The record of one place, or of several, is changed, and every EMPTY back stays EMPTY. -/
theorem RollsHeld.change {s t : State} (hs : RollsHeld s) {at_ : RollPlace → Prop} [DecidablePred at_] {f : Roll → Roll}
    (ht : ∀ x, t.rollAt x = if at_ x then (s.rollAt x).map f else s.rollAt x) (hid : ∀ r, (f r).id = r.id)
    (hsound : ∀ r, r.sound → (f r).sound) (hempty : ∀ b, (t.back b).state = .empty ↔ (s.back b).state = .empty) : RollsHeld t := by
  refine hs.of_rolls Function.injective_id (fun x r hr => ?_) fun b => ?_
  · rw [ht] at hr
    split at hr
    · obtain ⟨q, hq, rfl⟩ := Option.map_eq_some_iff.1 hr
      exact ⟨q, hq, hid q, hsound q⟩
    · exact ⟨r, hr, rfl, id⟩
  · have hroll : (t.back b).roll = none ↔ (s.back b).roll = none := by
      change t.rollAt (.back b) = none ↔ s.rollAt (.back b) = none
      rw [ht]
      split
      · exact Option.map_eq_none_iff
      · exact Iff.rfl
    rw [hempty, hs.empty, hroll]

/-- A back that takes another state keeps its roll, and is EMPTY when it was. -/
theorem RollsHeld.onBack {s : State} (hs : RollsHeld s) (b : BackId) {f : Back → Back} (h : BackKept (s.back b) (f (s.back b))) :
    RollsHeld (s.onBack b f) := by
  obtain ⟨hroll, hstate⟩ := h
  refine hs.change (at_ := fun _ => False) (f := id) (fun x => ?_) (fun _ => rfl) (fun _ => id) fun c => ?_
  · rw [if_neg id, rollAt_onBack, hroll]
    split
    · rename_i hx
      rw [hx]
      rfl
    · rfl
  · by_cases hc : c = b
    · rw [hc, onBack_same, hstate]
    · rw [onBack_other _ _ _ _ hc]

theorem onBackRoll_state (b c : BackId) (f : Roll → Roll) (s : State) : ((s.onBackRoll b f).back c).state = (s.back c).state := by
  cases b <;> cases c <;> rfl

theorem writeFrame_state (b c : BackId) (f : Roll → Frame) (s : State) : ((writeFrame b f s).back c).state = (s.back c).state := by
  cases b <;> cases c <;> rfl

/-! ## The kept roll records -/

/-- Every elementary change keeps the roll records sound: a record it writes keeps its identity and its numbers, or gains a frame. -/
theorem Move.rollsHeld (a b : State) (h : Move a b) (hs : RollsHeld a) : RollsHeld b := by
  cases h with
  | back b f _ h => exact hs.onBack b h
  | backRoll b g _ h =>
    exact hs.change (at_ := (· = .back b)) (rollAt_onBackRoll b g a) (fun r => (h r).1) (fun r => (h r).sound) fun c => by rw [onBackRoll_state]
  | frame b f _ h =>
    exact hs.change (at_ := (· = .back b)) (rollAt_writeFrame b f a) (fun _ => rfl) (fun r => addFrame_sound (h r)) fun c => by
      rw [writeFrame_state]
  | slot k g _ h => exact hs.change (at_ := (· = .slot k)) (rollAt_onSlot k g a) (fun r => (h r).1) (fun r => (h r).sound) fun c => Iff.rfl
  | slots g _ h => exact hs.change (at_ := fun x => x.isSlot) (rollAt_slots g a) (fun r => (h r).1) (fun r => (h r).sound) fun c => Iff.rfl
  | slotFree k =>
    refine hs.of_rolls Function.injective_id (fun x r hr => ⟨r, ?_, rfl, id⟩) fun c => hs.empty c
    rw [rollAt_setSlot] at hr
    split at hr
    · cases hr
    · exact hr
  | turret f _ h => exact hs.of_backs (fun c => by cases c; exacts [h.1, h.2.1]) rfl
  | _ => exact hs.of_backs (fun c => by cases c <;> rfl) rfl

theorem newRoll_sound (roll stock declared seq : Nat) : (newRoll roll stock declared seq).sound :=
  ⟨Nat.le_refl 1, nofun, List.Pairwise.nil⟩

theorem putRoll_same (b : BackId) (roll stock declared : Nat) (s : State) :
    (putRoll b roll stock declared s).back b
      = { s.back b with
          roll := some (newRoll roll stock declared s.film.loadSeq), gateFrame := .fresh,
          leaderLeft := s.stand.settings.leaderCount } := by cases b <;> rfl

theorem putRoll_other {b c : BackId} (h : c ≠ b) (roll stock declared : Nat) (s : State) :
    (putRoll b roll stock declared s).back c = s.back c := by
  refine Eq.trans ?_ (onBack_other b c (fun k =>
    { k with roll := some (newRoll roll stock declared s.film.loadSeq), gateFrame := .fresh,
             leaderLeft := s.stand.settings.leaderCount }) s h)
  cases c <;> rfl

theorem rollAt_putRoll (b : BackId) (roll stock declared : Nat) (s : State) (x : RollPlace) :
    (putRoll b roll stock declared s).rollAt x
      = if x = .back b then some (newRoll roll stock declared s.film.loadSeq) else s.rollAt x := by
  cases x with
  | slot k => rfl
  | back c =>
    by_cases h : c = b
    · rw [h, if_pos rfl]
      exact congrArg Back.roll (putRoll_same b roll stock declared s)
    · rw [if_neg (by simpa using h)]
      exact congrArg Back.roll (putRoll_other h roll stock declared s)

/-- The id of a roll put into a back is that of no other record (R92). -/
theorem load_fresh {s : State} {b : BackId} {roll stock declared : Nat} (h : loadRefusal b roll stock declared s = none) :
    ∀ x r, s.rollAt x = some r → r.id ≠ roll := fun x r hr hid => by
  have hnone := firstFailing_none h ((s.roll? roll).isNone, .duplicate) (by simp)
  have hsome := roll?_isSome_iff.2 ⟨r, mem_allRolls_iff.2 ⟨x, hr⟩, hid⟩
  rw [Option.isNone_iff_eq_none.1 hnone] at hsome
  cases hsome

/-- A roll of a new id is put into a back, which takes a state other than EMPTY (R92). -/
theorem RollsHeld.load {s : State} (hs : RollsHeld s) {b : BackId} {roll stock declared : Nat} {st : BackState}
    (h : loadRefusal b roll stock declared s = none) (hst : st ≠ .empty) :
    RollsHeld ((putRoll b roll stock declared s).onBack b fun k => { k with state := st }) := by
  have hat : ∀ x, ((putRoll b roll stock declared s).onBack b fun k => { k with state := st }).rollAt x
      = if x = .back b then some (newRoll roll stock declared s.film.loadSeq) else s.rollAt x := fun x => by
    rw [rollAt_onBack, putRoll_same, rollAt_putRoll]
    split <;> rfl
  refine ⟨fun x r hr => ?_, fun x y p q hp hq hid => ?_, fun c => ?_⟩
  · rw [hat] at hr
    split at hr
    · cases hr
      exact newRoll_sound _ _ _ _
    · exact hs.sound x r hr
  · rw [hat] at hp hq
    split at hp <;> split at hq
    · rename_i hx hy; rw [hx, hy]
    · cases hp
      exact absurd hid.symm (load_fresh h y q hq)
    · cases hq
      exact absurd hid (load_fresh h x p hp)
    · exact hs.distinct x y p q hp hq hid
  · by_cases hc : c = b
    · rw [hc, onBack_same, putRoll_same]
      exact ⟨fun he => absurd he hst, nofun⟩
    · rw [onBack_other _ _ _ _ hc, putRoll_other hc]
      exact hs.empty c

/-- The slot chosen for a roll is free (R129). -/
theorem slotRoll?_of_freeSlot? {s : State} {k : Nat} (h : freeSlot? s = some k) : k < 8 ∧ s.slotRoll? k = none := by
  obtain ⟨hk, hnone, -⟩ := List.findIdx?_eq_some_iff_getElem.1 h
  have hk8 : k < 8 := by simpa using hk
  refine ⟨hk8, ?_⟩
  rw [slotRoll?_of_lt hk8]
  simpa using hnone

/-- A roll record put into a slot with its unload sequence and kind (R86, R87, R106). -/
def shelved (slot : Nat) (kind : UnloadKind) (r : Roll) (s : State) : State :=
  (s.onRegister fun v => v.setIfInBounds slot (some (r.unloaded s.film.unloadSeq kind))).onFilm
    fun m => { m with unloadSeq := nextSeq m.unloadSeq }

/-- A back as it becomes EMPTY (R106). -/
def Back.emptied (k : Back) : Back := { k with state := .empty, roll := none, gateFrame := .fresh, leaderLeft := 0 }

theorem shelved_back (slot : Nat) (kind : UnloadKind) (r : Roll) (s : State) (b : BackId) :
    (shelved slot kind r s).back b = s.back b := by cases b <;> rfl

theorem rollAt_shelved {slot : Nat} (hslot : slot < 8) (kind : UnloadKind) (r : Roll) (s : State) (x : RollPlace) :
    (shelved slot kind r s).rollAt x = if x = .slot slot then some (r.unloaded s.film.unloadSeq kind) else s.rollAt x := by
  cases x with
  | back c => exact congrArg Back.roll (shelved_back slot kind r s c)
  | slot j =>
    refine (rollAt_setSlot slot (some (r.unloaded s.film.unloadSeq kind)) s (.slot j)).trans ?_
    simp [hslot]

/-- A back that is made EMPTY keeps no roll, and every other record its place. -/
theorem RollsHeld.emptied {s : State} (hs : RollsHeld s) (b : BackId) : RollsHeld (s.onBack b Back.emptied) := by
  refine hs.of_rolls Function.injective_id (fun x r hx => ⟨r, ?_, rfl, id⟩) fun c => ?_
  · rw [rollAt_onBack] at hx
    split at hx
    · cases hx
    · exact hx
  · by_cases hc : c = b
    · rw [hc, onBack_same]
      exact ⟨fun _ => rfl, fun _ => rfl⟩
    · rw [onBack_other _ _ _ _ hc]
      exact hs.empty c

/-- The roll of a back goes into a free slot and the back becomes EMPTY: the record changes its place alone (R106, R107). -/
theorem RollsHeld.unload {s : State} (hs : RollsHeld s) {b : BackId} {slot : Nat} {kind : UnloadKind} {r : Roll}
    (hr : (s.back b).roll = some r) (hfree : freeSlot? s = some slot) : RollsHeld ((shelved slot kind r s).onBack b Back.emptied) := by
  obtain ⟨hslot, -⟩ := slotRoll?_of_freeSlot? hfree
  refine hs.of_rolls (Equiv.swap (.back b) (.slot slot)).injective (fun x q hq => ?_) fun c => ?_
  · rw [rollAt_onBack, rollAt_shelved hslot] at hq
    split at hq
    · cases hq
    · rename_i hback
      split at hq
      · rename_i hx
        cases hq
        rw [hx, Equiv.swap_apply_right]
        exact ⟨r, hr, rfl, id⟩
      · rename_i hx
        rw [Equiv.swap_apply_of_ne_of_ne hback hx]
        exact ⟨q, hq, rfl, id⟩
  · by_cases hc : c = b
    · rw [hc, onBack_same]
      exact ⟨fun _ => rfl, fun _ => rfl⟩
    · rw [onBack_other _ _ _ _ hc, shelved_back]
      exact hs.empty c

/-- Every change that a command makes itself keeps the roll records sound. -/
theorem OwnMove.rollsHeld (o : Own) (a b : State) (h : OwnMove o a b) (hs : RollsHeld a) : RollsHeld b := by
  cases h with
  | load b roll stock declared st _ h hst => exact hs.load h hst
  | unload b slot kind r _ hr hslot =>
    rw [onBack_onBack]
    exact hs.unload hr hslot
  | clear b =>
    rw [onBack_onBack]
    exact hs.emptied b
  | power => exact rollsSound_iff.1 reset_rollsSound
  | _ => exact hs.of_backs (fun c => by cases c <;> rfl) rfl

/-- Settles O58: every elementary change and every command's own change keeps the roll records sound. -/
theorem rollsKept : Obligations.RollsKept := fun _ _ hs h =>
  rollsSound_iff.2 (step_keeps (P := RollsHeld) (fun _ _ hs => hs.of_backs (fun c => by cases c <;> rfl) rfl)
    Move.rollsHeld OwnMove.rollsHeld h (rollsSound_iff.1 hs))

end Sys2Proof.Machine
end

section
/-! SUPPORT. The film log of a roll record as its rules read it, and what a frame, a new group and a settled group make of it
(R88 to R90, R98, R125). -/

namespace Sys2Proof.Machine

/-! ## The log of a roll record -/

/-- What the rules of the film log read of a group record (R88, R90). -/
structure GroupLog where
  first        : Nat
  n            : Nat
  exposed      : Nat
  completeness : Completeness

/-- What the rules of the film log read of a roll record; of each frame its number and its group (R86, R89, R90). -/
structure RollLog where
  next     : Nat
  declared : Nat
  groups   : List GroupLog
  frames   : List (Nat × Nat)

def Group.log (g : Group) : GroupLog := { first := g.first, n := g.n, exposed := g.exposed, completeness := g.completeness }

def Roll.log (r : Roll) : RollLog :=
  { next := r.next, declared := r.declared, groups := r.groups.map Group.log, frames := r.frames.map fun f => (f.number, f.group) }

/-- The log of the roll record of a place. -/
def State.logAt (s : State) (x : RollPlace) : Option RollLog := (s.rollAt x).map Roll.log

/-- What `Roll.logSound` and `Roll.sound` say of a log, each part by its name. -/
structure RollLog.Sound (l : RollLog) : Prop where
  one : 1 ≤ l.next
  bounded : l.next ≤ l.declared + 1
  rising : (l.groups.map fun g => g.first).Pairwise fun a b => a < b
  firsts : ∀ g ∈ l.groups, 1 ≤ g.first ∧ g.first ≤ l.next
  frames : ∀ f ∈ l.frames, f.2 ≤ f.1 ∧ f.1 < l.next

theorem groupFirsts_log (r : Roll) : (r.log.groups.map fun g => g.first) = r.groups.map fun g => g.first := List.map_map

theorem log_sound_of {r : Roll} (h : r.sound) (hlog : r.logSound) : r.log.Sound := by
  obtain ⟨hone, hrange, -⟩ := h
  obtain ⟨hbounded, hrising, hfirsts, hframes⟩ := hlog
  refine ⟨hone, hbounded, (groupFirsts_log r).symm ▸ hrising, fun g hg => ?_, fun f hf => ?_⟩
  · obtain ⟨k, hk, rfl⟩ := List.mem_map.1 hg
    exact hfirsts k hk
  · obtain ⟨k, hk, rfl⟩ := List.mem_map.1 hf
    exact ⟨hframes k hk, (hrange k hk).2⟩

theorem logSound_of {r : Roll} (h : r.log.Sound) : r.logSound :=
  ⟨h.bounded, groupFirsts_log r ▸ h.rising, fun _ hg => h.firsts _ (List.mem_map_of_mem hg),
    fun _ hf => (h.frames _ (List.mem_map_of_mem (f := fun f : Frame => (f.number, f.group)) hf)).1⟩

/-- Two groups of one first frame are one. -/
theorem RollLog.Sound.group_unique {l : RollLog} (h : l.Sound) {g k : GroupLog} (hg : g ∈ l.groups) (hk : k ∈ l.groups)
    (hfirst : g.first = k.first) : g = k :=
  List.inj_on_of_nodup_map (h.rising.imp fun hab => hab.ne) hg hk hfirst

/-! ## A frame written -/

/-- A log with a frame of a group more (R90). -/
def RollLog.written (l : RollLog) (group : Nat) : RollLog :=
  { l with next := l.next + 1, frames := l.frames ++ [(l.next, group)] }

theorem addFrame_log {r : Roll} {f : Frame} (h : f.number = r.next) : (r.addFrame f).log = r.log.written f.group := by
  simp only [Roll.log, Roll.addFrame, RollLog.written, List.map_append, List.map_cons, List.map_nil, h]

theorem RollLog.Sound.written {l : RollLog} (h : l.Sound) {group : Nat} (hroom : l.next ≤ l.declared) (hgroup : group ≤ l.next) :
    (l.written group).Sound := by
  refine ⟨Nat.le_add_left 1 _, Nat.succ_le_succ hroom, h.rising, fun g hg => ?_, fun f hf => ?_⟩
  · obtain ⟨hlo, hhi⟩ := h.firsts g hg
    exact ⟨hlo, Nat.le_succ_of_le hhi⟩
  · rcases List.mem_append.1 hf with hf | hf
    · obtain ⟨hlo, hhi⟩ := h.frames f hf
      exact ⟨hlo, Nat.lt_succ_of_lt hhi⟩
    · rw [List.mem_singleton.1 hf]
      exact ⟨hgroup, Nat.lt_succ_self _⟩

/-- Once a frame is written every group of the roll has a frame number below the next one (R90). -/
theorem RollLog.Sound.written_passed {l : RollLog} (h : l.Sound) (group : Nat) :
    ∀ g ∈ (l.written group).groups, g.first < (l.written group).next := fun g hg => Nat.lt_succ_of_le (h.firsts g hg).2

/-! ## Groups changed -/

/-- A log with each group changed. -/
def RollLog.regroup (l : RollLog) (f : GroupLog → GroupLog) : RollLog := { l with groups := l.groups.map f }

theorem RollLog.Sound.regroup {l : RollLog} (h : l.Sound) {f : GroupLog → GroupLog} (hf : ∀ g, (f g).first = g.first) :
    (l.regroup f).Sound := by
  refine ⟨h.one, h.bounded, ?_, fun g hg => ?_, h.frames⟩
  · have hfirsts : ((l.regroup f).groups.map fun g => g.first) = l.groups.map fun g => g.first := by
      simp only [RollLog.regroup, List.map_map, Function.comp_def, hf]
    rw [hfirsts]
    exact h.rising
  · obtain ⟨k, hk, rfl⟩ := List.mem_map.1 hg
    rw [hf]
    exact h.firsts k hk

theorem onGroup_log {r : Roll} {first : Nat} {f : Group → Group} {k : GroupLog → GroupLog} (h : ∀ g : Group, (f g).log = k g.log) :
    (r.onGroup first f).log = r.log.regroup fun g => if g.first = first then k g else g := by
  simp only [Roll.log, Roll.onGroup, RollLog.regroup, List.map_map, RollLog.mk.injEq, true_and, and_true]
  refine List.map_congr_left fun g _ => ?_
  change (if g.first == first then f g else g).log = if g.first = first then k g.log else g.log
  by_cases hg : g.first = first
  · rw [if_pos hg, if_pos (beq_iff_eq.2 hg), h]
  · rw [if_neg hg, if_neg (mt beq_iff_eq.1 hg)]

/-- A group with one EXPOSURE more (R90). -/
def GroupLog.oneMore (g : GroupLog) : GroupLog :=
  { g with exposed := g.exposed + 1, completeness := if g.exposed + 1 = g.n then .complete else g.completeness }

/-! ## A group opened -/

/-- A log with a group of `n` frames opened at the next frame number, and no other group there (R90). -/
def RollLog.opened (l : RollLog) (n : Nat) : RollLog :=
  { l with
    groups := (l.groups.filter fun g => decide (g.first ≠ l.next))
      ++ [{ first := l.next, n := n, exposed := 0, completeness := .opened }] }

theorem RollLog.Sound.opened {l : RollLog} (h : l.Sound) (n : Nat) : (l.opened n).Sound := by
  refine ⟨h.one, h.bounded, ?_, fun g hg => ?_, h.frames⟩
  · simp only [RollLog.opened, List.map_append, List.map_cons, List.map_nil, List.pairwise_append]
    refine ⟨h.rising.sublist (List.filter_sublist.map _), List.pairwise_singleton _ _, fun a ha b hb => ?_⟩
    obtain ⟨g, hg, rfl⟩ := List.mem_map.1 ha
    obtain ⟨hg, hne⟩ := List.mem_filter.1 hg
    rw [List.mem_singleton.1 hb]
    exact lt_of_le_of_ne (h.firsts g hg).2 (of_decide_eq_true hne)
  · rcases List.mem_append.1 hg with hg | hg
    · exact h.firsts g (List.mem_filter.1 hg).1
    · rw [List.mem_singleton.1 hg]
      exact ⟨h.one, Nat.le_refl _⟩

/-- With no group at the next frame number but INCOMPLETE ones, which have no frame there, the opened group takes their place (R90). -/
theorem openGroup_log {r : Roll} (h : r.log.Sound) (hstale : ∀ g ∈ r.groups, g.first = r.next → g.completeness = .incomplete)
    {k : Group} {n : Nat} (hk : k.log = { first := r.next, n := n, exposed := 0, completeness := .opened }) :
    (r.openGroup k).log = r.log.opened n := by
  have hfirst : k.first = r.next := congrArg GroupLog.first hk
  have hframes : (r.framesOf r.next).isEmpty = true := by
    rw [List.isEmpty_iff, Roll.framesOf, List.filter_eq_nil_iff]
    intro f hf hgroup
    obtain ⟨hle, hlt⟩ := h.frames _ (List.mem_map_of_mem (f := fun f : Frame => (f.number, f.group)) hf)
    have : f.group = r.next := by simpa using hgroup
    exact absurd (this ▸ hle) (Nat.not_le.2 hlt)
  have hfilter : (r.groups.filter fun x =>
      !(x.first == k.first && decide (x.completeness = .incomplete) && (r.framesOf x.first).isEmpty))
      = r.groups.filter fun x => decide (x.first ≠ r.next) := by
    refine List.filter_congr fun g hg => ?_
    by_cases hnext : g.first = r.next
    · simp [hnext, hfirst, hstale g hg hnext, hframes]
    · simp [hnext, hfirst]
  rw [Roll.openGroup, hfilter]
  simp only [Roll.log, RollLog.opened, List.map_append, List.map_cons, List.map_nil, List.filter_map, hk]
  rfl

/-! ## A group settled -/

/-- The group of a first frame, in a log. -/
def RollLog.group? (l : RollLog) (first : Nat) : Option GroupLog := l.groups.find? fun g => g.first == first

theorem group?_log (r : Roll) (first : Nat) : (r.group? first).map Group.log = r.log.group? first := by
  rw [RollLog.group?, Roll.log, List.find?_map]
  rfl

theorem RollLog.Sound.group?_eq {l : RollLog} (h : l.Sound) {g : GroupLog} (hg : g ∈ l.groups) : l.group? g.first = some g := by
  obtain ⟨k, hk⟩ := Option.isSome_iff_exists.1
    (List.find?_isSome (p := fun k : GroupLog => k.first == g.first).2 ⟨g, hg, beq_self_eq_true g.first⟩)
  have hfirst : k.first = g.first := by simpa using List.find?_some hk
  rw [RollLog.group?, hk, h.group_unique (List.mem_of_find?_eq_some hk) hg hfirst]

/-- A log with the group of a first frame INCOMPLETE (R125). -/
def RollLog.abandoned (l : RollLog) (first : Nat) : RollLog :=
  l.regroup fun g => if g.first = first then { g with completeness := .incomplete } else g

/-- A log after the abort of a cycle with the first frame of its group: INCOMPLETE where it is short of its frames (R125). -/
def RollLog.settled (l : RollLog) (groupFirst : Option Nat) : RollLog :=
  match groupFirst.bind l.group? with
  | some g => if g.exposed < g.n then l.abandoned g.first else l
  | none => l

theorem RollLog.Sound.abandoned {l : RollLog} (h : l.Sound) (first : Nat) : (l.abandoned first).Sound :=
  h.regroup fun g => by split <;> rfl

theorem RollLog.Sound.settled {l : RollLog} (h : l.Sound) (groupFirst : Option Nat) : (l.settled groupFirst).Sound := by
  unfold RollLog.settled
  split
  · split
    · exact h.abandoned _
    · exact h
  · exact h

theorem settled_next (l : RollLog) (groupFirst : Option Nat) : (l.settled groupFirst).next = l.next := by
  unfold RollLog.settled
  split
  · split <;> rfl
  · rfl

/-- A group that was INCOMPLETE, or the cycle's short of its frames, is INCOMPLETE after the settling. -/
theorem RollLog.Sound.settled_incomplete {l : RollLog} (h : l.Sound) {groupFirst : Option Nat} {g : GroupLog}
    (hg : g ∈ (l.settled groupFirst).groups) :
    ∃ k ∈ l.groups, k.first = g.first
      ∧ (k.completeness = .incomplete ∨ (groupFirst = some k.first ∧ k.exposed < k.n) → g.completeness = .incomplete) := by
  have hsame : (∀ k ∈ l.groups, groupFirst = some k.first → ¬k.exposed < k.n) → l.settled groupFirst = l →
      ∃ k ∈ l.groups, k.first = g.first
        ∧ (k.completeness = .incomplete ∨ (groupFirst = some k.first ∧ k.exposed < k.n) → g.completeness = .incomplete) := by
    intro hfull heq
    rw [heq] at hg
    exact ⟨g, hg, rfl, fun hor => hor.resolve_right fun ⟨h1, h2⟩ => hfull g hg h1 h2⟩
  cases hfound : groupFirst.bind l.group? with
  | none =>
    refine hsame (fun k hk hfirst => ?_) (by simp only [RollLog.settled, hfound])
    rw [hfirst, Option.bind_some, h.group?_eq hk] at hfound
    cases hfound
  | some q =>
    by_cases hshort : q.exposed < q.n
    · have heq : l.settled groupFirst = l.abandoned q.first := by simp only [RollLog.settled, hfound, if_pos hshort]
      rw [heq] at hg
      obtain ⟨k, hk, rfl⟩ := List.mem_map.1 hg
      refine ⟨k, hk, by split <;> rfl, fun hor => ?_⟩
      split
      · rfl
      · rename_i hne
        refine hor.resolve_right fun ⟨hfirst, _⟩ => hne ?_
        rw [hfirst, Option.bind_some, h.group?_eq hk] at hfound
        rw [Option.some.inj hfound]
    · refine hsame (fun k hk hfirst => ?_) (by simp only [RollLog.settled, hfound, if_neg hshort])
      rw [hfirst, Option.bind_some, h.group?_eq hk] at hfound
      rw [Option.some.inj hfound]
      exact hshort

end Sys2Proof.Machine
end

section
/-! SUPPORT. The soundness of the film logs part by part, and the changes that keep it: `LogKept s t` says that `t` has the orders, the
cycle, the shutter and the logs of `s`, but for orders and register slots freed (R88 to R90, R99, R117, R120). -/

namespace Sys2Proof.Machine

/-! ## The soundness of the film logs -/

/-- What `CycleSound` says of the cycle in flight, each part by its name. -/
structure CycleLog (s : State) (c : Cycle) : Prop where
  bracket : 1 ≤ c.n
  cause : c.cause ≠ none ↔ c.phase = .ending
  closed : c.phase = .loading ∨ c.phase = .metering → c.groupFirst = none
  state : (s.back c.back).state ≠ .empty ∧ (s.back c.back).state ≠ .rewinding ∧ (s.back c.back).state ≠ .rewound
  roll : ∃ l, s.logAt (.back c.back) = some l ∧ ∀ first ∈ c.groupFirst, first ≤ l.next

/-- A group is the open one of an EXPOSING cycle, short of its frames (R90). -/
def GroupLog.openOf (g : GroupLog) (c : Cycle) : Prop :=
  c.phase = .exposing ∧ c.groupFirst = some g.first ∧ g.completeness = .opened ∧ g.exposed < g.n

/-- What `FilmLogSound` says, each part by its name and by the places of the rolls, but for the state of the back the shutter is open on. -/
structure FilmLogs (s : State) : Prop where
  logs : ∀ x l, s.logAt x = some l → l.Sound
  brackets : ∀ o ∈ s.work.orders, 1 ≤ o.n
  cycle : ∀ c, s.stand.cycle = some c → CycleLog s c
  expose : s.stand.expose.isSome = true →
    ∃ c l, s.stand.cycle = some c ∧ c.phase = .exposing ∧ s.logAt (.back c.back) = some l ∧ l.next ≤ l.declared
  meter : ∀ m, s.head.meter = some m → m.ofCycle = true → ∃ c, s.stand.cycle = some c ∧ c.phase = .metering
  fresh : ∀ x l, s.logAt x = some l → ∀ g ∈ l.groups, g.first = l.next →
    g.completeness = .incomplete ∨ ∃ c, s.stand.cycle = some c ∧ x = .back c.back ∧ g.openOf c

/-- The film logs are sound, and the shutter is open only on a READY back (R99). -/
structure FilmSafe (s : State) : Prop extends FilmLogs s where
  ready : s.stand.expose.isSome = true → ∀ c, s.stand.cycle = some c → (s.back c.back).state = .ready

theorem logAt_eq_some_iff {s : State} {x : RollPlace} {l : RollLog} : s.logAt x = some l ↔ ∃ r, s.rollAt x = some r ∧ r.log = l :=
  Option.map_eq_some_iff

theorem logAt_of_rollAt {s : State} {x : RollPlace} {r : Roll} (h : s.rollAt x = some r) : s.logAt x = some r.log :=
  logAt_eq_some_iff.2 ⟨r, h, rfl⟩

theorem filmSafe_of {s : State} (hr : RollsSound s) (hs : FilmLogSound s) : FilmSafe s := by
  obtain ⟨hlogs, horders, hcycle, hexpose, hmeter, hfresh⟩ := hs
  have hheld := rollsSound_iff.1 hr
  have hopen : s.stand.expose.isSome = true → s.stand.expose ≠ none := Option.isSome_iff_ne_none.1
  refine ⟨⟨fun x l hl => ?_, horders, fun c hc => ?_, fun he => ?_, hmeter, fun x l hl g hg hnext => ?_⟩, fun he c hc => ?_⟩
  · obtain ⟨r, hx, rfl⟩ := logAt_eq_some_iff.1 hl
    exact log_sound_of (hheld.sound x r hx) (hlogs r (mem_allRolls_iff.2 ⟨x, hx⟩))
  · obtain ⟨hn, hcause, hclosed, h1, h2, h3, r, hroll, hfirst⟩ := hcycle c hc
    exact ⟨hn, hcause, hclosed, ⟨h1, h2, h3⟩, r.log, logAt_of_rollAt hroll, hfirst⟩
  · obtain ⟨c, hc, hphase, -, r, hroll, hroom⟩ := hexpose (hopen he)
    exact ⟨c, r.log, hc, hphase, logAt_of_rollAt hroll, hroom⟩
  · obtain ⟨r, hx, rfl⟩ := logAt_eq_some_iff.1 hl
    obtain ⟨k, hk, rfl⟩ := List.mem_map.1 hg
    refine (hfresh r (mem_allRolls_iff.2 ⟨x, hx⟩) k hk hnext).imp_right fun ⟨c, hc, hphase, hroll, hfirst, hopened, hshort⟩ => ?_
    exact ⟨c, hc, hheld.distinct x (.back c.back) r r hx hroll rfl, hphase, hfirst, hopened, hshort⟩
  · obtain ⟨k, hk, -, hready, -⟩ := hexpose (hopen he)
    rw [hc] at hk
    cases hk
    exact hready

theorem FilmSafe.filmLogSound {s : State} (hs : FilmSafe s) : FilmLogSound s := by
  refine ⟨fun r hr => ?_, hs.brackets, fun c hc => ?_, fun he => ?_, hs.meter, fun r hr g hg hnext => ?_⟩
  · obtain ⟨x, hx⟩ := mem_allRolls_iff.1 hr
    exact logSound_of (hs.logs x _ (logAt_of_rollAt hx))
  · obtain ⟨hn, hcause, hclosed, ⟨h1, h2, h3⟩, l, hl, hfirst⟩ := hs.cycle c hc
    obtain ⟨r, hr, rfl⟩ := logAt_eq_some_iff.1 hl
    exact ⟨hn, hcause, hclosed, h1, h2, h3, r, hr, hfirst⟩
  · have hsome := Option.isSome_iff_ne_none.2 he
    obtain ⟨c, l, hc, hphase, hl, hroom⟩ := hs.expose hsome
    obtain ⟨r, hr, rfl⟩ := logAt_eq_some_iff.1 hl
    exact ⟨c, hc, hphase, hs.ready hsome c hc, r, hr, hroom⟩
  · obtain ⟨x, hx⟩ := mem_allRolls_iff.1 hr
    refine (hs.fresh x _ (logAt_of_rollAt hx) _ (List.mem_map_of_mem hg) hnext).imp_right fun ⟨c, hc, hplace, hphase, hfirst, hopened, hshort⟩ => ?_
    subst hplace
    exact ⟨c, hc, hphase, hx, hfirst, hopened, hshort⟩

/-! ## Changes that keep it -/

/-- What most operations keep of the film: the brackets of the orders, the cycle, an open shutter, the cycle's METER, the state and the
log of each back, and the logs of the register. -/
structure LogKept (s t : State) : Prop where
  orders : ∀ o ∈ t.work.orders, ∃ p ∈ s.work.orders, p.n = o.n
  cycle : t.stand.cycle = s.stand.cycle
  expose : t.stand.expose.isSome = true → s.stand.expose.isSome = true
  meter : ∀ m, t.head.meter = some m → m.ofCycle = true → ∃ k, s.head.meter = some k ∧ k.ofCycle = true
  state : ∀ b, (t.back b).state = (s.back b).state
  backs : ∀ b, t.logAt (.back b) = s.logAt (.back b)
  slots : ∀ k l, t.logAt (.slot k) = some l → s.logAt (.slot k) = some l

theorem LogKept.refl (s : State) : LogKept s s :=
  ⟨fun o ho => ⟨o, ho, rfl⟩, rfl, id, fun m hm hc => ⟨m, hm, hc⟩, fun _ => rfl, fun _ => rfl, fun _ _ => id⟩

theorem LogKept.trans {a b c : State} (h : LogKept a b) (k : LogKept b c) : LogKept a c := by
  refine ⟨fun o ho => ?_, k.cycle.trans h.cycle, h.expose ∘ k.expose, fun m hm hc => ?_, fun b => (k.state b).trans (h.state b),
    fun b => (k.backs b).trans (h.backs b), fun j l hl => h.slots j l (k.slots j l hl)⟩
  · obtain ⟨p, hp, hn⟩ := k.orders o ho
    obtain ⟨q, hq, hqn⟩ := h.orders p hp
    exact ⟨q, hq, hqn.trans hn⟩
  · obtain ⟨m', hm', hc'⟩ := k.meter m hm hc
    exact h.meter m' hm' hc'

theorem LogKept.logAt {s t : State} (h : LogKept s t) (x : RollPlace) (l : RollLog) (hl : t.logAt x = some l) : s.logAt x = some l := by
  cases x with
  | back b => exact (h.backs b).symm.trans hl
  | slot k => exact h.slots k l hl

theorem CycleLog.of_back {s t : State} {c : Cycle} (h : CycleLog s c) (hstate : (t.back c.back).state = (s.back c.back).state)
    (hlog : t.logAt (.back c.back) = s.logAt (.back c.back)) : CycleLog t c :=
  ⟨h.bracket, h.cause, h.closed, hstate ▸ h.state, hlog ▸ h.roll⟩

theorem FilmLogs.kept {s t : State} (hs : FilmLogs s) (h : LogKept s t) : FilmLogs t := by
  refine ⟨fun x l hl => hs.logs x l (h.logAt x l hl), fun o ho => ?_, fun c hc => ?_, fun he => ?_, fun m hm hc => ?_,
    fun x l hl g hg hnext => ?_⟩
  · obtain ⟨p, hp, hn⟩ := h.orders o ho
    exact hn ▸ hs.brackets p hp
  · exact (hs.cycle c (h.cycle ▸ hc)).of_back (h.state _) (h.backs _)
  · obtain ⟨c, l, hc, hphase, hl, hroom⟩ := hs.expose (h.expose he)
    exact ⟨c, l, h.cycle.trans hc, hphase, (h.backs _).trans hl, hroom⟩
  · obtain ⟨k, hk, hkc⟩ := h.meter m hm hc
    rw [h.cycle]
    exact hs.meter k hk hkc
  · rw [h.cycle]
    exact hs.fresh x l (h.logAt x l hl) g hg hnext

theorem FilmSafe.kept {s t : State} (hs : FilmSafe s) (h : LogKept s t) : FilmSafe t :=
  ⟨hs.toFilmLogs.kept h, fun he c hc => (h.state _).trans (hs.ready (h.expose he) c (h.cycle ▸ hc))⟩

/-! ## The updates of the blocks -/

theorem orders_from_same {s t : State} (h : t.work = s.work) : ∀ o ∈ t.work.orders, ∃ p ∈ s.work.orders, p.n = o.n :=
  fun o ho => ⟨o, h ▸ ho, rfl⟩

theorem meter_from_same {s t : State} (h : t.head = s.head) :
    ∀ m, t.head.meter = some m → m.ofCycle = true → ∃ k, s.head.meter = some k ∧ k.ofCycle = true :=
  fun m hm hc => ⟨m, h ▸ hm, hc⟩

theorem logAt_of_backs {s t : State} (hback : ∀ b, t.back b = s.back b) (hregister : t.register = s.register) (x : RollPlace) :
    t.logAt x = s.logAt x := congrArg (Option.map Roll.log) (rollAt_of_backs hback hregister x)

/-- The general rule: the rolls of both backs and the register as they were. -/
theorem LogKept.of_backs {s t : State} (horders : ∀ o ∈ t.work.orders, ∃ p ∈ s.work.orders, p.n = o.n)
    (hcycle : t.stand.cycle = s.stand.cycle) (hexpose : t.stand.expose.isSome = true → s.stand.expose.isSome = true)
    (hmeter : ∀ m, t.head.meter = some m → m.ofCycle = true → ∃ k, s.head.meter = some k ∧ k.ofCycle = true)
    (hback : ∀ b, t.back b = s.back b) (hregister : t.register = s.register) : LogKept s t :=
  ⟨horders, hcycle, hexpose, hmeter, fun b => congrArg Back.state (hback b), fun _ => logAt_of_backs hback hregister _,
    fun _ _ hl => (logAt_of_backs hback hregister _).symm.trans hl⟩

theorem back_of_film {s t : State} (h : t.film = s.film) (b : BackId) : t.back b = s.back b := by
  cases b <;> simp only [State.back, h]

/-- The work list, the stand, the head, the film and the register are as they were. -/
theorem LogKept.of_same {s t : State} (hwork : t.work = s.work) (hstand : t.stand = s.stand) (hhead : t.head = s.head)
    (hfilm : t.film = s.film) (hregister : t.register = s.register) : LogKept s t :=
  .of_backs (orders_from_same hwork) (hstand ▸ rfl) (hstand ▸ id) (meter_from_same hhead) (back_of_film hfilm) hregister

section

variable (s : State)

theorem logKept_notice (n : Notice) : LogKept s (queueNotice n s) := .of_same rfl rfl rfl rfl rfl
theorem logKept_onFeeder (f : Feeder → Feeder) : LogKept s (s.onFeeder f) := .of_same rfl rfl rfl rfl rfl
theorem logKept_onLabels (f : LabelUnit → LabelUnit) : LogKept s (s.onLabels f) := .of_same rfl rfl rfl rfl rfl
theorem logKept_onTally (f : Tally → Tally) : LogKept s (s.onTally f) := .of_same rfl rfl rfl rfl rfl
theorem logKept_onLink (f : Link → Link) : LogKept s (s.onLink f) := .of_same rfl rfl rfl rfl rfl
theorem logKept_onProfiles (f : ProfileTable → ProfileTable) : LogKept s (s.onProfiles f) := .of_same rfl rfl rfl rfl rfl
theorem logKept_onStocks (f : Vector StockEntry 4 → Vector StockEntry 4) : LogKept s (s.onStocks f) := .of_same rfl rfl rfl rfl rfl

theorem logKept_onWork {f : WorkList → WorkList} (h : ∀ o ∈ (f s.work).orders, ∃ p ∈ s.work.orders, p.n = o.n) :
    LogKept s (s.onWork f) := .of_backs h rfl id (meter_from_same rfl) (back_of_film rfl) rfl

theorem logKept_onOrder (number : Nat) {f : Order → Order} (hf : ∀ o, (f o).n = o.n) : LogKept s (s.onOrder number f) := by
  refine logKept_onWork s fun o ho => ?_
  obtain ⟨p, hp, rfl⟩ := List.mem_map.1 ho
  exact ⟨p, hp, by split <;> simp [hf]⟩

theorem logKept_onHead {f : Head → Head}
    (h : ∀ m, (f s.head).meter = some m → m.ofCycle = true → ∃ k, s.head.meter = some k ∧ k.ofCycle = true) :
    LogKept s (s.onHead f) := .of_backs (orders_from_same rfl) rfl id h (back_of_film rfl) rfl

/-- The METER is as it was. -/
theorem logKept_onHead_same {f : Head → Head} (h : (f s.head).meter = s.head.meter) : LogKept s (s.onHead f) :=
  logKept_onHead s fun m hm hc => ⟨m, h ▸ hm, hc⟩

theorem logKept_onStand {f : Stand → Stand} (hcycle : (f s.stand).cycle = s.stand.cycle)
    (hexpose : (f s.stand).expose.isSome = true → s.stand.expose.isSome = true) : LogKept s (s.onStand f) :=
  .of_backs (orders_from_same rfl) hcycle hexpose (meter_from_same rfl) (back_of_film rfl) rfl

theorem logKept_onFilm {f : Film → Film} (hA : (f s.film).backA = s.film.backA) (hB : (f s.film).backB = s.film.backB) :
    LogKept s (s.onFilm f) :=
  .of_backs (orders_from_same rfl) rfl id (meter_from_same rfl) (fun b => by cases b; exacts [hA, hB]) rfl

theorem logAt_onBack (b : BackId) (f : Back → Back) (x : RollPlace) :
    (s.onBack b f).logAt x = if x = .back b then (f (s.back b)).roll.map Roll.log else s.logAt x := by
  rw [State.logAt, rollAt_onBack]
  split <;> rfl

/-- A back keeps its state and its log. -/
theorem logKept_onBack (b : BackId) {f : Back → Back} (hstate : (f (s.back b)).state = (s.back b).state)
    (hlog : (f (s.back b)).roll.map Roll.log = (s.back b).roll.map Roll.log) : LogKept s (s.onBack b f) := by
  refine ⟨orders_from_same rfl, rfl, id, meter_from_same rfl, fun c => ?_, fun c => ?_, fun k l hl => hl⟩
  · by_cases hc : c = b
    · rw [hc, onBack_same, hstate]
    · rw [onBack_other _ _ _ _ hc]
  · rw [logAt_onBack]
    split
    · rename_i hx
      rw [hx, hlog]
      rfl
    · rfl

theorem logKept_onBackRoll (b : BackId) {f : Roll → Roll} (hf : ∀ r, (f r).log = r.log) : LogKept s (s.onBackRoll b f) :=
  logKept_onBack s b rfl (by rw [Option.map_map]; exact congrArg (Option.map · _) (funext hf))

/-- Slots of the register keep their logs or are freed. -/
theorem logKept_onRegister {f : Vector (Option Roll) 8 → Vector (Option Roll) 8}
    (h : ∀ k l, (s.onRegister f).logAt (.slot k) = some l → s.logAt (.slot k) = some l) : LogKept s (s.onRegister f) :=
  ⟨orders_from_same rfl, rfl, id, meter_from_same rfl, fun b => by cases b <;> rfl, fun b => by cases b <;> rfl, h⟩

theorem logAt_map {t : State} {x : RollPlace} {f : Roll → Roll} (hf : ∀ r, (f r).log = r.log) {p : Prop} [Decidable p]
    (ht : t.rollAt x = if p then (s.rollAt x).map f else s.rollAt x) : t.logAt x = s.logAt x := by
  rw [State.logAt, ht]
  split
  · rw [Option.map_map]
    exact congrArg (Option.map · _) (funext hf)
  · rfl

theorem logKept_onSlot (k : Nat) {f : Roll → Roll} (hf : ∀ r, (f r).log = r.log) : LogKept s (s.onSlot k f) :=
  logKept_onRegister s fun _ _ hl => (logAt_map s hf (rollAt_onSlot k f s _)).symm.trans hl

theorem logKept_slots {f : Roll → Roll} (hf : ∀ r, (f r).log = r.log) :
    LogKept s (s.onRegister fun v => mapVec (fun x => x.map f) v) :=
  logKept_onRegister s fun _ _ hl => (logAt_map s hf (rollAt_slots f s _)).symm.trans hl

theorem logKept_slotFree (k : Nat) : LogKept s (s.onRegister fun v => v.setIfInBounds k none) := by
  refine logKept_onRegister s fun j l hl => ?_
  rw [State.logAt, rollAt_setSlot] at hl
  split at hl
  · cases hl
  · exact hl

end

theorem LogKept.foldl {α : Type} {f : State → α → State} (h : ∀ s x, LogKept s (f s x)) (l : List α) (s : State) :
    LogKept s (l.foldl f s) := by
  induction l generalizing s with
  | nil => exact .refl s
  | cons x xs ih => exact (h s x).trans (ih _)

/-- What the operations on labels change leaves the logs. -/
theorem Relabelled.logKept {s t : State} (h : Relabelled s t) : LogKept s t := by
  obtain ⟨hrest, hrolls⟩ := h
  have hlog : ∀ r : Roll, r.unlabelled.log = r.log := fun r => by
    simp only [Roll.log, Roll.unlabelled, List.map_map]
    rfl
  refine ⟨orders_from_same (by rw [hrest]), by rw [hrest], by rw [hrest]; exact id, meter_from_same (by rw [hrest]),
    fun b => congrArg Back.state (back_of_film (by rw [hrest]) b), fun b => ?_, fun k l hl => ?_⟩
  · exact congrArg (fun x => Option.map Roll.log (Back.roll x)) (back_of_film (s := s) (by rw [hrest]) b)
  · have hslot := congrArg (Option.map Roll.log) (hrolls k)
    simp only [Option.map_map, Function.comp_def, hlog] at hslot
    exact hslot.symm.trans hl

end Sys2Proof.Machine
end

section
/-! SUPPORT. The operations that leave the film logs: orders and the stack, postings, labels, selections and settlements, the feeder, the
head and the turret, each once (R20, R125, R133 to R144, R150 to R159). -/

namespace Sys2Proof.Machine

/-! ## Roll records that keep their logs -/

theorem onGroup_log_same {r : Roll} {first : Nat} {f : Group → Group} (hf : ∀ g : Group, (f g).log = g.log) :
    (r.onGroup first f).log = r.log := by
  rw [onGroup_log (k := id) hf]
  simp [RollLog.regroup]

theorem onFramesOf_log {r : Roll} {first : Nat} {f : Frame → Frame} (hf : ∀ x, (f x).number = x.number ∧ (f x).group = x.group) :
    (r.onFramesOf first f).log = r.log := by
  simp only [Roll.log, Roll.onFramesOf, List.map_map, RollLog.mk.injEq, true_and]
  refine List.map_congr_left fun x _ => ?_
  simp only [Function.comp_apply]
  split
  · rw [(hf x).1, (hf x).2]
  · rfl

theorem discardGroup_log (r : Roll) (first : Nat) (outcome : GroupOutcome) : (r.discardGroup first outcome).log = r.log := by
  rw [Roll.discardGroup, onFramesOf_log, onGroup_log_same]
  · exact fun _ => rfl
  · exact fun _ => ⟨rfl, rfl⟩

theorem markCredited_numbers (f : Frame) : f.markCredited.number = f.number ∧ f.markCredited.group = f.group := by
  unfold Frame.markCredited
  split <;> exact ⟨rfl, rfl⟩

theorem keepStep_log (r : Roll) (first : Nat) (j : Int) : (r.keepStep first j).log = r.log := by
  rw [Roll.keepStep, onFramesOf_log, onGroup_log_same]
  · exact fun _ => rfl
  · exact fun _ => ⟨rfl, rfl⟩

theorem cancelOrder_log (r : Roll) (number : Nat) : (r.cancelOrder number).log = r.log := by
  unfold Roll.cancelOrder
  generalize List.filter _ _ = l
  induction l generalizing r with
  | nil => rfl
  | cons g gs ih => exact (ih _).trans (discardGroup_log r _ _)

/-! ## Orders and the stack -/

theorem logKept_queueNotices (ns : List Notice) (s : State) : LogKept s (queueNotices ns s) := .foldl (fun s n => logKept_notice s n) ns s

theorem logKept_setOrderState (number : Nat) (st : OrderState) (former : Option FormerState) (s : State) :
    LogKept s (setOrderState number st former s) := by
  unfold setOrderState
  split
  · exact .refl s
  · have h1 : LogKept s (s.onOrder number fun o => { o with state := st, former := former }) := logKept_onOrder s number fun _ => rfl
    simp only
    split
    · exact h1
    · exact h1.trans (logKept_notice _ _)

theorem logKept_promoteTop (s : State) : LogKept s (promoteTop s) := by
  unfold promoteTop
  split
  · exact .refl s
  · split
    · exact .refl s
    · split
      · exact logKept_onOrder s _ (by exact fun _ => rfl)
      · exact logKept_setOrderState _ _ _ s

theorem logKept_stack (f : WorkList → List Nat) (s : State) : LogKept s (s.onWork fun w => { w with stack := f w }) :=
  logKept_onWork s fun o ho => ⟨o, ho, rfl⟩

theorem logKept_removeFromStack (number : Nat) (s : State) : LogKept s (removeFromStack number s) := by
  unfold removeFromStack
  split
  · exact (logKept_stack _ s).trans (logKept_promoteTop _)
  · exact .refl s

theorem logKept_holdWith (number : Nat) (r : HoldReason) (s : State) : LogKept s (holdWith number r s) :=
  (logKept_setOrderState _ _ _ s).trans (logKept_removeFromStack _ _)

theorem logKept_releaseOne (number : Nat) (s : State) : LogKept s (releaseOne number s) := by
  unfold releaseOne
  split
  · exact .refl s
  · exact logKept_setOrderState _ _ _ s

theorem logKept_releaseWhere (test : Order → Bool) (s : State) : LogKept s (releaseWhere test s) :=
  .foldl (fun s k => logKept_releaseOne k s) _ s

theorem logKept_releaseCeiling (s : State) : LogKept s (releaseCeiling s) := logKept_releaseWhere _ s
theorem logKept_releaseFilm (k : Nat) (s : State) : LogKept s (releaseFilm k s) := logKept_releaseWhere _ s
theorem logKept_releaseOriginal (s : State) : LogKept s (releaseOriginal s) := logKept_releaseWhere _ s

theorem logKept_onSlide (number index : Nat) (f : Slide → Slide) (s : State) : LogKept s (onSlide number index f s) :=
  logKept_onOrder s number fun _ => rfl

theorem logKept_freeOrder (number : Nat) (s : State) : LogKept s (freeOrder number s) :=
  logKept_onWork s fun o ho => ⟨o, (List.mem_filter.1 ho).1, rfl⟩

theorem logKept_finish (number : Nat) (n : Notice) (s : State) :
    LogKept s (queueNotice n (freeOrder number (removeFromStack number s))) :=
  ((logKept_removeFromStack number s).trans (logKept_freeOrder number _)).trans (logKept_notice _ n)

theorem logKept_takeOutcomeChange (number : Nat) (s : State) : LogKept s (takeOutcomeChange number s) := by
  unfold takeOutcomeChange
  split
  · exact .refl s
  · split
    · exact logKept_finish number _ s
    · split
      · exact logKept_setOrderState _ _ _ s
      · exact .refl s

theorem logKept_emptyStack (s : State) : LogKept s (emptyStack s) :=
  (logKept_stack (fun _ => []) s).trans (.foldl (fun s k => logKept_releaseOne k s) _ _)

theorem logKept_popDone (n : Nat) (s : State) : LogKept s (popDone n s) := by
  induction n generalizing s with
  | zero => exact .refl s
  | succ n ih =>
    unfold popDone
    split
    · exact .refl s
    · split
      · exact .refl s
      · split
        · exact ((logKept_setOrderState _ _ _ s).trans (logKept_removeFromStack _ _)).trans (ih _)
        · exact .refl s

theorem logKept_preempt (number : Nat) (s : State) : LogKept s (preempt number s) := by
  unfold preempt
  split
  · exact .refl s
  · split
    · exact logKept_onOrder s _ (by exact fun _ => rfl)
    · exact logKept_setOrderState _ _ _ s

theorem logKept_pushCandidate (s : State) : LogKept s (pushCandidate s) := by
  unfold pushCandidate
  split
  · exact .refl s
  · split
    · unfold push
      have h1 := fun number => (logKept_stack (fun w => number :: w.stack) s).trans (logKept_setOrderState number .active none _)
      simp only
      split
      · exact h1 _
      · exact (h1 _).trans (logKept_preempt _ _)
    · exact .refl s

/-! ## Postings -/

theorem logKept_post (kind : PostKind) (account : Nat) (stock : Option Nat) (amount : Int) (s : State) :
    LogKept s (post kind account stock amount s) := by
  have h1 := fun (f : Tally → Tally) ns => (logKept_onTally s f).trans (logKept_queueNotices ns _)
  unfold post
  simp only
  split
  · exact (h1 _ _).trans (logKept_releaseCeiling _)
  · exact h1 _ _

theorem logKept_creditFrames (stock : Nat) (fs : List Frame) (s : State) : LogKept s (creditFrames stock fs s) := by
  induction fs generalizing s with
  | nil => exact .refl s
  | cons f fs ih =>
    unfold creditFrames
    split
    · exact (logKept_post _ _ _ _ s).trans (ih _)
    · exact ih s

/-! ## Labels -/

theorem logKept_setLabelState (k : LabelKey) (st : LabelState) (s : State) : LogKept s (setLabelState k st s) :=
  (relabelled_setLabelState k st s).logKept

theorem logKept_fillQueue (s : State) : LogKept s (fillQueue s) := (relabelled_fillBy _ s).logKept

theorem logKept_makeLabel (rec : LabelRecord) (s : State) : LogKept s (makeLabel rec s) :=
  (logKept_onLabels s _).trans (relabelled_makeLabel rec s).logKept

theorem logKept_transmit (k : LabelKey) (s : State) : LogKept s (transmit k s) := logKept_onLabels s _

theorem logKept_sendIfIdle (s : State) : LogKept s (sendIfIdle s) := by
  unfold sendIfIdle
  split
  · exact logKept_transmit _ s
  · exact .refl s

theorem logKept_printerEnd (before s : State) : LogKept s (printerEnd before s) := by
  unfold printerEnd
  split
  · exact logKept_notice s _
  · exact .refl s

theorem logKept_printEnd (before s : State) : LogKept s (printEnd before s) :=
  (logKept_sendIfIdle s).trans (logKept_printerEnd before _)

theorem logKept_resumeLine (s : State) : LogKept s (resumeLine s) := by
  unfold resumeLine
  split
  · exact logKept_transmit _ s
  · exact logKept_onLabels s _

theorem logKept_printEffect (n : Nat) (s : State) : LogKept s (printEffect n s) := by
  unfold printEffect
  simp only
  split
  · exact (logKept_onLabels s _).trans (logKept_resumeLine _)
  · exact logKept_onLabels s _

theorem logKept_postMount (k : LabelKey) (s : State) : LogKept s (postMount k s) := by
  unfold postMount
  split
  · exact logKept_post _ _ _ _ s
  · exact .refl s

theorem logKept_completeHead (k : LabelKey) (s : State) : LogKept s (completeHead k s) :=
  ((((logKept_onLabels s _).trans (logKept_setLabelState k .printed _)).trans (logKept_postMount k _)).trans
    (logKept_onLabels _ _)).trans (logKept_fillQueue _)

theorem logKept_closeRoll (slot : Nat) (cause : CloseCause) (s : State) : LogKept s (closeRoll slot cause s) := by
  unfold closeRoll
  split
  · exact .refl s
  · exact ((logKept_notice s _).trans (logKept_slotFree _ slot)).trans (logKept_onLabels _ _)

theorem logKept_closeTest (roll : Nat) (s : State) : LogKept s (closeTest roll s) := by
  unfold closeTest
  split
  · exact .refl s
  · split
    · split
      · exact logKept_closeRoll _ _ s
      · exact .refl s
    · exact .refl s

theorem logKept_stopTokenEvent (token : Token) (reason : StopReason) (s : State) : LogKept s (stopTokenEvent token reason s) := by
  unfold stopTokenEvent
  split
  · exact ((logKept_onLabels s _).trans (logKept_onLabels _ _)).trans (logKept_printEnd s _)
  · exact .refl s

theorem logKept_printedEvent (s : State) : LogKept s (printedEvent s) := by
  unfold printedEvent
  split
  · exact .refl s
  · rename_i k _
    have h1 := fun f => ((logKept_completeHead k s).trans (logKept_onLabels _ f)).trans (logKept_closeTest k.roll _)
    split
    · exact (h1 _).trans (logKept_printEnd s _)
    · split
      · exact (h1 _).trans (logKept_printEnd s _)
      · exact .refl s

theorem logKept_formatErrorEvent (s : State) : LogKept s (formatErrorEvent s) := by
  unfold formatErrorEvent
  split
  · exact .refl s
  · split
    · exact (((((logKept_onLabels s _).trans (logKept_setLabelState _ _ _)).trans (logKept_fillQueue _)).trans
        (logKept_onLabels _ _)).trans (logKept_closeTest _ _)).trans (logKept_printEnd s _)
    · exact .refl s

theorem logKept_tokenEvent (token : Token) (s : State) : LogKept s (tokenEvent token s) := by
  cases token with
  | printed => exact logKept_printedEvent s
  | jammed => exact logKept_stopTokenEvent _ _ s
  | outOfLabels => exact logKept_stopTokenEvent _ _ s
  | formatError => exact logKept_formatErrorEvent s

theorem logKept_printerByteEvent (x : Byte) (s : State) : LogKept s (printerByteEvent x s) := by
  unfold printerByteEvent
  split
  · exact logKept_tokenEvent _ s
  · exact .refl s

theorem logKept_tokenTimeoutEvent (s : State) : LogKept s (tokenTimeoutEvent s) := by
  unfold tokenTimeoutEvent
  split
  · exact ((logKept_onLabels s _).trans (logKept_onLabels _ _)).trans (logKept_printEnd s _)
  · exact .refl s

/-! ## Selections, settlements and a cancel -/

theorem logKept_applyEntry (slot : Nat) (e : SelectReq) (s : State) : LogKept s (applyEntry slot e s).1 := by
  have htake : ∀ (t : State) (g : Group) (f : Slide → Slide),
      LogKept t (takeOutcomeChange g.order (onSlide g.order g.slide f t)) := fun t g f =>
    (logKept_onSlide _ _ _ t).trans (logKept_takeOutcomeChange _ _)
  have hdiscard : ∀ (g : Group) (outcome : GroupOutcome), LogKept s (s.onSlot slot fun r => r.discardGroup g.first outcome) :=
    fun g outcome => logKept_onSlot s slot fun r => discardGroup_log r _ _
  have hrejected : ∀ (g : Group) (d : Bool), LogKept s (applyRejectExposure slot g d s).1 := fun g d =>
    ((hdiscard g _).trans (logKept_onProfiles _ _)).trans (htake _ g _)
  unfold applyEntry
  split
  · exact .refl s
  · split
    · exact .refl s
    · split
      · exact .refl s
      · split
        · exact .refl s
        · split
          · split
            · exact .refl s
            · refine LogKept.trans ?_ (htake _ _ _)
              refine LogKept.trans ?_ (logKept_onProfiles _ _)
              have hkeep := logKept_onSlot s slot fun r => keepStep_log r (Group.first ‹Group›) e.step
              split
              · exact hkeep.trans (logKept_makeLabel _ _)
              · exact hkeep
          · exact hrejected _ _
          · exact hrejected _ _
          · exact (hdiscard _ _).trans (htake _ _ _)

theorem logKept_settleGroups (d slot : Nat) (s : State) : LogKept s (settleGroups d slot s) := by
  have htake : ∀ (t : State) (g : Group) (f : Slide → Slide),
      LogKept t (takeOutcomeChange g.order (onSlide g.order g.slide f t)) := fun t g f =>
    (logKept_onSlide _ _ _ t).trans (logKept_takeOutcomeChange _ _)
  refine LogKept.foldl (fun s g => ?_) _ s
  split
  · unfold settleLost
    split
    · exact .refl s
    · refine LogKept.trans ?_ (htake _ g _)
      refine (logKept_onSlot s slot fun r => ?_).trans (logKept_creditFrames _ _ _)
      exact (onFramesOf_log markCredited_numbers).trans (discardGroup_log r _ _)
  · exact (logKept_onSlot s slot fun r => discardGroup_log r _ _).trans (htake _ g _)

theorem logKept_cancelEffect (number : Nat) (s : State) : LogKept s (cancelEffect number s) := by
  unfold cancelEffect
  refine LogKept.trans ?_ (.foldl (fun s k => logKept_closeTest k s) _ _)
  refine LogKept.trans ?_ (logKept_finish number _ _)
  exact ((logKept_onBackRoll s .backA fun r => cancelOrder_log r number).trans
    (logKept_onBackRoll _ .backB fun r => cancelOrder_log r number)).trans (logKept_slots _ fun r => cancelOrder_log r number)

/-! ## The feeder, the head and the stand -/

theorem logKept_askReturn (p : Nat) (s : State) : LogKept s (askReturn p s) := by
  unfold askReturn
  split <;> exact logKept_onFeeder s _

theorem logKept_freePosition (c : Cycle) (s : State) : LogKept s (freePosition c s) := by
  obtain ⟨busy, h⟩ := freePosition_eq c s
  rw [h]
  exact .of_same rfl rfl rfl rfl rfl

theorem logKept_homeSenseEvent (s : State) : LogKept s (homeSenseEvent s) := by
  unfold homeSenseEvent
  split
  · exact logKept_onFeeder s _
  · split
    · exact logKept_onFeeder s _
    · exact .refl s
  · exact .refl s

theorem logKept_stopIdle (s : State) : LogKept s (stopIdle s) := logKept_onHead_same s rfl
theorem logKept_startIdle (s : State) : LogKept s (startIdle s) := logKept_onHead_same s rfl
theorem logKept_lampOff (s : State) : LogKept s (lampOff s) := logKept_onHead_same s (by split <;> rfl)
theorem logKept_lampLight (s : State) : LogKept s (lampLight s) := logKept_onHead_same s (by split <;> rfl)

theorem logKept_idleExpiryEvent (s : State) : LogKept s (idleExpiryEvent s) := by
  unfold idleExpiryEvent
  split
  · exact (logKept_lampOff s).trans (logKept_stopIdle _)
  · exact .refl s

theorem logKept_askNd (target : Nat) (ofCycle : Bool) (s : State) : LogKept s (askNd target ofCycle s) := by
  unfold askNd
  split <;> exact logKept_onHead_same s rfl

theorem logKept_askStepNd (s : State) : LogKept s (askStepNd s) := by
  unfold askStepNd
  split
  · exact .refl s
  · split
    · exact .refl s
    · exact logKept_askNd _ _ s

theorem logKept_startWaitingNd (s : State) : LogKept s (startWaitingNd s) := by
  unfold startWaitingNd
  split
  · exact (logKept_onHead_same s rfl).trans (logKept_onHead_same _ rfl)
  · exact .refl s

theorem logKept_ndCompleteEvent (s : State) : LogKept s (ndCompleteEvent s) := by
  unfold ndCompleteEvent
  split
  · exact .refl s
  · exact logKept_onHead_same s rfl

theorem logKept_setStandMode (m : StandMode) (s : State) : LogKept s (setStandMode m s) := by
  unfold setStandMode
  simp only
  split
  · exact logKept_onStand s rfl id
  · exact (logKept_onStand s rfl id).trans (logKept_onHead_same _ rfl)

theorem logKept_setModeIf (m : Option StandMode) (s : State) : LogKept s (setModeIf m s) := by
  unfold setModeIf
  split
  · exact logKept_setStandMode _ s
  · exact .refl s

theorem logKept_standAfterCycle (s : State) : LogKept s (standAfterCycle s) := by
  unfold standAfterCycle
  split
  · exact (logKept_setStandMode _ s).trans (logKept_lampOff _)
  · exact logKept_startIdle s
  · exact .refl s

theorem logKept_stopEffect (s : State) : LogKept s (stopEffect s) := by
  unfold stopEffect
  split
  · split
    · exact logKept_setStandMode _ s
    · exact (logKept_setStandMode _ s).trans (logKept_lampOff _)
  · exact .refl s
  · exact logKept_lampOff s
  · exact .refl s

theorem logKept_standEnd (before s : State) : LogKept s (standEnd before s) := by
  unfold standEnd
  split
  · exact .refl s
  · exact logKept_notice s _

theorem logKept_ticksEndEvent (s : State) : LogKept s (ticksEndEvent s) :=
  logKept_onStand s rfl fun h => by simpa using h

/-! ## The backs' operations and the turret -/

theorem logKept_startAdvance (b : BackId) (cause : AdvanceCause) (ofCycle : Bool) (s : State) :
    LogKept s (startAdvance b cause ofCycle s) := logKept_onBack s b rfl rfl

theorem logKept_askAdvance (b : BackId) (cause : AdvanceCause) (ofCycle : Bool) (s : State) :
    LogKept s (askAdvance b cause ofCycle s) := by
  unfold askAdvance
  split
  · exact logKept_startAdvance _ _ _ s
  · exact logKept_onBack s b rfl rfl

theorem logKept_startOwed (b : BackId) (s : State) : LogKept s (startOwed b s) := by
  unfold startOwed
  split
  · exact (logKept_startAdvance b _ _ s).trans (logKept_onBack _ b rfl rfl)
  · exact .refl s

theorem logKept_startWaitingAdvance (b : BackId) (s : State) : LogKept s (startWaitingAdvance b s) := by
  unfold startWaitingAdvance
  split
  · exact .refl s
  · split
    · exact logKept_startOwed b s
    · split
      · exact (logKept_onBack s b rfl rfl).trans (logKept_startAdvance b _ _ _)
      · exact .refl s

theorem logKept_beginSwap (target : BackId) (ofCycle : Bool) (s : State) : LogKept s (beginSwap target ofCycle s) := by
  unfold beginSwap
  split
  · exact .refl s
  · exact logKept_onFilm s rfl rfl

theorem logKept_askSwap (target : BackId) (ofCycle : Bool) (s : State) : LogKept s (askSwap target ofCycle s) := by
  unfold askSwap
  split
  · exact logKept_beginSwap _ _ s
  · exact logKept_onFilm s rfl rfl

theorem logKept_startWaitingSwap (s : State) : LogKept s (startWaitingSwap s) := by
  unfold startWaitingSwap
  split
  · split
    · exact (logKept_onFilm s rfl rfl).trans (logKept_beginSwap _ _ _)
    · exact .refl s
  · exact .refl s

theorem logKept_swapCompleteEvent (s : State) : LogKept s (swapCompleteEvent s) := by
  unfold swapCompleteEvent
  split
  · exact .refl s
  · exact logKept_onFilm s rfl rfl

theorem logKept_askTurretAndLamp (b : BackId) (s : State) : LogKept s (askTurretAndLamp b s) := by
  unfold askTurretAndLamp
  split
  · exact .refl s
  · split
    · exact .refl s
    · refine LogKept.trans ?_ (logKept_lampLight _)
      split
      · exact .refl s
      · exact logKept_askSwap _ _ s

/-- The operations of a cycle are withdrawn or made those of no cycle; its METER with them (R124, step 1). -/
theorem logKept_releaseOps (s : State) : LogKept s (releaseOps s) := by
  unfold releaseOps
  simp only
  refine LogKept.trans ?_ (logKept_onBack _ .backB rfl rfl)
  refine LogKept.trans ?_ (logKept_onBack _ .backA rfl rfl)
  refine LogKept.trans ?_ (logKept_onFilm _ rfl rfl)
  refine (logKept_onFeeder s _).trans (logKept_onHead _ fun m hm hc => ?_)
  obtain ⟨k, -, rfl⟩ := Option.map_eq_some_iff.1 hm
  cases hc

theorem logKept_resetOps (s : State) : LogKept s (resetOps s) := by
  unfold resetOps
  refine LogKept.trans ?_ (logKept_onFilm _ rfl rfl)
  refine (logKept_onFeeder s _).trans (logKept_onHead _ fun m hm hc => ?_)
  obtain ⟨k, -, rfl⟩ := Option.map_eq_some_iff.1 hm
  cases hc

/-! ## The report of a cycle's end -/

theorem logKept_takeMarks (number : Nat) (s : State) : LogKept s (takeMarks number s) := by
  unfold takeMarks
  split
  · exact .refl s
  · split
    · exact logKept_cancelEffect _ s
    · split
      · exact (logKept_onOrder s _ (by exact fun _ => rfl)).trans (logKept_holdWith _ _ _)
      · split
        · unfold returnFilling
          split <;> exact logKept_setOrderState _ _ _ s
        · exact .refl s

theorem logKept_takeReport (c : Cycle) (complete : Bool) (s : State) : LogKept s (takeReport c complete s) := by
  unfold takeReport
  refine LogKept.trans ?_ (logKept_takeMarks _ _)
  split
  · exact logKept_onSlide _ _ _ s
  · exact .refl s

end Sys2Proof.Machine
end

section
/-! SUPPORT. The film logs through the changes of the cycle record: its end, the abort with its SPOILT frame and settled group
(R90, R122 to R126). -/

namespace Sys2Proof.Machine

/-! ## A closed shutter -/

theorem FilmSafe.of_closed {s : State} (h : FilmLogs s) (he : s.stand.expose = none) : FilmSafe s :=
  ⟨h, fun hsome => by rw [he] at hsome; cases hsome⟩

/-- The shutter is closed where no EXPOSING cycle is in flight. -/
theorem FilmLogs.closed {s : State} (h : FilmLogs s) (hphase : ∀ c, s.stand.cycle = some c → c.phase ≠ .exposing) :
    s.stand.expose = none := by
  refine Option.not_isSome_iff_eq_none.1 fun he => ?_
  obtain ⟨c, l, hc, hexposing, -⟩ := h.expose he
  exact hphase c hc hexposing

theorem FilmLogs.safe {s : State} (h : FilmLogs s) (hphase : ∀ c, s.stand.cycle = some c → c.phase ≠ .exposing) : FilmSafe s :=
  .of_closed h (h.closed hphase)

theorem FilmLogs.safe_of_none {s : State} (h : FilmLogs s) (hc : s.stand.cycle = none) : FilmSafe s :=
  h.safe fun c hcycle => by
    rw [hc] at hcycle
    cases hcycle

/-- The phase of the cycle in flight is told of every cycle in flight. -/
theorem FilmLogs.safe_of_cycle {s : State} (h : FilmLogs s) {c : Cycle} (hc : s.stand.cycle = some c) (hphase : c.phase ≠ .exposing) :
    FilmSafe s :=
  h.safe fun d hd => by
    obtain rfl : c = d := Option.some.inj (hc.symm.trans hd)
    exact hphase

theorem FilmLogs.phase_of_aborted {s : State} (h : FilmLogs s) {c : Cycle} {x : AbortCause} (hc : s.stand.cycle = some c)
    (hx : c.cause = some x) : c.phase = .ending := (h.cycle c hc).cause.1 (by rw [hx]; nofun)

/-- With the cycle not EXPOSING a group at the next frame number is INCOMPLETE. -/
theorem FilmLogs.stale {s : State} (h : FilmLogs s) (hphase : ∀ c, s.stand.cycle = some c → c.phase ≠ .exposing) {x : RollPlace}
    {l : RollLog} (hl : s.logAt x = some l) : ∀ g ∈ l.groups, g.first = l.next → g.completeness = .incomplete := fun g hg hnext => by
  refine (h.fresh x l hl g hg hnext).resolve_right ?_
  rintro ⟨c, hc, -, hexposing, -⟩
  exact hphase c hc hexposing

/-! ## A cycle record that comes, changes or goes on the same logs -/

/-- The cycle record changes, and the logs do not: before it no cycle is EXPOSING. -/
theorem FilmLogs.recycled {s t : State} (hs : FilmLogs s) (hphase : ∀ c, s.stand.cycle = some c → c.phase ≠ .exposing)
    (horders : ∀ o ∈ t.work.orders, ∃ p ∈ s.work.orders, p.n = o.n) (hexpose : t.stand.expose = none)
    (hmeter : ∀ m, t.head.meter = some m → m.ofCycle = true → ∃ c, t.stand.cycle = some c ∧ c.phase = .metering)
    (hlogs : ∀ x l, t.logAt x = some l → s.logAt x = some l) (hcycle : ∀ c, t.stand.cycle = some c → CycleLog t c) : FilmSafe t := by
  refine .of_closed ⟨fun x l hl => hs.logs x l (hlogs x l hl), fun o ho => ?_, hcycle, fun he => ?_, hmeter,
    fun x l hl g hg hnext => .inl (hs.stale hphase (hlogs x l hl) g hg hnext)⟩ hexpose
  · obtain ⟨p, hp, hn⟩ := horders o ho
    exact hn ▸ hs.brackets p hp
  · rw [hexpose] at he
    cases he

/-! ## A cycle record and the log of its back changed together -/

/-- What the operations of a cycle keep of the film, but for the cycle record, which they change by `f`, and the log of the cycle's
back. -/
structure LogMoved (b : BackId) (f : Cycle → Cycle) (s t : State) : Prop where
  orders : ∀ o ∈ t.work.orders, ∃ p ∈ s.work.orders, p.n = o.n
  cycle : t.stand.cycle = s.stand.cycle.map f
  meter : ∀ m, t.head.meter = some m → m.ofCycle = true → ∃ k, s.head.meter = some k ∧ k.ofCycle = true
  state : ∀ b, (t.back b).state = (s.back b).state
  others : ∀ x, x ≠ .back b → ∀ l, t.logAt x = some l → s.logAt x = some l

theorem LogKept.moved {s t : State} (h : LogKept s t) (b : BackId) : LogMoved b id s t :=
  ⟨h.orders, by rw [h.cycle, Option.map_id_fun, id], h.meter, h.state, fun x _ l hl => h.logAt x l hl⟩

theorem LogMoved.trans {b : BackId} {f g : Cycle → Cycle} {s t u : State} (h : LogMoved b f s t) (k : LogMoved b g t u) :
    LogMoved b (g ∘ f) s u := by
  refine ⟨fun o ho => ?_, by rw [k.cycle, h.cycle, Option.map_map], fun m hm hc => ?_, fun b => (k.state b).trans (h.state b),
    fun x hx l hl => h.others x hx l (k.others x hx l hl)⟩
  · obtain ⟨p, hp, hn⟩ := k.orders o ho
    obtain ⟨q, hq, hqn⟩ := h.orders p hp
    exact ⟨q, hq, hqn.trans hn⟩
  · obtain ⟨m', hm', hc'⟩ := k.meter m hm hc
    exact h.meter m' hm' hc'

theorem logMoved_onCycle (b : BackId) (f : Cycle → Cycle) (s : State) : LogMoved b f s (onCycle f s) :=
  ⟨orders_from_same rfl, rfl, meter_from_same rfl, fun _ => rfl, fun _ _ _ hl => hl⟩

theorem logMoved_onBack (b : BackId) {f : Back → Back} (s : State) (hstate : (f (s.back b)).state = (s.back b).state) :
    LogMoved b id s (s.onBack b f) := by
  refine ⟨orders_from_same rfl, (Option.map_id_apply ..).symm, meter_from_same rfl, fun c => ?_, fun x hx l hl => ?_⟩
  · by_cases hc : c = b
    · rw [hc, onBack_same, hstate]
    · rw [onBack_other _ _ _ _ hc]
  · rwa [logAt_onBack, if_neg hx] at hl

theorem logMoved_onBackRoll (b : BackId) (f : Roll → Roll) (s : State) : LogMoved b id s (s.onBackRoll b f) :=
  logMoved_onBack b s rfl

/-- The film is sound after a move of the cycle in flight that leaves the shutter closed. -/
theorem FilmLogs.moved {s t : State} {c : Cycle} {f : Cycle → Cycle} {k : RollLog} (hs : FilmLogs s) (hc : s.stand.cycle = some c)
    (h : LogMoved c.back f s t) (hsame : (f c).back = c.back ∧ (f c).n = c.n) (hk : t.logAt (.back c.back) = some k) (hsound : k.Sound)
    (hcause : (f c).cause ≠ none ↔ (f c).phase = .ending)
    (hgroup : ((f c).phase = .loading ∨ (f c).phase = .metering → (f c).groupFirst = none) ∧ ∀ first ∈ (f c).groupFirst, first ≤ k.next)
    (hexpose : t.stand.expose = none) (hmeter : ∀ m, t.head.meter = some m → m.ofCycle = true → (f c).phase = .metering)
    (hfresh : ∀ g ∈ k.groups, g.first = k.next → g.completeness = .incomplete ∨ g.openOf (f c)) : FilmSafe t := by
  obtain ⟨hback, hn⟩ := hsame
  have hcycle : t.stand.cycle = some (f c) := by rw [h.cycle, hc, Option.map_some]
  have hold := hs.cycle c hc
  refine .of_closed ⟨fun x l hl => ?_, fun o ho => ?_, fun d hd => ?_, fun he => ?_,
    fun m hm hmc => ⟨f c, hcycle, hmeter m hm hmc⟩, fun x l hl g hg hnext => ?_⟩ hexpose
  · by_cases hx : x = .back c.back
    · rw [hx, hk] at hl
      exact Option.some.inj hl ▸ hsound
    · exact hs.logs x l (h.others x hx l hl)
  · obtain ⟨p, hp, hpn⟩ := h.orders o ho
    exact hpn ▸ hs.brackets p hp
  · obtain rfl : f c = d := Option.some.inj (hcycle.symm.trans hd)
    refine ⟨hn ▸ hold.bracket, hcause, hgroup.1, ?_, k, ?_, hgroup.2⟩
    · rw [hback, h.state]
      exact hold.state
    · rw [hback]
      exact hk
  · rw [hexpose] at he
    cases he
  · by_cases hx : x = .back c.back
    · rw [hx, hk] at hl
      obtain rfl := Option.some.inj hl
      exact (hfresh g hg hnext).imp_right fun hopen => ⟨f c, hcycle, by rw [hx, hback], hopen⟩
    · refine .inl ((hs.fresh x l (h.others x hx l hl) g hg hnext).resolve_right ?_)
      rintro ⟨d, hd, hplace, -⟩
      obtain rfl : c = d := Option.some.inj (hc.symm.trans hd)
      exact hx hplace

/-! ## The end of a cycle -/

/-- A cycle past its last exposure or aborted ends. -/
theorem endCycle_safe {s : State} (hs : FilmLogs s) (hphase : ∀ c, s.stand.cycle = some c → c.phase ≠ .exposing ∧ c.phase ≠ .metering) :
    FilmSafe (endCycle s) := by
  have hclosed : ∀ c, s.stand.cycle = some c → c.phase ≠ .exposing := fun c hc => (hphase c hc).1
  cases hc : s.stand.cycle with
  | none =>
    rw [endCycle, hc]
    exact hs.safe hclosed
  | some c =>
    rw [endCycle_eq hc]
    refine FilmSafe.kept ?_ ((logKept_takeReport c _ _).trans (logKept_standAfterCycle _))
    have hkept : LogKept ((queueNotice (slideFinishedNotice s c) s).onStand fun t => { t with cycle := none }) (released c s) :=
      logKept_freePosition c _
    refine FilmSafe.kept ?_ hkept
    refine hs.recycled hclosed (orders_from_same rfl) (hs.closed hclosed) (fun m hm hmc => ?_) (fun _ _ hl => hl) fun d hd => ?_
    · obtain ⟨d, hd, hmetering⟩ := hs.meter m hm hmc
      exact absurd hmetering (hphase d hd).2
    · cases hd

theorem tryEndAborted_safe {s : State} (hs : FilmSafe s) : FilmSafe (tryEndAborted s) := by
  unfold tryEndAborted
  cases hc : s.stand.cycle with
  | none => exact hs
  | some c =>
    have hend : c.cause ≠ none → FilmSafe (endCycle s) := fun hx => by
      have hending : c.phase = .ending := (hs.cycle c hc).cause.1 hx
      refine endCycle_safe hs.toFilmLogs fun d hd => ?_
      obtain rfl : c = d := Option.some.inj (hc.symm.trans hd)
      rw [hending]
      exact ⟨nofun, nofun⟩
    cases hx : c.cause with
    | none => simpa [hx] using hs
    | some cause =>
      have hend := hend (by rw [hx]; nofun)
      simp only [hx]
      split
      · exact hs
      · exact hend
      · split
        · exact hs
        · split
          · exact hs.kept (logKept_askReturn _ s)
          · exact hend

theorem tryEndNormal_safe {s : State} (hs : FilmSafe s) : FilmSafe (tryEndNormal s) := by
  unfold tryEndNormal
  split
  · exact hs
  · rename_i c hc
    split
    · rename_i hfin
      refine endCycle_safe hs.toFilmLogs fun d hd => ?_
      obtain rfl : c = d := Option.some.inj (hc.symm.trans hd)
      rw [hfin.2.1]
      exact ⟨nofun, nofun⟩
    · exact hs

/-! ## The abort -/

/-- The log of the cycle's back once the shutter has been closed: with a SPOILT frame where an EXPOSE was in flight. -/
theorem spoilFrame_log {s : State} {c : Cycle} {l : RollLog} (hl : s.logAt (.back c.back) = some l) :
    ∃ k, (spoilFrame c s).logAt (.back c.back) = some k
      ∧ (k = l ∨ (s.stand.expose.isSome = true ∧ k = l.written (c.groupFirst.getD l.next))) := by
  have hback : ∀ (u : State) (r : Roll), (u.back c.back).roll = some r → u.logAt (.back c.back) = some r.log := fun u r hr => by
    change (u.back c.back).roll.map Roll.log = _
    rw [hr]
    rfl
  obtain ⟨r, hr, rfl⟩ := logAt_eq_some_iff.1 hl
  have hr : (s.back c.back).roll = some r := hr
  rcases spoilFrame_roll c s with hsame | ⟨p, q, hq, hmore⟩
  · exact ⟨r.log, hback _ r (hsame.trans hr), .inl rfl⟩
  · obtain rfl : r = q := Option.some.inj (hr.symm.trans hq)
    refine ⟨_, hback _ _ hmore, ?_⟩
    cases hex : s.stand.expose with
    | none =>
      have hsame : spoilFrame c s = s := by rw [spoilFrame, hex, if_neg nofun]
      rw [hsame, hr] at hmore
      exact .inl (congrArg Roll.log (Option.some.inj hmore)).symm
    | some e => exact .inr ⟨rfl, addFrame_log rfl⟩

theorem logMoved_spoilFrame (c : Cycle) (s : State) : LogMoved c.back id s (spoilFrame c s) := by
  rw [spoilFrame_eq]
  refine ((logKept_onStand s rfl (by exact nofun)).moved c.back).trans (logMoved_onBack c.back _ ?_)
  unfold Cycle.spoiltBack
  split
  · rfl
  · split <;> rfl

theorem abandoned_log (r : Roll) (first : Nat) : (r.abandoned first).log = r.log.abandoned first := by
  have hgroup : ∀ q : Roll, (q.onGroup first fun g => { g with completeness := .incomplete }).log = q.log.abandoned first :=
    fun q => onGroup_log fun _ => rfl
  rw [Roll.abandoned, onFramesOf_log markCredited_numbers, hgroup, discardGroup_log]

/-- The settling of the cycle's group, on the log of its back (R125). -/
theorem settleGroup_log {s : State} {c : Cycle} {l : RollLog} (hl : s.logAt (.back c.back) = some l) :
    (settleGroup c s).logAt (.back c.back) = some (l.settled c.groupFirst) := by
  obtain ⟨r, hr, rfl⟩ := logAt_eq_some_iff.1 hl
  have hr : (s.back c.back).roll = some r := hr
  have hgroup : (cycleGroup s c).map Group.log = c.groupFirst.bind r.log.group? := by
    rw [cycleGroup_of_roll hr]
    cases c.groupFirst with
    | none => rfl
    | some first => exact group?_log r first
  cases hg : cycleGroup s c with
  | none =>
    rw [hg, Option.map_none] at hgroup
    rw [settleGroup_of_full (by rw [hg]; exact nofun), RollLog.settled, ← hgroup]
    exact hl
  | some g =>
    rw [hg, Option.map_some] at hgroup
    by_cases hshort : g.exposed < g.n
    · rw [settleGroup_of_short hg hshort, (logKept_creditFrames c.stock (cycleFrames s c) _).backs, State.onBackRoll, logAt_onBack, if_pos rfl, hr,
        RollLog.settled, ← hgroup]
      change some (r.abandoned g.first).log = some (if g.exposed < g.n then r.log.abandoned g.first else r.log)
      rw [if_pos hshort, abandoned_log]
    · have hfull : ∀ k, cycleGroup s c = some k → ¬k.exposed < k.n := fun k hk => Option.some.inj (hg.symm.trans hk) ▸ hshort
      rw [settleGroup_of_full hfull, RollLog.settled, ← hgroup]
      change s.logAt (.back c.back) = some (if g.exposed < g.n then r.log.abandoned g.first else r.log)
      rw [if_neg hshort]
      exact hl

theorem logMoved_settleGroup (c : Cycle) (s : State) : LogMoved c.back id s (settleGroup c s) := by
  unfold settleGroup
  split
  · exact (LogKept.refl s).moved _
  · split
    · exact (logMoved_onBackRoll c.back _ s).trans ((logKept_creditFrames _ _ _).moved _)
    · exact (LogKept.refl s).moved _

/-- The record of a cycle as its abort leaves it. -/
def Cycle.abortedBy (cause : AbortCause) (c : Cycle) : Cycle := { c with cause := some cause, phase := .ending }

/-- After an abort every group at the next frame number of the cycle's roll is INCOMPLETE: its own group is settled, and no other group
of the roll is open there (R90, R125). -/
theorem FilmLogs.settled_stale {s : State} (hs : FilmLogs s) {c : Cycle} (hc : s.stand.cycle = some c) {l k : RollLog}
    (hl : s.logAt (.back c.back) = some l) (hk : k = l ∨ k = l.written (c.groupFirst.getD l.next)) (hsound : k.Sound) :
    ∀ g ∈ (k.settled c.groupFirst).groups, g.first = (k.settled c.groupFirst).next → g.completeness = .incomplete := by
  intro g hg hnext
  obtain ⟨q, hq, hfirst, hsettled⟩ := hsound.settled_incomplete hg
  rw [settled_next, ← hfirst] at hnext
  refine hsettled ?_
  rcases hk with rfl | rfl
  · refine (hs.fresh _ _ hl q hq hnext).imp_right ?_
    rintro ⟨d, hd, -, -, hgroup, -, hshort⟩
    obtain rfl : c = d := Option.some.inj (hc.symm.trans hd)
    exact ⟨hgroup, hshort⟩
  · exact absurd hnext ((hs.logs _ _ hl).written_passed _ q hq).ne

theorem aborting_moved (cause : AbortCause) (b : BackId) (s : State) : LogMoved b (Cycle.abortedBy cause) s (aborting cause s) :=
  (logMoved_onCycle b _ s).trans ((logKept_releaseOps _).moved b)

theorem settled_safe {s : State} (hs : FilmLogs s) {c : Cycle} (cause : AbortCause) (hc : s.stand.cycle = some c) :
    FilmSafe (settled c cause s) := by
  obtain ⟨-, -, -, -, l, hl, hfirst⟩ := hs.cycle c hc
  have hsound := hs.logs _ l hl
  have hkept : LogKept (onCycle (Cycle.abortedBy cause) s) (aborting cause s) := logKept_releaseOps _
  obtain ⟨k, hk, hkl⟩ := spoilFrame_log (s := aborting cause s) (c := c) ((hkept.backs c.back).trans hl)
  have hknext : l.next ≤ k.next := by
    rcases hkl with rfl | ⟨-, rfl⟩
    · exact Nat.le_refl _
    · exact Nat.le_succ _
  have hksound : k.Sound := by
    rcases hkl with rfl | ⟨hopen, rfl⟩
    · exact hsound
    · obtain ⟨d, m, hd, -, hm, hroom⟩ := hs.expose hopen
      obtain rfl : c = d := Option.some.inj (hc.symm.trans hd)
      obtain rfl : l = m := Option.some.inj (hl.symm.trans hm)
      refine hsound.written hroom ?_
      cases hg : c.groupFirst with
      | none => exact Nat.le_refl _
      | some first => exact hfirst first hg
  obtain ⟨hstand, -, hhead, -⟩ := settled_blocks c cause s
  have hmoved : LogMoved c.back (Cycle.abortedBy cause) s (settled c cause s) := by
    rw [settled_eq]
    exact ((aborting_moved cause c.back s).trans (logMoved_spoilFrame c _)).trans (logMoved_settleGroup c _)
  refine hs.moved hc hmoved ⟨rfl, rfl⟩ (settleGroup_log hk) (hksound.settled _) ⟨fun _ => rfl, nofun⟩ ⟨nofun, fun first hf => ?_⟩
    (by rw [hstand]; rfl) (fun m hm hmc => ?_) fun g hg hnext => .inl (hs.settled_stale hc hl (hkl.imp_right And.right) hksound g hg hnext)
  · rw [settled_next]
    exact (hfirst first hf).trans hknext
  · rw [hhead] at hm
    obtain ⟨q, -, rfl⟩ := Option.map_eq_some_iff.1 hm
    cases hmc

theorem abortCycle_safe {s : State} (hs : FilmLogs s) (cause : AbortCause) (mode : Option StandMode) :
    FilmSafe (abortCycle cause mode s) := by
  cases hc : s.stand.cycle with
  | none =>
    rw [abortCycle, hc]
    exact (hs.safe_of_none hc).kept (logKept_setModeIf mode s)
  | some c =>
    cases hx : c.cause with
    | none =>
      rw [abortCycle_eq hc hx]
      exact (settled_safe hs cause hc).kept (logKept_setModeIf mode _)
    | some x =>
      rw [abortCycle_of_aborted cause mode hc hx]
      exact (hs.safe_of_cycle hc (by rw [hs.phase_of_aborted hc hx]; decide)).kept (logKept_setModeIf mode s)

/-- An abort closes the shutter, so it needs no READY back. -/
theorem abort_safe {s : State} (hs : FilmLogs s) (cause : AbortCause) (mode : Option StandMode) : FilmSafe (abort cause mode s) :=
  tryEndAborted_safe (abortCycle_safe hs cause mode)

theorem haltReport_safe {s : State} (hs : FilmSafe s) (reason : HaltReason) (stale : Bool) : FilmSafe (haltReport reason stale s) := by
  unfold haltReport
  split
  · exact hs
  · split
    · exact abort_safe hs.toFilmLogs _ _
    · exact abort_safe hs.toFilmLogs _ _
    · exact hs
    · exact hs

/-- The failure of a back: where it is the cycle's, the cycle ends or is aborted. -/
theorem backFailed_safe {s : State} {b : BackId} (hs : FilmLogs s)
    (hready : s.stand.expose.isSome = true → ∀ c, s.stand.cycle = some c → c.back ≠ b → (s.back c.back).state = .ready)
    (cause : AbortCause) : FilmSafe (backFailed b cause s) := by
  unfold backFailed
  split
  · rename_i hc
    exact hs.safe_of_none hc
  · rename_i c hc
    split
    · split
      · rename_i hfin
        exact tryEndNormal_safe (hs.safe_of_cycle hc (by rw [hfin]; decide))
      · exact abort_safe hs cause none
    · rename_i hother
      by_cases hback : c.back = b
      · have hx : c.cause ≠ none := fun hx => hother ⟨hback, hx⟩
        exact hs.safe_of_cycle hc (by rw [(hs.cycle c hc).cause.1 hx]; decide)
      · refine ⟨hs, fun he d hd => ?_⟩
        obtain rfl : c = d := Option.some.inj (hc.symm.trans hd)
        exact hready he c hc hback

end Sys2Proof.Machine
end

section
/-! SUPPORT. The film logs through the plan of a cycle, its exposures, and the events of the feeder, the light head, the film and the
shutter (R90, R95 to R99, R119 to R121). -/

namespace Sys2Proof.Machine

/-! ## The plan -/

/-- The group opened at the next frame number is the open one of the EXPOSING cycle (R90, R119). -/
theorem takePlan_safe {s : State} (hs : FilmLogs s) {c : Cycle} (hc : s.stand.cycle = some c)
    (hphase : c.phase = .loading ∨ c.phase = .metering) (hmeter : ∀ m, s.head.meter = some m → m.ofCycle = false) (d : Nat) (dense : Bool) :
    FilmSafe (takePlan c d dense s) := by
  obtain ⟨hbracket, hcause, -, -, l, hl, -⟩ := hs.cycle c hc
  obtain ⟨r, hr, rfl⟩ := logAt_eq_some_iff.1 hl
  have hr : (s.back c.back).roll = some r := hr
  have hnot : c.phase ≠ .exposing ∧ c.phase ≠ .ending := by rcases hphase with h | h <;> rw [h] <;> decide
  have hquiet : ∀ e, s.stand.cycle = some e → e.phase ≠ .exposing := fun e he => by
    obtain rfl : c = e := Option.some.inj (hc.symm.trans he)
    exact hnot.1
  have hsound := hs.logs _ _ hl
  have hstale : ∀ g ∈ r.groups, g.first = r.next → g.completeness = .incomplete := fun g hg =>
    hs.stale hquiet hl g.log (List.mem_map_of_mem hg)
  rw [takePlan_eq hr]
  refine FilmSafe.kept ?_ (logKept_askStepNd _)
  have hopened : ∀ centre : Int, (r.openGroup (groupOf c r.next centre)).log = r.log.opened c.n := fun centre =>
    openGroup_log hsound hstale rfl
  have hown : ∀ f : Roll → Roll, (s.onBackRoll c.back f).logAt (.back c.back) = some (f r).log := fun f => by
    rw [State.onBackRoll, logAt_onBack, if_pos rfl, hr]
    rfl
  refine hs.moved (c := c) (k := r.log.opened c.n) hc ((logMoved_onBackRoll c.back _ s).trans (logMoved_onCycle c.back _ _)) ⟨rfl, rfl⟩ ?_
    (hsound.opened c.n) (iff_of_false (fun hx => hnot.2 (hcause.1 hx)) (by simp)) ⟨by simp, fun first hf => ?_⟩
    (hs.closed hquiet) (fun m hm hmc => ?_) fun g hg hnext => .inr ?_
  · exact (hown _).trans (congrArg some (hopened _))
  · cases hf
    exact Nat.le_refl _
  · rw [hmeter m hm] at hmc
    cases hmc
  · rcases List.mem_append.1 hg with hg | hg
    · exact absurd hnext (of_decide_eq_true (List.mem_filter.1 hg).2)
    · rw [List.mem_singleton.1 hg]
      exact ⟨rfl, rfl, rfl, hbracket⟩

theorem tryPlan_safe {s : State} (hs : FilmSafe s) : FilmSafe (tryPlan s) := by
  unfold tryPlan
  split
  · exact hs
  · rename_i c hc
    split
    · rename_i hgo
      obtain ⟨hloading, hcause, -, -⟩ := hgo
      have hquiet : ∀ e, s.stand.cycle = some e → e.phase = .loading := fun e he => by
        obtain rfl : c = e := Option.some.inj (hc.symm.trans he)
        exact hloading
      split
      · refine takePlan_safe hs.toFilmLogs hc (.inl hloading) (fun m hm => ?_) _ _
        refine Bool.eq_false_iff.2 fun hmc => ?_
        obtain ⟨e, he, hmetering⟩ := hs.meter m hm hmc
        rw [hquiet e he] at hmetering
        cases hmetering
      · split
        · have hold := hs.cycle c hc
          have hcycle : ∀ u : State, u.stand.cycle = some c →
              (onCycle (fun c => { c with phase := .metering }) u).stand.cycle = some { c with phase := .metering } := fun u hu =>
            congrArg (Option.map _) hu
          refine hs.recycled (fun e he => by rw [hquiet e he]; decide) (orders_from_same rfl)
            (hs.closed fun e he => by rw [hquiet e he]; decide) (fun m _ _ => ⟨_, hcycle _ hc, rfl⟩) (fun _ _ hl => hl) fun e he => ?_
          obtain rfl := Option.some.inj ((hcycle _ hc).symm.trans he)
          exact ⟨hold.bracket, iff_of_false (fun hx => hx hcause) (by simp), fun _ => hold.closed (.inl hloading), hold.state, hold.roll⟩
        · exact hs
    · exact hs

/-! ## Exposures -/

/-- The cycle moves to the exposure of its next step (R95, R120). -/
theorem stepAdvanced_safe {s : State} (hs : FilmSafe s) : FilmSafe (stepAdvanced s) := by
  unfold stepAdvanced
  split
  · exact hs
  · rename_i c hc
    split
    · rename_i hadvancing
      have hold := hs.cycle c hc
      have hquiet : ∀ e, s.stand.cycle = some e → e.phase = .advancing := fun e he => by
        obtain rfl : c = e := Option.some.inj (hc.symm.trans he)
        exact hadvancing
      have hcycle : (onCycle (fun c => { c with phase := .exposing }) s).stand.cycle = some { c with phase := .exposing } :=
        congrArg (Option.map _) hc
      refine FilmSafe.kept ?_ (logKept_askStepNd _)
      refine hs.recycled (fun e he => by rw [hquiet e he]; decide) (orders_from_same rfl)
        (hs.closed fun e he => by rw [hquiet e he]; decide) (fun m hm hmc => ?_) (fun _ _ hl => hl) fun e he => ?_
      · obtain ⟨e, he, hmetering⟩ := hs.meter m hm hmc
        rw [hquiet e he] at hmetering
        cases hmetering
      · obtain rfl := Option.some.inj (hcycle.symm.trans he)
        have hlive : ¬c.cause ≠ none := fun hx => by
          rw [hold.cause.1 hx] at hadvancing
          cases hadvancing
        exact ⟨hold.bracket, iff_of_false hlive (by simp), by simp, hold.state, hold.roll⟩
    · exact tryEndNormal_safe hs

/-- The shutter opens only where every condition of R120 holds: an EXPOSING cycle on a READY back with a frame left (R99). -/
theorem exposeStartEvent_safe {s : State} (hs : FilmSafe s) : FilmSafe (exposeStartEvent s) := by
  unfold exposeStartEvent
  split
  · exact hs
  · rename_i c hc
    split
    · exact hs
    · split
      · rename_i hmay
        have hphase : c.phase = .exposing := by
          simp only [mayExpose, Bool.and_eq_true, decide_eq_true_eq] at hmay
          exact hmay.1.1.1.1.1.1.1
        have hopens : shutterMayOpen s c.back = true := (Bool.and_eq_true _ _ ▸ hmay :).2
        have hready : (s.back c.back).state = .ready := by
          simp only [shutterMayOpen, Bool.and_eq_true, decide_eq_true_eq] at hopens
          exact hopens.1.1.1.1.1.1
        have hroom : ∃ l, s.logAt (.back c.back) = some l ∧ l.next ≤ l.declared := by
          rw [shutterMayOpen, Bool.and_eq_true] at hopens
          obtain ⟨-, hroom⟩ := hopens
          split at hroom
          · rename_i r hr
            exact ⟨r.log, logAt_of_rollAt hr, of_decide_eq_true hroom⟩
          · cases hroom
        obtain ⟨l, hl, hroom⟩ := hroom
        refine ⟨⟨hs.logs, hs.brackets, fun e he => (hs.cycle e he).of_back rfl rfl, fun _ => ⟨c, l, hc, hphase, hl, hroom⟩, hs.meter,
          hs.fresh⟩, fun _ e he => ?_⟩
        obtain rfl : c = e := Option.some.inj (hc.symm.trans he)
        exact hready
      · exact hs

theorem LogKept.closed {s t : State} (h : LogKept s t) (he : s.stand.expose = none) : t.stand.expose = none :=
  Option.not_isSome_iff_eq_none.1 fun hopen => by
    have := h.expose hopen
    rw [he] at this
    cases this

/-- A log with an EXPOSURE of a group more, and the group counting it (R90). -/
def RollLog.counted (l : RollLog) (groupFirst : Option Nat) : RollLog :=
  (l.written (groupFirst.getD l.next)).regroup fun g => if g.first = groupFirst.getD 0 then g.oneMore else g

theorem RollLog.Sound.counted {l : RollLog} (h : l.Sound) {groupFirst : Option Nat} (hroom : l.next ≤ l.declared)
    (hfirst : ∀ first ∈ groupFirst, first ≤ l.next) : (l.counted groupFirst).Sound := by
  refine (h.written hroom ?_).regroup fun g => by split <;> rfl
  cases groupFirst with
  | none => exact Nat.le_refl _
  | some first => exact hfirst first rfl

/-- After an EXPOSURE every group of the roll has a frame number below the next one. -/
theorem RollLog.Sound.counted_passed {l : RollLog} (h : l.Sound) (groupFirst : Option Nat) :
    ∀ g ∈ (l.counted groupFirst).groups, g.first ≠ (l.counted groupFirst).next := fun g hg => by
  obtain ⟨q, hq, rfl⟩ := List.mem_map.1 hg
  have hlt := h.written_passed (groupFirst.getD l.next) q hq
  split <;> exact hlt.ne

/-- The state with the frame of an exposure written, counted by its group, and the shutter closed (R90, R121). -/
def exposed (c : Cycle) (frame : Roll → Frame) (s : State) : State :=
  ((writeFrame c.back frame s).onBackRoll c.back fun r => r.onGroup (c.groupFirst.getD 0) Group.oneMore).onStand
    fun t => { t with expose := none }

theorem logMoved_exposed (c : Cycle) (frame : Roll → Frame) (s : State) : LogMoved c.back id s (exposed c frame s) :=
  ((logMoved_onBack c.back s rfl).trans (logMoved_onBackRoll c.back _ _)).trans
    ((logKept_onStand _ rfl (by exact nofun)).moved c.back)

theorem exposed_log {c : Cycle} {frame : Roll → Frame} {s : State} {l : RollLog} (hl : s.logAt (.back c.back) = some l)
    (hnumber : ∀ r, (frame r).number = r.next) (hgroup : ∀ r : Roll, (frame r).group = c.groupFirst.getD r.next) :
    (exposed c frame s).logAt (.back c.back) = some (l.counted c.groupFirst) := by
  obtain ⟨r, hr, rfl⟩ := logAt_eq_some_iff.1 hl
  have hr : (s.back c.back).roll = some r := hr
  have hcount : ∀ q : Roll, (q.onGroup (c.groupFirst.getD 0) Group.oneMore).log
      = q.log.regroup fun g => if g.first = c.groupFirst.getD 0 then g.oneMore else g := fun q => onGroup_log fun _ => rfl
  change ((writeFrame c.back frame s).onBackRoll c.back _).logAt (.back c.back) = _
  rw [State.onBackRoll, logAt_onBack, if_pos rfl, writeFrame, onBack_same]
  simp only [hr, Option.map_some, hcount, addFrame_log (hnumber r), hgroup]
  rfl

/-- The cycle leaves EXPOSING once its frame is written. -/
theorem leaveExposing_safe {s u : State} (hs : FilmLogs s) {c : Cycle} {l : RollLog} (hc : s.stand.cycle = some c)
    (hphase : c.phase = .exposing) (hl : s.logAt (.back c.back) = some l) (hroom : l.next ≤ l.declared) (hu : LogMoved c.back id s u)
    (hlog : u.logAt (.back c.back) = some (l.counted c.groupFirst)) (hclosed : u.stand.expose = none) (step : Nat) {phase : Phase}
    (hafter : phase = .advancing ∨ phase = .finishing) :
    FilmSafe (onCycle (fun c => { c with nextStep := step, phase := phase }) u) := by
  obtain ⟨-, hcause, -, -, l', hl', hfirst⟩ := hs.cycle c hc
  obtain rfl : l = l' := Option.some.inj (hl.symm.trans hl')
  have hsound := hs.logs _ l hl
  have hnot : phase ≠ .ending ∧ phase ≠ .loading ∧ phase ≠ .metering := by rcases hafter with h | h <;> rw [h] <;> decide
  refine hs.moved (c := c) hc (hu.trans (logMoved_onCycle c.back _ u)) ⟨rfl, rfl⟩ hlog (hsound.counted hroom hfirst)
    (iff_of_false (fun hx => ?_) hnot.1) ⟨fun h => (h.elim hnot.2.1 hnot.2.2).elim, fun first hf => Nat.le_succ_of_le (hfirst first hf)⟩
    hclosed (fun m hm hmc => ?_) fun g hg hnext => absurd hnext (hsound.counted_passed _ g hg)
  · rw [hcause.1 hx] at hphase
    cases hphase
  · obtain ⟨q, hq, hqc⟩ := hu.meter m hm hmc
    obtain ⟨e, hce, hmetering⟩ := hs.meter q hq hqc
    obtain rfl : c = e := Option.some.inj (hc.symm.trans hce)
    rw [hphase] at hmetering
    cases hmetering

/-- A frame is written for the exposure, its group counts one more, and the cycle leaves EXPOSING (R90, R121). -/
theorem exposeDone_safe {s : State} (hs : FilmSafe s) {c : Cycle} (hc : s.stand.cycle = some c) (he : s.stand.expose.isSome = true)
    (p : PlanStep) : FilmSafe (exposeDone c p s) := by
  obtain ⟨d, l, hd, hphase, hl, hroom⟩ := hs.expose he
  obtain rfl : c = d := Option.some.inj (hc.symm.trans hd)
  have hpost := logKept_post .frame c.account (some c.stock) (frameAmount s c.stock c.cls) s
  have hask : ∀ t, LogKept t (askAdvance c.back .step true t) := logKept_askAdvance _ _ _
  generalize hu : askAdvance c.back .step true (exposed c
    (stepFrame c p .exposure (some (frameAmount s c.stock c.cls)) (some c.account))
    (post .frame c.account (some c.stock) (frameAmount s c.stock c.cls) s)) = u
  have hmoved : LogMoved c.back id s u := hu ▸ ((hpost.moved _).trans (logMoved_exposed c _ _)).trans ((hask _).moved _)
  have hlog : u.logAt (.back c.back) = some (l.counted c.groupFirst) :=
    hu ▸ ((hask _).backs _).trans (exposed_log ((hpost.backs _).trans hl) (fun _ => rfl) fun _ => rfl)
  have hclosed : u.stand.expose = none := hu ▸ (hask _).closed rfl
  have hleave := fun {v : State} (hv : LogKept u v) (step : Nat) {phase : Phase} =>
    leaveExposing_safe hs.toFilmLogs (phase := phase) hc hphase hl hroom (hmoved.trans (hv.moved _)) ((hv.backs _).trans hlog)
      (hv.closed hclosed) step
  have hform : exposeDone c p s
      = if c.nextStep + 1 < (c.plan.map fun p => p.steps.length).getD 0 then
          onCycle (fun c => { c with nextStep := c.nextStep + 1, phase := .advancing }) u
        else onCycle (fun c => { c with nextStep := c.nextStep + 1, phase := .finishing }) (askReturn (returnPos u c) u) := by
    rw [← hu]
    rfl
  have hcycle : ∀ (v : State) (phase : Phase), v.stand.cycle = some c →
      onCycle (fun c => { c with nextStep := c.nextStep + 1, phase := phase }) v
        = onCycle (fun d => { d with nextStep := c.nextStep + 1, phase := phase }) v := fun v phase hv => by
    simp only [onCycle, State.onStand, hv, Option.map_some]
  have hret := logKept_askReturn (returnPos u c) u
  have hstays : u.stand.cycle = some c := by rw [hmoved.cycle, hc, Option.map_some, id]
  rw [hform]
  split
  · rw [hcycle u _ hstays]
    exact hleave (.refl u) _ (.inl rfl)
  · rw [hcycle _ _ (hret.cycle.trans hstays)]
    exact hleave hret _ (.inr rfl)

theorem shutterClosedEvent_safe {s : State} (hs : FilmSafe s) : FilmSafe (shutterClosedEvent s) := by
  have hclose : FilmSafe (s.onStand fun t => { t with expose := none }) := hs.kept (logKept_onStand s rfl (by exact nofun))
  unfold shutterClosedEvent
  split
  · exact hs
  · rename_i e he
    split
    · split
      · exact hclose
      · rename_i c hc
        split
        · exact hclose
        · exact exposeDone_safe hs hc (by rw [he]; rfl) _
    · exact haltReport_safe hs _ _

theorem exposeTimeoutEvent_safe {s : State} (hs : FilmSafe s) : FilmSafe (exposeTimeoutEvent s) := by
  unfold exposeTimeoutEvent
  split
  · exact haltReport_safe hs _ _
  · exact hs

/-! ## The feeder and the light head -/

theorem feederFail_safe {s : State} (hs : FilmSafe s) (stale : Bool) : FilmSafe (feederFail stale s) :=
  tryEndAborted_safe (haltReport_safe (hs.kept (logKept_onFeeder s _)) _ _)

theorem startJob_safe {s : State} (hs : FilmSafe s) (job : FeederJob) (ofCycle : Bool) : FilmSafe (startJob job ofCycle s) := by
  have hbegin : FilmSafe (beginJob job ofCycle s) := hs.kept (logKept_onFeeder s _)
  cases job with
  | feed pos cat =>
    unfold startJob
    simp only
    split
    · exact hbegin
    · exact feederFail_safe hs false
  | home => exact hbegin
  | ret pos => exact hbegin

theorem askJob_safe {s : State} (hs : FilmSafe s) (job : FeederJob) (ofCycle : Bool) : FilmSafe (askJob job ofCycle s) := by
  unfold askJob
  split
  · exact startJob_safe hs _ _
  · exact hs.kept (logKept_onFeeder s _)

theorem startWaitingJob_safe {s : State} (hs : FilmSafe s) : FilmSafe (startWaitingJob s) := by
  unfold startWaitingJob
  split
  · exact startJob_safe (hs.kept (logKept_onFeeder s _)) _ _
  · exact hs

theorem gateLoadedEvent_safe {s : State} (hs : FilmSafe s) : FilmSafe (gateLoadedEvent s) := by
  unfold gateLoadedEvent
  split
  · split
    · exact hs.kept (logKept_onFeeder s _)
    · exact tryEndAborted_safe (tryPlan_safe (hs.kept (logKept_onFeeder s _)))
  · exact hs.kept (logKept_onFeeder s _)

theorem gateClearedEvent_safe {s : State} (hs : FilmSafe s) : FilmSafe (gateClearedEvent s) := by
  have hfeeder : ∀ f, FilmSafe (s.onFeeder f) := fun f => hs.kept (logKept_onFeeder s f)
  unfold gateClearedEvent
  split
  · exact tryEndAborted_safe (tryEndNormal_safe (hfeeder _))
  · split
    · simp only
      split
      · exact tryEndAborted_safe (haltReport_safe (hfeeder _) _ _)
      · exact hfeeder _
    · exact hfeeder _

theorem feederTimeoutEvent_safe {s : State} (hs : FilmSafe s) : FilmSafe (feederTimeoutEvent s) := by
  unfold feederTimeoutEvent
  split
  · exact hs
  · exact feederFail_safe hs _

theorem trayOutEvent_safe {s : State} (hs : FilmSafe s) : FilmSafe (trayOutEvent s) := by
  unfold trayOutEvent
  simp only
  split
  · exact tryEndAborted_safe (haltReport_safe (hs.kept (logKept_onFeeder s _)) _ _)
  · exact hs.kept (logKept_onFeeder s _)

theorem lampFail_safe {s : State} (hs : FilmSafe s) : FilmSafe (lampFail s) :=
  haltReport_safe (hs.kept (logKept_onHead_same s rfl)) _ _

theorem lampFailureEvent_safe {s : State} (hs : FilmSafe s) : FilmSafe (lampFailureEvent s) := by
  unfold lampFailureEvent
  split
  · exact lampFail_safe hs
  · exact hs

theorem warmUpEvent_safe {s : State} (hs : FilmSafe s) (sense : Bool) : FilmSafe (warmUpEvent sense s) := by
  unfold warmUpEvent
  split
  · split
    · exact tryPlan_safe (hs.kept (logKept_onHead_same s rfl))
    · exact lampFail_safe hs
  · exact hs

theorem meterEvent_safe {s : State} (hs : FilmSafe s) (r : Nat → Readings) : FilmSafe (meterEvent r s) := by
  unfold meterEvent
  split
  · exact hs
  · rename_i m hm
    have hread : FilmSafe (s.onHead fun h => { h with meter := none, readings := some (r m.cat) }) :=
      hs.kept (logKept_onHead s (by exact nofun))
    simp only
    split
    · rename_i hcycle
      split
      · rename_i c hc
        obtain ⟨d, hd, hmetering⟩ := hs.meter m hm hcycle
        obtain rfl : c = d := Option.some.inj (hc.symm.trans hd)
        exact takePlan_safe hread.toFilmLogs hc (.inr hmetering) (by exact nofun) _ _
      · exact hread
    · exact tryPlan_safe hread

theorem meterTimeoutEvent_safe {s : State} (hs : FilmSafe s) : FilmSafe (meterTimeoutEvent s) := by
  unfold meterTimeoutEvent
  split
  · exact hs
  · exact tryPlan_safe (haltReport_safe (hs.kept (logKept_onHead s (by exact nofun))) _ _)

theorem ndTimeoutEvent_safe {s : State} (hs : FilmSafe s) : FilmSafe (ndTimeoutEvent s) := by
  unfold ndTimeoutEvent
  split
  · exact hs
  · exact haltReport_safe (hs.kept (logKept_onHead_same s rfl)) _ _

theorem swapTimeoutEvent_safe {s : State} (hs : FilmSafe s) : FilmSafe (swapTimeoutEvent s) := by
  unfold swapTimeoutEvent
  split
  · exact hs
  · exact haltReport_safe (hs.kept (logKept_onFilm s rfl rfl)) _ _

end Sys2Proof.Machine
end

section
/-! SUPPORT. The film logs through the states of the backs, the ADVANCE, the requests on the backs, the choice and the end of an event
(R84, R92 to R97, R101, R104 to R107, R118). -/

namespace Sys2Proof.Machine

/-! ## Changes away from the cycle's back -/

/-- A place that is not the back of the cycle in flight. -/
def OffCycle (s : State) (x : RollPlace) : Prop := ∀ c, s.stand.cycle = some c → x ≠ .back c.back

theorem FilmLogs.stale_off {s : State} (hs : FilmLogs s) {x : RollPlace} {l : RollLog} (hx : OffCycle s x) (hl : s.logAt x = some l) :
    ∀ g ∈ l.groups, g.first = l.next → g.completeness = .incomplete := fun g hg hnext => by
  refine (hs.fresh x l hl g hg hnext).resolve_right ?_
  rintro ⟨c, hc, hplace, -⟩
  exact hx c hc hplace

/-- Places away from the cycle's back may take any sound log without a group at its next frame number. -/
theorem FilmSafe.off_cycle {s t : State} (hs : FilmSafe s) (hwork : t.work = s.work) (hstand : t.stand = s.stand)
    (hhead : t.head = s.head)
    (hback : ∀ c, s.stand.cycle = some c → (t.back c.back).state = (s.back c.back).state ∧ t.logAt (.back c.back) = s.logAt (.back c.back))
    (hlogs : ∀ x l, OffCycle s x → t.logAt x = some l →
      l.Sound ∧ ∀ g ∈ l.groups, g.first = l.next → g.completeness = .incomplete) : FilmSafe t := by
  have hon : ∀ x, ¬OffCycle s x → t.logAt x = s.logAt x := fun x hx => by
    unfold OffCycle at hx
    push Not at hx
    obtain ⟨c, hc, rfl⟩ := hx
    exact (hback c hc).2
  refine ⟨⟨fun x l hl => ?_, hwork ▸ hs.brackets, fun c hc => ?_, fun he => ?_, hhead ▸ hstand ▸ hs.meter, fun x l hl => ?_⟩,
    fun he c hc => ?_⟩
  · by_cases hx : OffCycle s x
    · exact (hlogs x l hx hl).1
    · exact hs.logs x l ((hon x hx).symm.trans hl)
  · rw [hstand] at hc
    exact (hs.cycle c hc).of_back (hback c hc).1 (hback c hc).2
  · rw [hstand] at he ⊢
    obtain ⟨c, l, hc, hphase, hl, hroom⟩ := hs.expose he
    exact ⟨c, l, hc, hphase, (hback c hc).2.trans hl, hroom⟩
  · rw [hstand]
    by_cases hx : OffCycle s x
    · exact fun g hg hnext => .inl ((hlogs x l hx hl).2 g hg hnext)
    · exact hs.fresh x l ((hon x hx).symm.trans hl)
  · rw [hstand] at he hc
    exact (hback c hc).1.trans (hs.ready he c hc)

/-- A back that is not the cycle's may take any state, and a sound log without groups or none. -/
theorem FilmSafe.onFreeBack {s : State} (hs : FilmSafe s) {b : BackId} (hfree : OffCycle s (.back b)) {f : Back → Back}
    (hlog : ∀ l, (f (s.back b)).roll.map Roll.log = some l → s.logAt (.back b) = some l ∨ (l.Sound ∧ l.groups = [])) :
    FilmSafe (s.onBack b f) := by
  refine hs.off_cycle rfl rfl rfl (fun c hc => ?_) fun x l hx hl => ?_
  · have hne : c.back ≠ b := fun h => hfree c hc (h ▸ rfl)
    rw [onBack_other _ _ _ _ hne, logAt_onBack, if_neg fun h => hne (RollPlace.back.inj h)]
    exact ⟨rfl, rfl⟩
  · rw [logAt_onBack] at hl
    split at hl
    · rename_i hb
      rcases hlog l hl with hl | ⟨hsound, hnil⟩
      · exact ⟨hs.logs _ l hl, hs.stale_off hfree hl⟩
      · exact ⟨hsound, by rw [hnil]; exact nofun⟩
    · exact ⟨hs.logs x l hl, hs.stale_off hx hl⟩

/-! ## The state of a back -/

theorem logKept_setBackState (b : BackId) (st : BackState) (s : State) :
    LogKept (s.onBack b fun k => { k with state := st }) (setBackState b st s) := by
  unfold setBackState
  simp only
  split
  · exact .refl _
  · exact logKept_notice _ _

theorem FilmSafe.freeBackState {s : State} (hs : FilmSafe s) {b : BackId} (hfree : OffCycle s (.back b)) (st : BackState) :
    FilmSafe (setBackState b st s) := (hs.onFreeBack (f := fun k => { k with state := st }) hfree fun _ hl => .inl hl).kept (logKept_setBackState b st s)

/-- The states the back of a cycle never takes (R104, R106, R107). -/
def BackState.offFilm : BackState → Prop
  | .empty => True
  | .rewinding => True
  | .rewound => True
  | _ => False

theorem FilmLogs.backState {s : State} (hs : FilmLogs s) (b : BackId) {st : BackState} (hst : ¬st.offFilm) :
    FilmLogs (setBackState b st s) := by
  refine FilmLogs.kept ?_ (logKept_setBackState b st s)
  have hsame : ∀ x, (s.onBack b fun k => { k with state := st }).logAt x = s.logAt x := fun x => by
    rw [logAt_onBack]
    split
    · rename_i hx
      rw [hx]
      rfl
    · rfl
  refine ⟨fun x l hl => hs.logs x l ((hsame x).symm.trans hl), hs.brackets, fun c hc => ?_, fun he => ?_, hs.meter,
    fun x l hl => hs.fresh x l ((hsame x).symm.trans hl)⟩
  · have hold := hs.cycle c hc
    refine ⟨hold.bracket, hold.cause, hold.closed, ?_, (hsame _).symm ▸ hold.roll⟩
    by_cases hb : c.back = b
    · rw [hb, onBack_same]
      exact ⟨fun h : st = .empty => hst (h ▸ trivial), fun h : st = .rewinding => hst (h ▸ trivial), fun h : st = .rewound => hst (h ▸ trivial)⟩
    · rw [onBack_other _ _ _ _ hb]
      exact hold.state
  · obtain ⟨c, l, hc, hphase, hl, hroom⟩ := hs.expose he
    exact ⟨c, l, hc, hphase, (hsame _).trans hl, hroom⟩

theorem setBackState_stand (b : BackId) (st : BackState) (s : State) : (setBackState b st s).stand = s.stand := by
  unfold setBackState
  simp only
  split <;> rfl

theorem setBackState_state (b : BackId) (st : BackState) (s : State) (c : BackId) :
    ((setBackState b st s).back c).state = if c = b then st else (s.back c).state := by
  rw [(logKept_setBackState b st s).state]
  split
  · rename_i hc
    rw [hc, onBack_same]
  · rename_i hc
    rw [onBack_other _ _ _ _ hc]

/-- The back on which the shutter is not open may take any state of a cycle's back. -/
theorem FilmSafe.backState {s : State} (hs : FilmSafe s) {b : BackId} {st : BackState} (hst : ¬st.offFilm)
    (hopen : s.stand.expose.isSome = true → ∀ c, s.stand.cycle = some c → c.back = b → st = .ready) : FilmSafe (setBackState b st s) := by
  refine ⟨hs.toFilmLogs.backState b hst, fun he c hc => ?_⟩
  rw [setBackState_stand] at he hc
  rw [setBackState_state]
  split
  · rename_i hb
    exact hopen he c hc hb
  · exact hs.ready he c hc

theorem FilmSafe.backState_of_none {s : State} (hs : FilmSafe s) (hc : s.stand.cycle = none) (b : BackId) {st : BackState}
    (hst : ¬st.offFilm) : FilmSafe (setBackState b st s) := hs.backState hst fun _ c hcycle => by
  rw [hc] at hcycle
  cases hcycle

/-! ## ADVANCE -/

theorem leaderStep_safe {s : State} (hs : FilmSafe s) (b : BackId) : FilmSafe (leaderStep b s) := by
  unfold leaderStep
  split
  · exact hs.kept ((logKept_onBack s b rfl rfl).trans (logKept_startAdvance b _ _ _))
  · have hready : FilmSafe (setBackState b .ready (s.onBack b fun k => { k with leaderLeft := 0 })) :=
      (hs.kept (logKept_onBack s b rfl rfl)).backState id fun _ _ _ _ => rfl
    simp only
    split
    · exact hready.kept (logKept_releaseFilm _ _)
    · exact hready

/-- A back becomes FULL with no frame left, so with the shutter closed on it (R95, R99). -/
theorem fullWhenUsed_safe {s : State} (hs : FilmSafe s) (b : BackId) : FilmSafe (fullWhenUsed b s) := by
  unfold fullWhenUsed
  split
  · rename_i r hr
    split
    · rename_i hused
      refine hs.backState id fun he c hc hb => ?_
      obtain ⟨d, l, hd, -, hl, hroom⟩ := hs.expose he
      obtain rfl : c = d := Option.some.inj (hc.symm.trans hd)
      subst hb
      obtain rfl : r.log = l := Option.some.inj ((logAt_of_rollAt (x := .back c.back) hr).symm.trans hl)
      exact absurd (hused ▸ hroom : r.declared + 1 ≤ r.declared) (Nat.not_succ_le_self _)
    · exact hs
  · exact hs

/-- The state of a back whose ADVANCE has moved the film on one frame (R93, R95). -/
def movedOn (b : BackId) (s : State) : State :=
  let s1 := s.onBack b fun k => { k with advance := none, gateFrame := .fresh }
  match (s.back b).state with
  | .leader => leaderStep b s1
  | .ready => fullWhenUsed b s1
  | _ => s1

theorem advanceCompleteEvent_eq {b : BackId} {s : State} {a : AdvanceOp} (h : (s.back b).advance = some a) :
    advanceCompleteEvent b s = startOwed b (if a.ofCycle then stepAdvanced (movedOn b s) else movedOn b s) := by
  simp only [advanceCompleteEvent, h]
  rfl

theorem movedOn_safe {s : State} (hs : FilmSafe s) (b : BackId) : FilmSafe (movedOn b s) := by
  have h1 : FilmSafe (s.onBack b fun k => { k with advance := none, gateFrame := .fresh }) := hs.kept (logKept_onBack s b rfl rfl)
  unfold movedOn
  simp only
  split
  · exact leaderStep_safe h1 b
  · exact fullWhenUsed_safe h1 b
  · exact h1

theorem advanceCompleteEvent_safe {s : State} (hs : FilmSafe s) (b : BackId) : FilmSafe (advanceCompleteEvent b s) := by
  cases ha : (s.back b).advance with
  | none => simpa only [advanceCompleteEvent, ha] using hs
  | some a =>
    rw [advanceCompleteEvent_eq ha]
    refine FilmSafe.kept ?_ (logKept_startOwed b _)
    split
    · exact stepAdvanced_safe (movedOn_safe hs b)
    · exact movedOn_safe hs b

/-- A back that an ADVANCE faults or ends; where the shutter is open on it, the abort closes it (R96, R97, R123). -/
theorem advanceFails_safe {s : State} (hs : FilmSafe s) (b : BackId) {st : BackState} (hst : ¬st.offFilm) (cause : AbortCause) :
    FilmSafe (advanceFails b st cause s) := by
  have h1 : FilmSafe (s.onBack b fun k => { k with advance := none, owed := false, leaderLeft := 0 }) :=
    hs.kept (logKept_onBack s b rfl rfl)
  unfold advanceFails
  simp only
  split
  · refine backFailed_safe (h1.toFilmLogs.backState b hst) (fun he c hc hb => ?_) cause
    rw [setBackState_stand] at he hc
    rw [setBackState_state, if_neg hb]
    exact h1.ready he c hc
  · exact h1

theorem advanceTimeoutEvent_safe {s : State} (hs : FilmSafe s) (b : BackId) : FilmSafe (advanceTimeoutEvent b s) := by
  unfold advanceTimeoutEvent
  split
  · exact advanceFails_safe hs b id _
  · exact hs

theorem filmEndEvent_safe {s : State} (hs : FilmSafe s) (b : BackId) : FilmSafe (filmEndEvent b s) := by
  unfold filmEndEvent
  split
  · refine advanceFails_safe (st := .ended) (hs.kept ?_) b id _
    exact logKept_onBackRoll s b fun _ => rfl
  · exact hs

/-! ## REWIND -/

/-- A REWINDING back is not the cycle's (R104). -/
theorem FilmLogs.off_rewinding {s : State} (hs : FilmLogs s) {b : BackId} (h : (s.back b).state = .rewinding) : OffCycle s (.back b) :=
  fun c hc hb => by
    obtain ⟨-, hnot, -⟩ := (hs.cycle c hc).state
    rw [← RollPlace.back.inj hb] at hnot
    exact hnot h

theorem FilmLogs.off_empty {s : State} (hs : FilmLogs s) {b : BackId} (h : (s.back b).state = .empty) : OffCycle s (.back b) :=
  fun c hc hb => by
    obtain ⟨hnot, -⟩ := (hs.cycle c hc).state
    rw [← RollPlace.back.inj hb] at hnot
    exact hnot h

theorem FilmLogs.off_rewound {s : State} (hs : FilmLogs s) {b : BackId} (h : (s.back b).state = .rewound) : OffCycle s (.back b) :=
  fun c hc hb => by
    obtain ⟨-, -, hnot⟩ := (hs.cycle c hc).state
    rw [← RollPlace.back.inj hb] at hnot
    exact hnot h

theorem off_not_inCycle {s : State} {b : BackId} (h : backInCycle s b = false) : OffCycle s (.back b) := fun c hc hb => by
  simp only [backInCycle, hc] at h
  exact of_decide_eq_false h (RollPlace.back.inj hb).symm

theorem rewindCompleteEvent_safe {s : State} (hs : FilmSafe s) (b : BackId) : FilmSafe (rewindCompleteEvent b s) := by
  unfold rewindCompleteEvent
  split
  · rename_i h
    exact hs.freeBackState (hs.off_rewinding h) _
  · exact hs

theorem rewindTimeoutEvent_safe {s : State} (hs : FilmSafe s) (b : BackId) : FilmSafe (rewindTimeoutEvent b s) := by
  unfold rewindTimeoutEvent
  split
  · rename_i h
    exact hs.freeBackState (hs.off_rewinding h) _
  · exact hs

/-! ## Loading and unloading a back -/

theorem newRoll_log_sound (roll stock declared seq : Nat) : (newRoll roll stock declared seq).log.Sound :=
  ⟨Nat.le_refl 1, Nat.le_add_left 1 declared, List.Pairwise.nil, nofun, nofun⟩

theorem loadEffect_safe {s : State} (hs : FilmSafe s) {b : BackId} {roll stock declared : Nat}
    (h : loadRefusal b roll stock declared s = none) : FilmSafe (loadEffect b roll stock declared s) := by
  have hempty : (s.back b).state = .empty := by
    simpa using firstFailing_none h (decide ((s.back b).state = .empty), .state) (by simp)
  have hfree := hs.off_empty hempty
  have hput : FilmSafe (putRoll b roll stock declared s) := by
    refine FilmSafe.kept (hs.onFreeBack hfree fun l hl => .inr ?_) (logKept_onFilm _ rfl rfl)
    obtain rfl := Option.some.inj hl
    exact ⟨newRoll_log_sound _ _ _ _, rfl⟩
  unfold loadEffect
  split
  · exact (hput.freeBackState hfree _).kept (logKept_releaseFilm _ _)
  · exact (hput.freeBackState hfree _).kept (logKept_askAdvance _ _ _ _)

theorem emptyBack_safe {s : State} (hs : FilmSafe s) {b : BackId} (hfree : OffCycle s (.back b)) : FilmSafe (emptyBack b s) :=
  FilmSafe.freeBackState (hs.onFreeBack hfree (by exact nofun)) hfree _

/-- The roll of a back, put into a register slot, has no open group but one of a cycle on the back. -/
theorem shelved_safe {s : State} (hs : FilmSafe s) {b : BackId} (hfree : OffCycle s (.back b)) {slot : Nat} (hslot : slot < 8)
    (kind : UnloadKind) {r : Roll} (hr : (s.back b).roll = some r) : FilmSafe (shelved slot kind r s) := by
  have hl : s.logAt (.back b) = some r.log := logAt_of_rollAt hr
  have hat : ∀ x, (shelved slot kind r s).logAt x = if x = .slot slot then some r.log else s.logAt x := fun x => by
    rw [State.logAt, rollAt_shelved hslot]
    split <;> rfl
  refine hs.off_cycle rfl rfl rfl (fun c hc => ⟨by rw [shelved_back], by rw [hat, if_neg nofun]⟩) fun x l hx hlog => ?_
  rw [hat] at hlog
  split at hlog
  · obtain rfl := Option.some.inj hlog
    exact ⟨hs.logs _ _ hl, hs.stale_off hfree hl⟩
  · exact ⟨hs.logs x l hlog, hs.stale_off hx hlog⟩

theorem moveToRegister_safe {s : State} (hs : FilmSafe s) {b : BackId} (hfree : OffCycle s (.back b)) {slot : Nat}
    (hslot : freeSlot? s = some slot) (kind : UnloadKind) : FilmSafe (moveToRegister b slot kind s) := by
  unfold moveToRegister
  split
  · exact emptyBack_safe hs hfree
  · rename_i r hr
    exact FilmSafe.kept (emptyBack_safe (shelved_safe hs hfree (slotRoll?_of_freeSlot? hslot).1 kind hr) hfree) (logKept_closeTest _ _)

/-! ## The choice -/

theorem makeFull_safe {s : State} (hs : FilmSafe s) (hc : s.stand.cycle = none) (b : BackId) : FilmSafe (makeFull b s) := by
  unfold makeFull
  split
  · exact hs.backState_of_none hc b id
  · exact hs

theorem makeFull_cycle (b : BackId) (s : State) : (makeFull b s).stand.cycle = s.stand.cycle := by
  unfold makeFull
  split
  · rw [setBackState_stand]
  · rfl

/-- A cycle starts LOADING on a READY back with a roll, for a bracket of an order (R16, R118). -/
theorem startSlide_safe {s : State} (hs : FilmSafe s) (hc : s.stand.cycle = none) {o : Order} (hn : 1 ≤ o.n) {b : BackId}
    (hb : (s.back b).takesBracket o.stock o.n = true) : FilmSafe (startSlide o b s) := by
  cases hi : nextSlide o with
  | none => simpa only [startSlide, hi] using hs
  | some i =>
    cases hx : o.slides[i]? with
    | none => simpa only [startSlide, hi, hx] using hs
    | some x =>
      obtain ⟨hready, r, hr, -, -⟩ := takesBracket_iff.1 hb
      have hnone : ∀ c, s.stand.cycle ≠ some c := fun c h => by
        rw [hc] at h
        cases h
      rw [startSlide_eq hi hx]
      refine FilmSafe.kept (askJob_safe ?_ _ _) (logKept_askTurretAndLamp b _)
      rw [makeCycle_eq]
      refine hs.recycled (fun c h => absurd h (hnone c)) (orders_from_same rfl) (hs.closed fun c h => absurd h (hnone c))
        (fun m hm hmc => ?_) (fun y l hl => ?_) fun c hcycle => ?_
      · obtain ⟨c, h, -⟩ := hs.meter m hm hmc
        exact absurd h (hnone c)
      · exact (logAt_of_backs (s := s) (back_of_film rfl) rfl y).symm.trans hl
      · obtain rfl := Option.some.inj hcycle
        refine CycleLog.of_back (s := s) ⟨hn, iff_of_false (fun h => h rfl) nofun, fun _ => rfl, ?_, r.log, logAt_of_rollAt hr, by exact nofun⟩
          (congrArg Back.state (back_of_film rfl _)) (logAt_of_backs (back_of_film rfl) rfl _)
        change (s.back b).state ≠ _ ∧ (s.back b).state ≠ _ ∧ (s.back b).state ≠ _
        rw [hready]
        exact ⟨nofun, nofun, nofun⟩

theorem logKept_tested (s : State) : LogKept s (tested s) := (logKept_popDone _ s).trans (logKept_pushCandidate _)

/-- The back found for a bracket takes it in any state with the same backs. -/
theorem choiceLoop_safe (n : Nat) {s : State} (hs : FilmSafe s) (hc : s.stand.cycle = none) : FilmSafe (choiceLoop n s) := by
  induction n generalizing s with
  | zero => exact hs
  | succ n ih =>
    have hkept := logKept_tested s
    have ht := hs.kept hkept
    have htc : (tested s).stand.cycle = none := hkept.cycle.trans hc
    cases ho : (tested s).work.stack.head?.bind (tested s).order? with
    | none =>
      rw [choiceLoop_none ho]
      exact ht
    | some o =>
      rw [choiceLoop_top ho]
      rcases testTop_cases (tested s) o with ⟨reason, h⟩ | h | ⟨b, h, -⟩ | ⟨b, h, -, hb, -⟩ | ⟨c, b, h, hcand, hb⟩
      · rw [h]
        have hhold := logKept_holdWith o.number reason (tested s)
        exact ih (ht.kept hhold) (hhold.cycle.trans htc)
      · rw [h]
        exact ht
      · rw [h]
        exact ih (makeFull_safe ht htc b) ((makeFull_cycle b _).trans htc)
      · rw [h]
        obtain ⟨k, -, hk⟩ := Option.bind_eq_some_iff.1 ho
        exact startSlide_safe ht htc (ht.brackets o (order?_mem hk)) (findBack_takes hb)
      · rw [h]
        have hfill := logKept_setOrderState c.number .filling (some (formerOf c)) (tested s)
        obtain ⟨-, -, older, younger, hmem, -⟩ := highestOf_filter hcand
        refine startSlide_safe (ht.kept hfill) (hfill.cycle.trans htc) (ht.brackets c (hmem ▸ by simp)) ?_
        have hback : (setOrderState c.number .filling (some (formerOf c)) (tested s)).back b = (tested s).back b := by
          rw [sameBut_setOrderState c.number .filling (some (formerOf c)) (tested s)]
          cases b <;> rfl
        rw [hback]
        exact findBack_takes hb

theorem eventEnd_safe {s : State} (hs : FilmSafe s) (asked : Bool) (before : State) : FilmSafe (eventEnd asked before s) := by
  have hrun : FilmSafe (runChoice s) := by
    unfold runChoice
    split
    · rename_i h
      rw [choiceAllowed, Bool.and_eq_true, Option.isNone_iff_eq_none] at h
      exact choiceLoop_safe _ hs h.2
    · exact hs
  unfold eventEnd
  refine FilmSafe.kept ?_ (logKept_standEnd before _)
  split
  · exact hrun
  · exact hs

theorem labelEventEnd_safe {s : State} (hs : FilmSafe s) (before : State) : FilmSafe (labelEventEnd before s) :=
  (eventEnd_safe (hs.kept (logKept_sendIfIdle s)) false before).kept (logKept_printerEnd before _)

end Sys2Proof.Machine
end

section
/-! The film logs kept by every step (O59). -/

namespace Sys2Proof.Machine

/-! ## Requests on orders -/

/-- The orders of the work list take any brackets of at least one frame. -/
theorem FilmSafe.onWork {s : State} (hs : FilmSafe s) {f : WorkList → WorkList} (h : ∀ o ∈ (f s.work).orders, 1 ≤ o.n) :
    FilmSafe (s.onWork f) := by
  have hlog : ∀ x, (s.onWork f).logAt x = s.logAt x := logAt_of_backs (back_of_film rfl) rfl
  refine ⟨⟨fun x l hl => hs.logs x l ((hlog x).symm.trans hl), h, fun c hc => (hs.cycle c hc).of_back rfl rfl, hs.expose, hs.meter,
    fun x l hl => hs.fresh x l ((hlog x).symm.trans hl)⟩, hs.ready⟩

theorem bracket_pos {n : Nat} (h : n ∈ [1, 3, 5, 7, 9]) : 1 ≤ n := by
  simp only [List.mem_cons, List.not_mem_nil, or_false] at h
  omega

theorem placeEffect_safe {s : State} (hs : FilmSafe s) {q : PlaceReq} (h : placeRefusal q s = none) : FilmSafe (placeEffect q s) := by
  have hok : okPlace q = true := firstFailing_none h (okPlace q, .range) (by simp)
  obtain ⟨-, -, -, -, -, hn, -⟩ := (okPlace_iff q).1 hok
  refine FilmSafe.kept (hs.onWork fun o ho => ?_) (logKept_notice _ _)
  rcases List.mem_cons.1 ((insertBy_perm _ _ _).mem_iff.1 ho) with rfl | ho
  · exact bracket_pos hn
  · exact hs.brackets o ho

theorem amendEffect_safe {s : State} (hs : FilmSafe s) {q : AmendReq} (h : amendRefusal q s = none) : FilmSafe (amendEffect q s) := by
  have hok : okAmend q = true := firstFailing_none h (okAmend q, .range) (by simp)
  obtain ⟨-, -, hn, -⟩ := (okAmend_iff q).1 hok
  have hamended : FilmSafe (s.onOrder q.number (amended q)) := hs.onWork fun o ho => by
    obtain ⟨p, hp, rfl⟩ := List.mem_map.1 ho
    split
    · change 1 ≤ pick q.mask 1 q.n p.n
      unfold pick
      split
      · rename_i hbit
        exact bracket_pos (hn hbit)
      · exact hs.brackets p hp
    · exact hs.brackets p hp
  unfold amendEffect
  simp only
  split
  · exact hamended.kept (logKept_releaseOne _ _)
  · exact hamended

theorem logKept_cancelRequestEffect (n : Nat) (s : State) : LogKept s (cancelRequestEffect n s) := by
  unfold cancelRequestEffect
  split
  · exact logKept_onOrder s n (by exact fun _ => rfl)
  · exact logKept_cancelEffect n s

theorem logKept_holdRequestEffect (n : Nat) (s : State) : LogKept s (holdRequestEffect n s) := by
  unfold holdRequestEffect
  split
  · exact logKept_onOrder s n (by exact fun _ => rfl)
  · exact logKept_holdWith n _ s

theorem logKept_releaseRequestEffect (n : Nat) (s : State) : LogKept s (releaseRequestEffect n s) := by
  unfold releaseRequestEffect
  split
  · exact logKept_releaseOne n s
  · exact logKept_onOrder s n (by exact fun _ => rfl)

/-! ## Requests on the stand, the backs, the register and the tally -/

theorem startEffect_safe {s : State} (hs : FilmSafe s) : FilmSafe (startEffect s) := by
  have hhome : FilmSafe (startHome (setStandMode .running s)) := by
    have hrun := hs.kept (logKept_setStandMode .running s)
    unfold startHome
    split
    · exact askJob_safe hrun _ _
    · exact hrun
  have hswap : ∀ s, LogKept s (startSwap s) := fun s => by
    unfold startSwap
    split
    · exact logKept_askSwap _ _ s
    · exact .refl s
  have hnd : ∀ s, LogKept s (startNd s) := fun s => by
    unfold startNd
    split
    · exact logKept_askNd _ _ s
    · exact .refl s
  exact hhome.kept ((((hswap _).trans (hnd _)).trans (logKept_lampLight _)).trans (logKept_startIdle _))

theorem resetCycle_safe {s : State} (hs : FilmSafe s) : FilmSafe (resetCycle s) := by
  unfold resetCycle
  split
  · exact hs
  · rename_i c hc
    split
    · rename_i hx
      obtain ⟨x, hx⟩ := Option.isSome_iff_exists.1 hx
      have hmode := logKept_setStandMode .stopped s
      refine endCycle_safe (hs.kept hmode).toFilmLogs fun d hd => ?_
      obtain rfl : c = d := Option.some.inj (hc.symm.trans (hmode.cycle.symm.trans hd))
      rw [hs.phase_of_aborted hc hx]
      exact ⟨nofun, nofun⟩
    · exact abort_safe hs.toFilmLogs _ _

theorem resetEffect_safe {s : State} (hs : FilmSafe s) : FilmSafe (resetEffect s) := by
  have hcycle : FilmSafe (resetCycle (resetFeeder s)) := resetCycle_safe (hs.kept (logKept_onFeeder s _))
  have hstand : ∀ s, LogKept s (resetStand s) := fun s => (logKept_setStandMode _ s).trans (logKept_onHead_same _ rfl)
  exact hcycle.kept (((logKept_resetOps _).trans (logKept_emptyStack _)).trans (hstand _))

theorem answerUnload_safe {code back : Nat} {b : BackId} {kind : UnloadKind} {refusal : Option Code} {s : State}
    (hs : FilmSafe s) (h : refusal = none → OffCycle s (.back b)) : FilmSafe (answerUnload code back b kind refusal s).1 := by
  unfold answerUnload
  split
  · exact answer_keeps hs fun _ => hs
  · exact answer_keeps hs fun _ => hs
  · rename_i slot hslot
    exact answer_keeps hs fun _ => eventEnd_safe (moveToRegister_safe hs (h rfl) hslot kind) _ _

theorem takeEntries_safe {slot : Nat} {es : List SelectReq} {s : State} (hs : FilmSafe s) : FilmSafe (takeEntries slot es s).1 := by
  induction es generalizing s with
  | nil => exact hs
  | cons e es ih => exact ih (labelEventEnd_safe (hs.kept (logKept_applyEntry slot e s)) s)

theorem logKept_mapEntries (es : List TrayReq) (s : State) : LogKept s (mapEntries es s).1 := by
  induction es generalizing s with
  | nil => exact .refl s
  | cons e es ih =>
    refine LogKept.trans ?_ (ih (mapEntry e s))
    unfold mapEntry
    split
    · exact logKept_onFeeder s _
    · exact .refl s

theorem logKept_setCounterEffect (q : CounterReq) (s : State) : LogKept s (setCounterEffect q s) := by
  unfold setCounterEffect
  simp only
  split
  · exact (logKept_onTally s _).trans (logKept_releaseCeiling _)
  · exact logKept_onTally s _

/-! ## The answer to any request -/

/-- An answer whose event ends with the choice. -/
theorem answer_eventEnd_safe {kind : Nat} {refusal : Option Code} {s : State} {tr : Bool} {fields : List Field} {asked : Bool}
    {after : State} (hs : FilmSafe s) (h : refusal = none → FilmSafe after) :
    FilmSafe (answer kind refusal s tr fields (eventEnd asked s after)).1 :=
  answer_keeps hs fun hr => eventEnd_safe (h hr) _ _

/-- A request that carries fields and changes nothing. -/
theorem answer_read_safe {kind : Nat} {refusal : Option Code} {s : State} {tr : Bool} {fields : List Field} (hs : FilmSafe s) :
    FilmSafe (answer kind refusal s tr fields s).1 := answer_keeps hs fun _ => hs

theorem answerRequest_safe (r : Request) (s : State) (hs : FilmSafe s) : FilmSafe (answerRequest r s).1 := by
  cases r with
  | placeOrder q => exact answer_eventEnd_safe hs fun h => placeEffect_safe hs h
  | amendOrder q => exact answer_eventEnd_safe hs fun h => amendEffect_safe hs h
  | cancelOrder n => exact answer_eventEnd_safe hs fun _ => hs.kept (logKept_cancelRequestEffect n s)
  | holdOrder n => exact answer_eventEnd_safe hs fun _ => hs.kept (logKept_holdRequestEffect n s)
  | releaseOrder n => exact answer_eventEnd_safe hs fun _ => hs.kept (logKept_releaseRequestEffect n s)
  | setFloor v => exact answer_eventEnd_safe hs fun _ => hs.onWork hs.brackets
  | readOrder n i =>
    simp only [answerRequest, answerReadOrder]
    split
    · exact answer_read_safe hs
    · split <;> exact answer_read_safe hs
  | setStock q => exact answer_keeps hs fun _ => hs.kept (logKept_onStocks s _)
  | readStock => exact answer_read_safe hs
  | setProfile c m p f =>
    simp only [answerRequest, answerSetProfile]
    split
    · exact answer_read_safe hs
    · exact answer_keeps hs fun _ => hs.kept (logKept_onProfiles s _)
    · exact answer_read_safe hs
  | setRange k b e p => exact answer_keeps hs fun _ => hs.kept (logKept_onProfiles s _)
  | dropProfile t k => exact answer_keeps hs fun _ => hs.kept (logKept_onProfiles s _)
  | setPlacement k => exact answer_keeps hs fun _ => hs.kept (logKept_onProfiles s _)
  | readProfileTable t k => exact answer_read_safe hs
  | readProfileLookup c => exact answer_read_safe hs
  | mapTray es => exact answer_eventEnd_safe hs fun _ => hs.kept ((logKept_mapEntries es s).trans (logKept_releaseOriginal _))
  | readTray f => exact answer_read_safe hs
  | readHead => exact answer_keeps hs fun _ => hs.kept (.of_same rfl rfl rfl rfl rfl)
  | loadRoll b r k f => exact onNamedBack_keeps hs fun b => answer_eventEnd_safe hs fun h => loadEffect_safe hs h
  | rewindBack b =>
    refine onNamedBack_keeps hs fun b => answer_eventEnd_safe hs fun h => ?_
    have hno := firstFailing_none h (!backInCycle s b && (s.back b).advance.isNone && !(s.back b).owed, .busy) (by simp)
    simp only [Bool.and_eq_true, Bool.not_eq_true'] at hno
    exact hs.freeBackState (off_not_inCycle hno.1.1) _
  | unloadBack b =>
    refine onNamedBack_keeps hs fun b => answerUnload_safe hs fun h => hs.off_rewound ?_
    simpa using firstFailing_none h (decide ((s.back b).state = .rewound), .state) (by simp)
  | clearBack b =>
    refine onNamedBack_keeps hs fun b => answerUnload_safe hs fun h => off_not_inCycle ?_
    simpa using firstFailing_none h (!backInCycle s b, .busy) (by simp)
  | readBack => exact answer_read_safe hs
  | startStand => exact answer_eventEnd_safe hs fun _ => startEffect_safe hs
  | stopStand => exact answer_eventEnd_safe hs fun _ => hs.kept (logKept_stopEffect s)
  | abortSlide => exact answer_eventEnd_safe hs fun _ => abort_safe hs.toFilmLogs _ _
  | resetStand => exact answer_eventEnd_safe hs fun _ => resetEffect_safe hs
  | setStand q => exact answer_eventEnd_safe hs fun _ => hs.kept (logKept_onStand s rfl id)
  | readStand => exact answer_read_safe hs
  | reportSelections r es => exact answer_keeps hs fun _ => (takeEntries_safe hs).kept (logKept_closeTest _ _)
  | closeRoll r d =>
    exact answer_eventEnd_safe hs fun _ => hs.kept ((logKept_settleGroups _ _ s).trans (logKept_closeRoll _ _ _))
  | readRoll r i =>
    simp only [answerRequest, answerReadRoll]
    split
    · exact answer_read_safe hs
    · split
      · exact answer_read_safe hs
      · split <;> exact answer_read_safe hs
  | readFrames r i =>
    simp only [answerRequest, answerReadFrames]
    split
    · exact answer_read_safe hs
    · split <;> exact answer_read_safe hs
  | printLabels c => exact answer_keeps hs fun _ => hs.kept ((logKept_printEffect c s).trans (logKept_printEnd s _))
  | pausePrinter => exact answer_keeps hs fun _ => hs.kept ((logKept_onLabels s _).trans (logKept_printEnd s _))
  | resumePrinter => exact answer_keeps hs fun _ => hs.kept ((logKept_resumeLine s).trans (logKept_printEnd s _))
  | relabel r f =>
    exact answer_keeps hs fun _ => hs.kept (((logKept_setLabelState _ _ s).trans (logKept_fillQueue _)).trans (logKept_printEnd s _))
  | setDate d => exact answer_keeps hs fun _ => hs.kept (logKept_onLabels s _)
  | readLabelsLine i => exact answer_read_safe hs
  | readLabelsRecord r f =>
    simp only [answerRequest, answerReadLabelsRecord]
    split
    · exact answer_read_safe hs
    · split <;> exact answer_read_safe hs
  | setRates m t c => exact answer_eventEnd_safe hs fun _ => hs.kept ((logKept_onTally s _).trans (logKept_releaseCeiling _))
  | setCounter q => exact answer_eventEnd_safe hs fun _ => hs.kept (logKept_setCounterEffect q s)
  | lockCounter k => exact answer_keeps hs fun _ => hs.kept (logKept_onTally s _)
  | adjustAccount a v => exact answer_eventEnd_safe hs fun _ => hs.kept (logKept_post _ _ _ _ s)
  | closePeriod => exact answer_eventEnd_safe hs fun _ => hs.kept ((logKept_onTally s _).trans (logKept_releaseCeiling _))
  | readCounters k => exact answer_read_safe hs

/-! ## Every command -/

theorem powerOnEvent_safe (strap1 strap0 tray gate : Bool) (s : State) : FilmSafe (powerOnEvent strap1 strap0 tray gate s) :=
  filmSafe_of reset_rollsSound reset_filmLogSound

/-- Every command keeps the film logs sound. -/
theorem exec_filmSafe {c : Instr} {s t : State} (hs : FilmSafe s) (h : exec c s = .next t) : FilmSafe t := by
  have hlink : ∀ (s : State) f, FilmSafe s → FilmSafe (s.onLink f) := fun s f hs => hs.kept (logKept_onLink s f)
  cases hr : c.request with
  | some r =>
    rw [exec_of_request hr] at h
    cases h
    exact arrive_keeps hlink answerRequest_safe hs
  | none =>
    cases c with
    | powerOn _ _ _ _ => cases h; exact powerOnEvent_safe _ _ _ _ s
    | frameEnd _ _ _ => cases h; exact frameEnds_keeps hlink hs (testFrame_keeps hlink answerRequest_safe hs)
    | badLengthByte => cases h; exact frameEnds_keeps hlink hs (rejectFrame_keeps hlink hs)
    | gapTimeout _ => cases h; exact frameEnds_keeps hlink hs (rejectFrame_keeps hlink hs)
    | heldRequestTaken => cases h; exact heldTakenEvent_keeps hlink answerRequest_safe hs
    | overrunFrameEnd => cases h; exact overrunEndEvent_keeps hlink hs
    | linkBreak => cases h; exact hlink _ _ hs
    | lineFreeSend => cases h; exact sendNext_keeps hlink (finishSending_keeps hlink answerRequest_safe hs)
    | syncReceived => cases h; exact hlink _ _ hs
    | feederOpStart => cases h; exact eventEnd_safe (startWaitingJob_safe hs) _ _
    | feedHomeDone => cases h; exact hs.kept (logKept_homeSenseEvent s)
    | homeComplete => cases h; exact hs.kept (logKept_homeSenseEvent s)
    | feedComplete => cases h; exact eventEnd_safe (gateLoadedEvent_safe hs) _ _
    | returnComplete => cases h; exact eventEnd_safe (gateClearedEvent_safe hs) _ _
    | feederTimeout => cases h; exact eventEnd_safe (feederTimeoutEvent_safe hs) _ _
    | trayOut => cases h; exact eventEnd_safe (trayOutEvent_safe hs) _ _
    | trayIn => cases h; exact eventEnd_safe (hs.kept (logKept_onFeeder s _)) _ _
    | gateLoaded => cases h; exact eventEnd_safe (gateLoadedEvent_safe hs) _ _
    | gateCleared => cases h; exact eventEnd_safe (gateClearedEvent_safe hs) _ _
    | warmUpEnd _ => cases h; exact eventEnd_safe (warmUpEvent_safe hs _) _ _
    | lampFailure => cases h; exact eventEnd_safe (lampFailureEvent_safe hs) _ _
    | idleTimerExpiry => cases h; exact eventEnd_safe (hs.kept (logKept_idleExpiryEvent s)) _ _
    | meterComplete _ _ _ _ _ => cases h; exact meterEvent_safe hs _
    | meterTimeout => cases h; exact eventEnd_safe (meterTimeoutEvent_safe hs) _ _
    | ndSetStart => cases h; exact hs.kept (logKept_startWaitingNd s)
    | ndSetComplete => cases h; exact hs.kept (logKept_ndCompleteEvent s)
    | ndTimeout => cases h; exact eventEnd_safe (ndTimeoutEvent_safe hs) _ _
    | advanceStart _ => cases h; exact hs.kept (logKept_startWaitingAdvance _ s)
    | advanceComplete _ => cases h; exact eventEnd_safe (advanceCompleteEvent_safe hs _) _ _
    | advanceTimeout _ => cases h; exact eventEnd_safe (advanceTimeoutEvent_safe hs _) _ _
    | filmEnd _ => cases h; exact eventEnd_safe (filmEndEvent_safe hs _) _ _
    | swapStart => cases h; exact hs.kept (logKept_startWaitingSwap s)
    | swapComplete => cases h; exact hs.kept (logKept_swapCompleteEvent s)
    | swapTimeout => cases h; exact eventEnd_safe (swapTimeoutEvent_safe hs) _ _
    | rewindComplete _ => cases h; exact rewindCompleteEvent_safe hs _
    | rewindTimeout _ => cases h; exact rewindTimeoutEvent_safe hs _
    | exposeStart => cases h; exact exposeStartEvent_safe hs
    | shutterTicksEnd => cases h; exact hs.kept (logKept_ticksEndEvent s)
    | exposeComplete => cases h; exact eventEnd_safe (shutterClosedEvent_safe hs) _ _
    | exposeTimeout => cases h; exact eventEnd_safe (exposeTimeoutEvent_safe hs) _ _
    | shutterEarlyClose => cases h; exact eventEnd_safe (shutterClosedEvent_safe hs) _ _
    | printedToken => cases h; exact hs.kept (logKept_printerByteEvent _ s)
    | jammedToken => cases h; exact hs.kept (logKept_printerByteEvent _ s)
    | outOfLabelsToken => cases h; exact hs.kept (logKept_printerByteEvent _ s)
    | formatErrorToken => cases h; exact hs.kept (logKept_printerByteEvent _ s)
    | tokenTimeout => cases h; exact hs.kept (logKept_tokenTimeoutEvent s)
    | unknownPrinterByte _ => cases h; exact hs.kept (logKept_printerByteEvent _ s)
    | labelFrameSent => cases h; exact hs.kept (logKept_onLabels s _)
    | _ => cases hr

/-- Settles O59: each command keeps the film logs, the cycle and the shutter sound, and the queue of commands is not read. -/
theorem filmLogsKept : Obligations.FilmLogsKept := by
  intro s t ⟨hr, hs⟩ h
  rcases step_cases h with rfl | ⟨c, rest, hexec⟩
  · exact hs
  · have hqueue : FilmSafe (s.withPending rest) := (filmSafe_of hr hs).kept (.of_same rfl rfl rfl rfl rfl)
    exact (exec_filmSafe hqueue hexec).filmLogSound

end Sys2Proof.Machine
end


section
/-! The requests that load, rewind and empty a back: the tests in their order, and what is made of the back, the roll record and the
register (O34, O35). -/

namespace Sys2Proof.Machine

/-! ## The back named -/

theorem onNamedBack_of_named {kind back : Nat} {b : BackId} {s : State} {f : BackId → State × Msg}
    (h : (back, b) ∈ [(0, BackId.backA), (1, BackId.backB)]) : onNamedBack kind back s f = f b := by
  simp only [List.mem_cons, List.not_mem_nil, or_false, Prod.mk.injEq] at h
  obtain ⟨rfl, rfl⟩ | ⟨rfl, rfl⟩ := h <;> rfl

theorem onNamedBack_of_unnamed {kind back : Nat} {s : State} {f : BackId → State × Msg} (h : 1 < back) :
    onNamedBack kind back s f = (s, refusedMsg kind .range) := by
  match back, h with
  | n + 2, _ => rfl

/-- The number of a back is 0 or 1, and no other names one. -/
theorem named_or_not (back : Nat) : (∃ b, (back, b) ∈ [(0, BackId.backA), (1, BackId.backB)]) ∨ 1 < back := by
  match back with
  | 0 => exact .inl ⟨.backA, by simp⟩
  | 1 => exact .inl ⟨.backB, by simp⟩
  | n + 2 => exact .inr (Nat.le_add_left 2 n)

theorem eq_of_named {back : Nat} {b : BackId} (h : (back, b) ∈ [(0, BackId.backA), (1, BackId.backB)]) : back = 0 ∨ back = 1 := by
  simp only [List.mem_cons, List.not_mem_nil, or_false, Prod.mk.injEq] at h
  exact h.imp And.left And.left

/-! ## LOAD ROLL -/

theorem loadRange_iff {roll stock declared : Nat} :
    (okRoll roll && okStock stock && inNat 12 72 declared) = true ↔
      (1 ≤ roll ∧ roll ≤ 999999) ∧ stock ≤ 3 ∧ 12 ≤ declared ∧ declared ≤ 72 := by
  rw [Bool.and_eq_true, Bool.and_eq_true, okRoll_iff, inNat_iff, okStock, decide_eq_true_iff, and_assoc]

theorem roll?_eq_none_iff {s : State} {roll : Nat} : s.roll? roll = none ↔ ∀ r ∈ s.allRolls, r.id ≠ roll := by
  simp [State.roll?]

/-- Settles O34: the tests of R92 one by one, and the two ways a back is loaded. -/
theorem loadRoll : Obligations.LoadRoll := by
  intro back roll stock declared s inRange hf hin
  have hrefused : ∀ {b : BackId} {code : Code}, (back, b) ∈ [(0, BackId.backA), (1, .backB)] →
      loadRefusal b roll stock declared s = some code →
      exec (.loadRoll back roll stock declared) s = .next (refusedWith 0x21 code s) := fun hb h =>
    exec_refused rfl hf ((onNamedBack_of_named hb).trans (answer_refused h))
  refine ⟨fun hno => ?_, fun b load hyes hb hload => ?_⟩
  · obtain ⟨b, hb⟩ | hback := named_or_not back
    · refine hrefused hb ?_
      have hrange : ¬(okRoll roll && okStock stock && inNat 12 72 declared) = true := fun h =>
        hno (hin.2 ⟨eq_of_named hb, loadRange_iff.1 h⟩)
      rw [loadRefusal, firstFailing_cons, if_neg hrange]
    · exact exec_refused rfl hf (onNamedBack_of_unnamed hback)
  · have hrange : (okRoll roll && okStock stock && inNat 12 72 declared) = true := loadRange_iff.2 (hin.1 hyes).2
    have hput : ∀ s, putRoll b roll stock declared s = load s := fun s => (hload s).symm
    refine ⟨fun h => hrefused hb ?_, fun h1 h => hrefused hb ?_, fun h1 h2 h => hrefused hb ?_, fun h1 h2 h3 => ?_⟩
    · simp only [loadRefusal, firstFailing_cons, hrange, h, if_true, decide_false, Bool.false_eq_true, if_false]
    · simp only [loadRefusal, firstFailing_cons, hrange, h1, h, if_true, decide_true, Bool.false_eq_true, if_false]
    · have hlive : (s.roll? roll).isNone = false := Option.isNone_eq_false_iff.2 (roll?_isSome_iff.2 h)
      simp only [loadRefusal, firstFailing_cons, hrange, h1, h2, hlive, if_true, decide_true, Bool.false_eq_true, if_false]
    · have hpass : loadRefusal b roll stock declared s = none := by
        simp only [loadRefusal, firstFailing_cons, hrange, h1, h2, roll?_eq_none_iff.2 h3, if_true, decide_true, Option.isNone_none,
          firstFailing_nil]
      have hloaded : exec (.loadRoll back roll stock declared) s = .next
          (replied (acceptedMsg 0x21 false (.u 1 back :: .u 3 roll :: .u 4 s.film.loadSeq :: (loadedState s).fields))
            (fun s => eventEnd false s (loadEffect b roll stock declared s)) s) :=
        exec_replied rfl hf ((onNamedBack_of_named hb).trans (answer_accepted hpass))
      refine ⟨fun h0 => ?_, fun h0 => ?_⟩
      · have hready : ∀ t : State, t.stand.settings.leaderCount = 0 →
            loadEffect b roll stock declared t = releaseFilm stock (setBackState b .ready (load t)) := fun t ht => by
          rw [loadEffect, if_pos ht, hput]
        rw [hloaded, loadedState, if_pos h0]
        exact congrArg (fun t => Host.Outcome.next (placeReply _ (eventEnd false (hunting s) t))) (hready (hunting s) h0)
      · have hleader : ∀ t : State, t.stand.settings.leaderCount ≠ 0 →
            loadEffect b roll stock declared t = askAdvance b .leader false (setBackState b .leader (load t)) := fun t ht => by
          rw [loadEffect, if_neg ht, hput]
        rw [hloaded, loadedState, if_neg h0]
        exact congrArg (fun t => Host.Outcome.next (placeReply _ (eventEnd false (hunting s) t))) (hleader (hunting s) h0)

/-! ## REWIND BACK, UNLOAD BACK, CLEAR BACK -/

theorem backInCycle_iff {s : State} {b : BackId} : backInCycle s b = true ↔ ∃ c, s.stand.cycle = some c ∧ c.back = b := by
  unfold backInCycle
  cases s.stand.cycle <;> simp

theorem isFault_iff {st : BackState} : st.isFault = true ↔ ∃ x, st = .fault x := by cases st <;> simp [BackState.isFault]

theorem canRewind_iff {st : BackState} :
    st.canRewind = true ↔ st = .ready ∨ st = .full ∨ st = .ended ∨ ∃ x, st = .fault x := by cases st <;> simp [BackState.canRewind]

theorem freeSlot?_eq_none {s : State} (h : ∀ k < 8, s.slotRoll? k ≠ none) : freeSlot? s = none := by
  cases hk : freeSlot? s with
  | none => rfl
  | some k =>
    obtain ⟨hlt, hnone⟩ := slotRoll?_of_freeSlot? hk
    exact absurd hnone (h k hlt)

/-- The lowest-numbered free slot (R129). -/
theorem freeSlot?_eq_some {s : State} {k : Nat} (hk : k < 8) (hfree : s.slotRoll? k = none) (hfirst : ∀ j < k, s.slotRoll? j ≠ none) :
    freeSlot? s = some k := by
  refine List.findIdx?_eq_some_iff_getElem.2 ⟨by simpa using hk, ?_, fun j hj => ?_⟩
  · rw [slotRoll?_of_lt hk] at hfree
    simpa using hfree
  · have hused := hfirst j hj
    rw [slotRoll?_of_lt (hj.trans hk)] at hused
    simpa using hused

theorem answerUnload_refused {code back : Nat} {b : BackId} {kind : UnloadKind} {refusal : Option Code} {c : Code} {s : State}
    (h : refusal = some c) : answerUnload code back b kind refusal s = (s, refusedMsg code c) := by
  rw [h]
  rfl

theorem answerUnload_full {code back : Nat} {b : BackId} {kind : UnloadKind} {refusal : Option Code} {s : State}
    (h : refusal = none) (hfree : freeSlot? s = none) : answerUnload code back b kind refusal s = (s, refusedMsg code .full) := by
  simp only [answerUnload, h, hfree]
  rfl

theorem answerUnload_moved {code back : Nat} {b : BackId} {kind : UnloadKind} {refusal : Option Code} {s : State} {k : Nat}
    (h : refusal = none) (hfree : freeSlot? s = some k) :
    answerUnload code back b kind refusal s
      = (eventEnd false s (moveToRegister b k kind s),
          acceptedMsg code false (unloadFields back b k s (moveToRegister b k kind s))) := by
  simp only [answerUnload, h, hfree]
  rfl

theorem moveToRegister_of_roll {b : BackId} {k : Nat} {kind : UnloadKind} {s : State} {r : Roll} (h : (s.back b).roll = some r) :
    moveToRegister b k kind s = closeTest r.id (emptyBack b (shelved k kind r s)) := by
  simp only [moveToRegister, h]
  rfl

theorem shelved_eq (k : Nat) (kind : UnloadKind) (r : Roll) (s : State) :
    shelved k kind r s
      = { s with
          register := s.register.setIfInBounds k (some { r with unloadSeq := some s.film.unloadSeq, unloadKind := some kind }),
          film := { s.film with unloadSeq := (s.film.unloadSeq + 1) % 4294967296 } } := rfl

theorem setBackState_eq (b : BackId) (st : BackState) (s : State) :
    setBackState b st s
      = (if (s.back b).state = st then id
          else queueNotice (.backChanged b st ((s.back b).roll.map fun r =>
            (r.id, r.stock, r.next, if r.endMark = none then r.declared + 1 - r.next else 0))))
        (s.onBack b fun k => { k with state := st }) := by
  have hleft : ∀ r : Roll, r.remaining = if r.endMark = none then r.declared + 1 - r.next else 0 := fun r => by
    unfold Roll.remaining
    cases r.endMark <;> rfl
  simp only [setBackState, hleft]
  split <;> rfl

/-- The tests of the requests that empty a back, on the state of the back. -/
theorem unloadRefusal_eq (b : BackId) (s : State) :
    firstFailing [(decide ((s.back b).state = .rewound), Code.state)] = if (s.back b).state = .rewound then none else some .state := by
  simp only [firstFailing_cons, firstFailing_nil, decide_eq_true_eq]

theorem clearRefusal_eq (b : BackId) (s : State) :
    firstFailing [((s.back b).state.isFault, Code.state), (!backInCycle s b, .busy)]
      = if (s.back b).state.isFault then if backInCycle s b then some .busy else none else some .state := by
  cases backInCycle s b <;> rfl

/-- Settles O35: each request's tests in their order, the record moved into the lowest free slot, and BACK CHANGED. -/
theorem rewindUnloadAndClear : Obligations.RewindUnloadAndClear := by
  refine ⟨fun back s hf h => ⟨?_, ?_, ?_⟩, ?_, setBackState_eq⟩
  · exact exec_refused rfl hf (onNamedBack_of_unnamed h)
  · exact exec_refused rfl hf (onNamedBack_of_unnamed h)
  · exact exec_refused rfl hf (onNamedBack_of_unnamed h)
  · intro back b s canRewind inCycle isFault hf hb hcycle hfault hrewind
    have hcycle := hcycle.trans backInCycle_iff.symm
    have hfault := hfault.trans isFault_iff.symm
    have hrewind : canRewind ↔ (s.back b).state.canRewind = true := by
      rw [hrewind, canRewind_iff, hfault, isFault_iff]
    rw [hcycle, hfault, hrewind]
    have hunload : (s.back b).state = .rewound → firstFailing [(decide ((s.back b).state = .rewound), Code.state)] = none := fun h => by
      rw [unloadRefusal_eq, if_pos h]
    have hclear : (s.back b).state.isFault = true → ¬backInCycle s b = true →
        firstFailing [((s.back b).state.isFault, Code.state), (!backInCycle s b, .busy)] = none := fun h h2 => by
      rw [clearRefusal_eq, if_pos h, if_neg h2]
    refine ⟨fun h => ?_, fun h hbusy => ?_, fun h h2 h3 h4 => ?_, fun h => ?_, fun h => ?_, fun h h2 => ?_,
      fun hfull => ⟨fun h => ?_, fun h h2 => ?_⟩, fun k r move reply hk hfree hfirst hr hmove hreply => ?_⟩
    · exact exec_refused rfl hf ((onNamedBack_of_named hb).trans (answer_refused (show rewindRefusal b s = some .state by
        rw [rewindRefusal, firstFailing_cons, if_neg h])))
    · refine exec_refused rfl hf ((onNamedBack_of_named hb).trans (answer_refused (show rewindRefusal b s = some .busy from ?_)))
      have hno : (!backInCycle s b && (s.back b).advance.isNone && !(s.back b).owed) = false := by
        rcases hbusy with hbusy | hbusy | hbusy
        · simp [hbusy]
        · simp [Option.isNone_eq_false_iff.2 hbusy]
        · simp [hbusy]
      simp only [rewindRefusal, firstFailing_cons, h, hno, if_true, Bool.false_eq_true, if_false]
    · refine exec_replied rfl hf ((onNamedBack_of_named hb).trans (answer_accepted (show rewindRefusal b s = none from ?_)))
      simp only [rewindRefusal, firstFailing_cons, h, Bool.eq_false_iff.2 h2, h3, h4, if_true, Option.isNone_none, Bool.not_false,
        Bool.and_self, firstFailing_nil]
    · exact exec_refused rfl hf ((onNamedBack_of_named hb).trans (answerUnload_refused ((unloadRefusal_eq b s).trans (if_neg h))))
    · exact exec_refused rfl hf ((onNamedBack_of_named hb).trans (answerUnload_refused ((clearRefusal_eq b s).trans (if_neg h))))
    · exact exec_refused rfl hf ((onNamedBack_of_named hb).trans (answerUnload_refused
        ((clearRefusal_eq b s).trans ((if_pos h).trans (if_pos h2)))))
    · exact exec_refused rfl hf ((onNamedBack_of_named hb).trans (answerUnload_full (hunload h) (freeSlot?_eq_none hfull)))
    · exact exec_refused rfl hf ((onNamedBack_of_named hb).trans (answerUnload_full (hclear h h2) (freeSlot?_eq_none hfull)))
    · have hslot : freeSlot? (hunting s) = some k := freeSlot?_eq_some hk hfree hfirst
      have hmoved : ∀ kind, moveToRegister b k kind (hunting s) = move kind (hunting s) := fun kind => by
        have hr : ((hunting s).back b).roll = some r := hr
        rw [moveToRegister_of_roll hr, hmove, emptyBack, shelved_eq]
      have hfields : ∀ kind, unloadFields back b k (hunting s) (move kind (hunting s))
          = [.u 1 back, .u 3 r.id, .u 1 k, .u 4 s.film.unloadSeq,
              .u 1 (if ((move kind (hunting s)).slotRoll? k).isNone then 1 else 0)] := fun kind => by
        have hr : ((hunting s).back b).roll = some r := hr
        rw [unloadFields, hr]
        rfl
      have hdone : ∀ {i : Instr} {req : Request} {code : Nat} {kind : UnloadKind} {refusal : Option Code}, i.request = some req →
          answerRequest req (hunting s) = answerUnload code back b kind refusal (hunting s) → refusal = none →
          exec i s = .next (replied (reply code kind) (fun s => eventEnd false s (move kind s)) s) := fun hi hreq hpass => by
        refine exec_replied hi hf (hreq.trans ((answerUnload_moved hpass hslot).trans ?_))
        rw [hmoved, hfields, hreply]
      exact ⟨fun h => hdone rfl (onNamedBack_of_named hb) (hunload h), fun h h2 => hdone rfl (onNamedBack_of_named hb) (hclear h h2)⟩

end Sys2Proof.Machine
end

section
/-! The events of the film transport: the ADVANCE of a back, the SWAP of the turret and REWIND (O48, O49). -/

namespace Sys2Proof.Machine

/-! ## Events of a back that no choice follows -/

/-- An event that changes a back and not its state runs no choice and sends no STAND CHANGED (R10, R110). -/
theorem eventEnd_of_back {s : State} (hd : NumbersDistinct s) (b : BackId) {f : Back → Back}
    (h : (f (s.back b)).state = (s.back b).state) : eventEnd false s (s.onBack b f) = s.onBack b f := by
  have hstate : ∀ c, ((s.onBack b f).back c).state = (s.back c).state := fun c => by
    by_cases hc : c = b
    · rw [hc, onBack_same, h]
    · rw [onBack_other _ _ _ _ hc]
  have hno : ¬(false || choiceTriggered s (s.onBack b f)) = true := by
    rw [Bool.false_or, choiceTriggered_iff]
    rintro (⟨h1, h2⟩ | ⟨h1, h2⟩ | ⟨o, ho, hmoved⟩ | ⟨c, h1, h2⟩ | h)
    · exact h1 h2
    · rw [show s.stand.cycle = none from h2] at h1
      cases h1
    · exact not_orderMoved hd rfl ho hmoved
    · exact h1 ((hstate c).symm.trans h2)
    · exact h rfl
  rw [eventEnd, if_neg hno, standEnd, if_pos ⟨rfl, rfl, rfl⟩]

/-! ## The ADVANCE asked for, started and waiting -/

theorem askAdvance_of_idle {b : BackId} {s : State} (cause : AdvanceCause) (ofCycle : Bool) (ha : (s.back b).advance = none)
    (hw : (s.back b).waiting = []) :
    askAdvance b cause ofCycle s = s.onBack b fun k =>
      { k with advance := some { cause := cause, limit := s.stand.settings.advanceLimit, ofCycle := ofCycle } } :=
  if_pos ⟨by rw [ha]; rfl, hw⟩

theorem askAdvance_of_busy {b : BackId} {s : State} (cause : AdvanceCause) (ofCycle : Bool)
    (h : (s.back b).advance ≠ none ∨ (s.back b).waiting ≠ []) :
    askAdvance b cause ofCycle s
      = s.onBack b fun k => { k with waiting := k.waiting ++ [{ cause := cause, ofCycle := ofCycle }] } :=
  if_neg (by rwa [Option.isNone_iff_eq_none, not_and_or])

theorem startOwed_of_owed {b : BackId} {s : State} (ho : (s.back b).owed = true) (ha : (s.back b).advance = none) :
    startOwed b s = s.onBack b fun k =>
      { k with
        advance := some { cause := .spent, limit := s.stand.settings.advanceLimit, ofCycle := false }, owed := false } := by
  rw [startOwed, if_pos ⟨ho, by rw [ha]; rfl⟩, startAdvance, onBack_onBack]

theorem startOwed_of_not {b : BackId} {s : State} (h : (s.back b).owed = false ∨ (s.back b).advance ≠ none) : startOwed b s = s := by
  refine if_neg fun ⟨ho, ha⟩ => ?_
  rw [Option.isNone_iff_eq_none] at ha
  rcases h with h | h
  · rw [ho] at h
    cases h
  · exact h ha

theorem startWaitingAdvance_of_none {b : BackId} {s : State}
    (h : (s.back b).advance.isSome = true ∨ ((s.back b).owed = false ∧ (s.back b).waiting = [])) : startWaitingAdvance b s = s := by
  unfold startWaitingAdvance
  split
  · rfl
  · rename_i ha
    obtain ⟨ho, hw⟩ := h.resolve_left ha
    rw [ho, hw, if_neg Bool.false_ne_true]

theorem startWaitingAdvance_of_owed {b : BackId} {s : State} (ha : (s.back b).advance = none) (ho : (s.back b).owed = true) :
    startWaitingAdvance b s = startOwed b s := by
  rw [startWaitingAdvance, ha, if_neg nofun, if_pos ho]

theorem startWaitingAdvance_of_cons {b : BackId} {s : State} {w : AdvanceWait} {ws : List AdvanceWait}
    (ha : (s.back b).advance = none) (ho : (s.back b).owed = false) (hw : (s.back b).waiting = w :: ws) :
    startWaitingAdvance b s = s.onBack b fun k =>
      { k with
        advance := some { cause := w.cause, limit := s.stand.settings.advanceLimit, ofCycle := w.ofCycle }, waiting := ws } := by
  rw [startWaitingAdvance, ha, if_neg nofun, ho, if_neg Bool.false_ne_true, hw]
  exact onBack_onBack b _ _ s

/-! ## The ADVANCE completed, by the state of the back -/

/-- A leader ADVANCE with more to come (R93). -/
theorem movedOn_of_more {b : BackId} {s t : State} (ht : t = s.onBack b fun k => { k with advance := none, gateFrame := .fresh })
    (hl : (s.back b).state = .leader) (h : 1 < (s.back b).leaderLeft) :
    movedOn b s = t.onBack b fun k =>
      { k with
        advance := some { cause := .leader, limit := s.stand.settings.advanceLimit, ofCycle := false },
        leaderLeft := k.leaderLeft - 1 } := by
  have hleft : 1 < (t.back b).leaderLeft := by rw [ht, onBack_same]; exact h
  have hstand : t.stand = s.stand := by rw [ht]; rfl
  simp only [movedOn, hl, ← ht]
  rw [leaderStep, if_pos hleft, startAdvance, onBack_onBack, ← hstand]
  rfl

theorem setBackState_back (b : BackId) (st : BackState) (s : State) : (setBackState b st s).back b = { s.back b with state := st } := by
  rw [setBackState_eq]
  split
  · exact onBack_same b _ s
  · rw [queueNotice_back, onBack_same]

/-- The last leader ADVANCE: the back is READY and the FILM holds of its stock are released (R93). -/
theorem movedOn_of_last {b : BackId} {s t : State} (ht : t = s.onBack b fun k => { k with advance := none, gateFrame := .fresh })
    (hl : (s.back b).state = .leader) (h : (s.back b).leaderLeft ≤ 1) :
    movedOn b s = (match (s.back b).roll with | some r => releaseFilm r.stock | none => id)
      (setBackState b .ready (t.onBack b fun k => { k with leaderLeft := 0 })) := by
  have hleft : ¬1 < (t.back b).leaderLeft := by rw [ht, onBack_same]; exact Nat.not_lt.2 h
  have hstock : ((setBackState b .ready (t.onBack b fun k => { k with leaderLeft := 0 })).back b).stock?
      = (s.back b).roll.map fun r => r.stock := by
    rw [setBackState_back, onBack_same, ht, onBack_same]
    rfl
  simp only [movedOn, hl, ← ht]
  rw [leaderStep, if_neg hleft]
  simp only [hstock]
  cases (s.back b).roll <;> rfl

/-- A READY back whose declared frames are all used is FULL (R95). -/
theorem movedOn_of_ready {b : BackId} {s t : State} (ht : t = s.onBack b fun k => { k with advance := none, gateFrame := .fresh })
    (hr : (s.back b).state = .ready) :
    movedOn b s = (match (s.back b).roll with
      | some r => if r.next = r.declared + 1 then setBackState b .full else id
      | none => id) t := by
  have hroll : (t.back b).roll = (s.back b).roll := by rw [ht, onBack_same]
  simp only [movedOn, hr, ← ht, fullWhenUsed, hroll]
  cases (s.back b).roll with
  | none => rfl
  | some r => by_cases hused : r.next = r.declared + 1 <;> simp [hused]

theorem movedOn_of_other {b : BackId} {s : State} (hl : (s.back b).state ≠ .leader) (hr : (s.back b).state ≠ .ready) :
    movedOn b s = s.onBack b fun k => { k with advance := none, gateFrame := .fresh } := by
  unfold movedOn
  split
  · rename_i h
    exact absurd h hl
  · rename_i h
    exact absurd h hr
  · rfl

/-! ## The ADVANCE that fails, and the failure of a cycle's back -/

theorem winds_iff {k : Back} : k.winds = true ↔ k.state = .leader ∨ k.state = .ready ∨ k.state = .full := by
  simp only [Back.winds, Bool.or_eq_true, decide_eq_true_eq, or_assoc]

theorem advanceFails_of_winds {b : BackId} {st : BackState} {cause : AbortCause} {s : State} (h : (s.back b).winds = true) :
    advanceFails b st cause s = backFailed b cause
      (setBackState b st (s.onBack b fun k => { k with advance := none, owed := false, leaderLeft := 0 })) := by
  rw [advanceFails, if_pos h]

theorem advanceFails_of_still {b : BackId} {st : BackState} {cause : AbortCause} {s : State} (h : ¬(s.back b).winds = true) :
    advanceFails b st cause s = s.onBack b fun k => { k with advance := none, owed := false, leaderLeft := 0 } := by
  rw [advanceFails, if_neg h]

theorem backFailed_of_other {b : BackId} {cause : AbortCause} {s : State}
    (h : ∀ c, s.stand.cycle = some c → c.back = b → c.cause ≠ none) : backFailed b cause s = s := by
  unfold backFailed
  split
  · rfl
  · rename_i c hc
    rw [if_neg fun hlive => h c hc hlive.1 hlive.2]

theorem backFailed_of_cycle {b : BackId} {cause : AbortCause} {s : State} {c : Cycle} (hc : s.stand.cycle = some c) (hb : c.back = b)
    (hlive : c.cause = none) :
    backFailed b cause s = if c.phase = .finishing then tryEndNormal s else abort cause none s := by
  simp only [backFailed, hc, hb, hlive, and_self, if_true]

/-! ## The step after an ADVANCE -/

theorem askStepNd_of_step {s : State} {c : Cycle} {p : PlanStep} (hc : s.stand.cycle = some c) (hp : c.step? = some p) :
    askStepNd s = if s.head.nd = some p.nd then s else askNd p.nd true s := by
  simp only [askStepNd, hc, Option.bind_some, hp]

theorem askStepNd_of_none {s : State} {c : Cycle} (hc : s.stand.cycle = some c) (hp : c.step? = none) : askStepNd s = s := by
  simp only [askStepNd, hc, Option.bind_some, hp]

theorem stepAdvanced_of_cycle {s : State} {c : Cycle} (hc : s.stand.cycle = some c) :
    stepAdvanced s = if c.phase = .advancing then
        askStepNd { s with stand := { s.stand with cycle := some { c with phase := .exposing } } }
      else tryEndNormal s := by
  simp only [stepAdvanced, hc, onCycle, State.onStand, Option.map_some]

/-- An ADVANCE of a back ends without its completion: by the timeout or by the film end (R96, R97). -/
theorem exec_advanceFails {b : BackId} {s : State} {c : Instr} {st : BackState} {cause : AbortCause} {t : State}
    (ha : (s.back b).advance.isSome = true)
    (h : (c, st, cause) = (.advanceTimeout b, BackState.fault .advanceTimeout, AbortCause.advanceTimeout)
          ∧ t = (s.onBack b fun k => { k with advance := none, owed := false, leaderLeft := 0 })
        ∨ (c, st, cause) = (.filmEnd b, BackState.ended, AbortCause.filmEnd)
          ∧ t = (s.onBack b fun k =>
            { k with
              advance := none, owed := false, leaderLeft := 0,
              roll := k.roll.map fun r => { r with endMark := some r.next } })) :
    exec c s = .next (eventEnd false s (if (s.back b).winds then backFailed b cause (setBackState b st t) else t)) := by
  obtain ⟨heq, rfl⟩ | ⟨heq, rfl⟩ := h
  · obtain ⟨rfl, rfl, rfl⟩ : c = .advanceTimeout b ∧ st = .fault .advanceTimeout ∧ cause = .advanceTimeout := by simpa using heq
    change Host.Outcome.next (eventEnd false s (advanceTimeoutEvent b s)) = _
    rw [advanceTimeoutEvent, if_pos ha]
    rfl
  · obtain ⟨rfl, rfl, rfl⟩ : c = .filmEnd b ∧ st = .ended ∧ cause = .filmEnd := by simpa using heq
    change Host.Outcome.next (eventEnd false s (filmEndEvent b s)) = _
    have hwinds : ((s.onBackRoll b fun r => { r with endMark := some r.next }).back b).winds = (s.back b).winds := by
      rw [State.onBackRoll, onBack_same]
      rfl
    rw [filmEndEvent, if_pos ha, advanceFails, hwinds, State.onBackRoll, onBack_onBack]

/-- Settles O48: each event of an ADVANCE by the state of its back, and what the cycle makes of it. -/
theorem advanceEvents : Obligations.AdvanceEvents := by
  intro b s hd
  refine ⟨fun h => congrArg Host.Outcome.next (startWaitingAdvance_of_none h), fun ha ho => ?_,
    fun w ws ha ho hw => congrArg Host.Outcome.next (startWaitingAdvance_of_cons ha ho hw), fun h => ⟨?_, ?_, ?_⟩,
    fun a t u ha ht hmore hlast hready hother => ?_, fun c st cause t ha h => ⟨fun hw => ?_, fun h1 h2 h3 => ?_⟩,
    fun cause => ⟨backFailed_of_other, fun c hc hb hlive => ⟨fun hphase => ?_, fun hphase => ?_⟩⟩,
    fun cause ofCycle => ⟨askAdvance_of_idle cause ofCycle, askAdvance_of_busy cause ofCycle⟩, startOwed_of_owed, startOwed_of_not,
    fun c hc => ⟨fun p hp => ⟨fun hnd => ?_, fun hnd => ?_⟩, askStepNd_of_none hc⟩, fun c hc => ⟨fun hphase => ?_, fun hphase => ?_⟩⟩
  · change Host.Outcome.next (startWaitingAdvance b s) = _
    rw [startWaitingAdvance_of_owed ha ho, startOwed_of_owed ho ha]
  · change Host.Outcome.next (eventEnd false s (advanceCompleteEvent b s)) = _
    simp only [advanceCompleteEvent, h, eventEnd_self hd]
  · change Host.Outcome.next (eventEnd false s (advanceTimeoutEvent b s)) = _
    rw [advanceTimeoutEvent, h, if_neg nofun, eventEnd_self hd]
  · change Host.Outcome.next (eventEnd false s (filmEndEvent b s)) = _
    rw [filmEndEvent, h, if_neg nofun, eventEnd_self hd]
  · have hu : movedOn b s = u := by
      by_cases hl : (s.back b).state = .leader
      · by_cases hmany : 1 < (s.back b).leaderLeft
        · exact (movedOn_of_more ht hl hmany).trans (hmore hl hmany).symm
        · exact (movedOn_of_last ht hl (Nat.not_lt.1 hmany)).trans (hlast hl (Nat.not_lt.1 hmany)).symm
      · by_cases hr : (s.back b).state = .ready
        · exact (movedOn_of_ready ht hr).trans (hready hr).symm
        · rw [movedOn_of_other hl hr, ← ht, hother hl hr]
    change Host.Outcome.next (eventEnd false s (advanceCompleteEvent b s)) = _
    rw [advanceCompleteEvent_eq ha, hu]
  · rw [exec_advanceFails ha h, if_pos (winds_iff.2 hw)]
  · have hstill : ¬(s.back b).winds = true := fun hw => by
      rcases winds_iff.1 hw with hw | hw | hw
      · exact h1 hw
      · exact h2 hw
      · exact h3 hw
    rw [exec_advanceFails ha h, if_neg hstill]
    obtain ⟨-, rfl⟩ | ⟨-, rfl⟩ := h
    · rw [eventEnd_of_back hd b rfl]
    · rw [eventEnd_of_back hd b rfl]
  · rw [backFailed_of_cycle hc hb hlive, if_pos hphase]
  · rw [backFailed_of_cycle hc hb hlive, if_neg hphase]
  · rw [askStepNd_of_step hc hp, if_pos hnd]
  · rw [askStepNd_of_step hc hp, if_neg hnd]
  · rw [stepAdvanced_of_cycle hc, if_pos hphase]
  · rw [stepAdvanced_of_cycle hc, if_neg hphase]

/-! ## SWAP -/

/-- What a SWAP waits on (R102). -/
def swapWaitsOn (s : State) : Prop :=
  ∃ k, s.film.turret = .stands k
    ∧ ((s.back k).advance.isSome = true ∨ (s.stand.expose.isSome = true ∧ ∃ c, s.stand.cycle = some c ∧ c.back = k))

theorem exposingOn_iff {s : State} {b : BackId} :
    exposingOn s b = true ↔ s.stand.expose.isSome = true ∧ ∃ c, s.stand.cycle = some c ∧ c.back = b := by
  unfold exposingOn
  cases s.stand.cycle <;> simp

theorem swapBlocked_iff {s : State} : swapBlocked s = true ↔ swapWaitsOn s := by
  unfold swapBlocked swapWaitsOn
  cases s.film.turret with
  | stands k => simp [exposingOn_iff, or_comm]
  | turning k => simp
  | unknown => simp

theorem swapMayStart_iff {target : BackId} {s : State} :
    swapMayStart target s = true ↔ ¬(s.film.swap.isSome = true ∨ (s.film.turret ≠ .stands target ∧ swapWaitsOn s)) := by
  rw [swapMayStart, Bool.and_eq_true, Bool.or_eq_true, decide_eq_true_iff, Bool.not_eq_true', ← Bool.not_eq_true, swapBlocked_iff,
    Option.isNone_iff_eq_none, Option.isSome_iff_ne_none]
  tauto

theorem beginSwap_of_there {target : BackId} {ofCycle : Bool} {s : State} (h : s.film.turret = .stands target) :
    beginSwap target ofCycle s = s := if_pos h

theorem beginSwap_of_away {target : BackId} {ofCycle : Bool} {s : State} (h : s.film.turret ≠ .stands target) :
    beginSwap target ofCycle s
      = { s with film :=
            { s.film with turret := .turning target, swap := some { target := target, stale := false, ofCycle := ofCycle } } } :=
  if_neg h

theorem startWaitingSwap_of_cons {s : State} {w : SwapWait} {ws : List SwapWait} (h : s.film.swapWaiting = w :: ws) :
    startWaitingSwap s = if swapMayStart w.target s then
        beginSwap w.target w.ofCycle { s with film := { s.film with swapWaiting := ws } }
      else s := by
  simp only [startWaitingSwap, h, State.onFilm]

theorem swapTimeoutEvent_of_some {s : State} {o : SwapOp} (ho : s.film.swap = some o) :
    swapTimeoutEvent s = haltReport .swapTimeout o.stale { s with film := { s.film with turret := .unknown, swap := none } } := by
  simp only [swapTimeoutEvent, ho, State.onFilm]

/-- Settles O49: SWAP asked for, waiting, completed and timed out, and the ends of REWIND. -/
theorem swapAndRewindEvents : Obligations.SwapAndRewindEvents := by
  intro s hd
  refine ⟨fun target ofCycle blocked hblocked => ?_, fun h => ?_, fun w ws blocked hw hblocked => ?_, fun h => ⟨?_, ?_⟩,
    fun o ho => ?_, fun o t ho ht => ?_, fun b => ⟨fun h => ⟨?_, ?_⟩, fun h => ⟨?_, ?_⟩⟩⟩
  · have hgo : ¬blocked ↔ s.film.swapWaiting = [] ∧ swapMayStart target s = true := by
      rw [swapMayStart_iff, hblocked]
      change ¬(_ ∨ _ ∨ _ ∧ swapWaitsOn s) ↔ _
      tauto
    refine ⟨fun h hthere => ?_, fun h haway => ?_, fun h => ?_⟩
    · rw [askSwap, if_pos (hgo.1 h), beginSwap_of_there hthere]
    · rw [askSwap, if_pos (hgo.1 h), beginSwap_of_away haway]
    · rw [askSwap, if_neg fun hstart => hgo.2 hstart h]
      rfl
  · change Host.Outcome.next (startWaitingSwap s) = _
    simp only [startWaitingSwap, h]
  · have hgo : ¬blocked ↔ swapMayStart w.target s = true := by
      rw [swapMayStart_iff, hblocked]
      exact Iff.rfl
    change (_ → Host.Outcome.next (startWaitingSwap s) = _) ∧ (_ → _ → Host.Outcome.next (startWaitingSwap s) = _)
      ∧ (_ → _ → Host.Outcome.next (startWaitingSwap s) = _)
    rw [startWaitingSwap_of_cons hw]
    refine ⟨fun h => ?_, fun h hthere => ?_, fun h haway => ?_⟩
    · rw [if_neg fun hstart => hgo.2 hstart h]
    · rw [if_pos (hgo.1 h)]
      exact congrArg Host.Outcome.next (beginSwap_of_there (by exact hthere))
    · rw [if_pos (hgo.1 h)]
      exact congrArg Host.Outcome.next (beginSwap_of_away (by exact haway))
  · change Host.Outcome.next (swapCompleteEvent s) = _
    simp only [swapCompleteEvent, h]
  · change Host.Outcome.next (eventEnd false s (swapTimeoutEvent s)) = _
    simp only [swapTimeoutEvent, h, eventEnd_self hd]
  · change Host.Outcome.next (swapCompleteEvent s) = _
    simp only [swapCompleteEvent, ho, State.onFilm]
  · have hexec : exec .swapTimeout s = .next (eventEnd false s (haltReport .swapTimeout o.stale t)) := by
      rw [ht, ← swapTimeoutEvent_of_some ho]
      rfl
    refine ⟨hexec, fun hc hstale hw => ?_⟩
    rw [hexec, hstale, haltReport_of_none _ hw hc (by rw [ht]), eventEnd_halted hw]
  · change Host.Outcome.next (rewindCompleteEvent b s) = _
    rw [rewindCompleteEvent, if_pos h]
  · change Host.Outcome.next (rewindTimeoutEvent b s) = _
    rw [rewindTimeoutEvent, if_pos h]
  · change Host.Outcome.next (rewindCompleteEvent b s) = _
    rw [rewindCompleteEvent, if_neg h]
  · change Host.Outcome.next (rewindTimeoutEvent b s) = _
    rw [rewindTimeoutEvent, if_neg h]

end Sys2Proof.Machine
end

section
/-! The shutter: the conditions on which it opens, and an exposure completed (O50). -/

namespace Sys2Proof.Machine

/-! ## The conditions of an exposure -/

theorem shutterMayOpen_iff {s : State} {b : BackId} :
    shutterMayOpen s b = true ↔
      (s.back b).state = .ready ∧ s.film.turret = .stands b ∧ s.film.swap = none ∧ (s.back b).gateFrame = .fresh
        ∧ (s.back b).advance = none ∧ (s.back b).owed = false ∧ ∃ r, (s.back b).roll = some r ∧ r.next ≤ r.declared := by
  unfold shutterMayOpen
  cases (s.back b).roll <;> simp [and_assoc]

theorem mayExpose_iff {s : State} {c : Cycle} {p : PlanStep} :
    mayExpose s c p = true ↔
      c.phase = .exposing ∧ c.cause = none ∧ s.stand.expose = none ∧ s.head.nd = some p.nd ∧ s.head.ndOp = none
        ∧ s.head.lamp = .ready ∧ s.feeder.gate = .holds c.pos c.cat ∧ shutterMayOpen s c.back = true := by
  simp only [mayExpose, Bool.and_eq_true, decide_eq_true_eq, Option.isNone_iff_eq_none, gateHolds_iff, and_assoc]

theorem exposeStartEvent_of_step {s : State} {c : Cycle} {p : PlanStep} (hc : s.stand.cycle = some c) (hp : c.step? = some p) :
    exposeStartEvent s = if mayExpose s c p then
        { s with stand := { s.stand with expose := some { ticks := p.ticks, closing := false } } }
      else s := by
  simp only [exposeStartEvent, hc, hp, State.onStand]

theorem exposeStartEvent_of_none {s : State} (h : ∀ c, s.stand.cycle = some c → c.step? = none) : exposeStartEvent s = s := by
  unfold exposeStartEvent
  split
  · rfl
  · rename_i c hc
    simp only [h c hc]

/-! ## The shutter-closed sense -/

theorem shutterClosedEvent_of_early {s : State} {e : Expose} (he : s.stand.expose = some e) (h : e.closing = false) :
    shutterClosedEvent s = haltReport .shutterFault false s := by
  simp only [shutterClosedEvent, he, h, Bool.false_eq_true, if_false, shutterFail]

theorem shutterClosedEvent_of_closing {s : State} {e : Expose} {c : Cycle} {p : PlanStep} (he : s.stand.expose = some e)
    (h : e.closing = true) (hc : s.stand.cycle = some c) (hp : c.step? = some p) : shutterClosedEvent s = exposeDone c p s := by
  simp only [shutterClosedEvent, he, h, hc, hp, if_true]

/-! ## An exposure completed -/

/-- The frame record of a step exposed now, with its FRAME amount and account (R89, R170). -/
def exposureFrame (c : Cycle) (p : PlanStep) (s : State) : Roll → Frame :=
  stepFrame c p .exposure (some (frameAmount s c.stock c.cls)) (some c.account)

/-- The posting made, the frame written and counted, the shutter closed (R90, R121). -/
def billed (c : Cycle) (p : PlanStep) (s : State) : State :=
  exposed c (exposureFrame c p s) (post .frame c.account (some c.stock) (frameAmount s c.stock c.cls) s)

/-- That state with the step's ADVANCE asked for (R121). -/
def framed (c : Cycle) (p : PlanStep) (s : State) : State := askAdvance c.back .step true (billed c p s)

/-- The cycle past the exposure of its step, in a phase. -/
def Cycle.stepped (c : Cycle) (phase : Phase) : Cycle := { c with nextStep := c.nextStep + 1, phase := phase }

/-- After the last step of the plan the RETURN is asked for (R121). -/
theorem exposeDone_eq (c : Cycle) (p : PlanStep) (s : State) :
    exposeDone c p s = if c.nextStep + 1 < (c.plan.map fun p => p.steps.length).getD 0 then
        onCycle (fun d => d.stepped .advancing) (framed c p s)
      else onCycle (fun d => d.stepped .finishing) (askReturn (returnPos (framed c p s) c) (framed c p s)) := rfl

/-- An ADVANCE asked for changes the ADVANCE of the back and its waiting ones, nothing else. -/
theorem askAdvance_form (b : BackId) (cause : AdvanceCause) (ofCycle : Bool) (s : State) :
    ∃ f : Back → Back, askAdvance b cause ofCycle s = s.onBack b f ∧ ∀ k, (f k).roll = k.roll ∧ (f k).gateFrame = k.gateFrame := by
  unfold askAdvance
  split
  · exact ⟨_, rfl, fun _ => ⟨rfl, rfl⟩⟩
  · exact ⟨_, rfl, fun _ => ⟨rfl, rfl⟩⟩

theorem SameButTally.stand {s t : State} (h : SameButTally s t) : t.stand = s.stand := by rw [h]

theorem SameButTally.feeder {s t : State} (h : SameButTally s t) : t.feeder = s.feeder := by rw [h]

theorem exposed_stand (c : Cycle) (frame : Roll → Frame) (s : State) :
    (exposed c frame s).stand = { s.stand with expose := none } := rfl

theorem exposed_feeder (c : Cycle) (frame : Roll → Frame) (s : State) : (exposed c frame s).feeder = s.feeder := rfl

theorem exposed_tally (c : Cycle) (frame : Roll → Frame) (s : State) : (exposed c frame s).tally = s.tally := rfl

theorem onBack_stand (b : BackId) (f : Back → Back) (s : State) : (s.onBack b f).stand = s.stand := rfl

theorem onBack_feeder (b : BackId) (f : Back → Back) (s : State) : (s.onBack b f).feeder = s.feeder := rfl

theorem billed_stand (c : Cycle) (p : PlanStep) (s : State) : (billed c p s).stand = { s.stand with expose := none } := by
  rw [billed, exposed_stand, (sameButTally_post _ _ _ _ s).stand]

/-- The blocks an exposure completed leaves: all but its posting's, the cycle's back and the shutter. -/
theorem framed_blocks (c : Cycle) (p : PlanStep) (s : State) :
    (framed c p s).stand = { s.stand with expose := none } ∧ (framed c p s).feeder = s.feeder
      ∧ (framed c p s).tally = (post .frame c.account (some c.stock) (frameAmount s c.stock c.cls) s).tally := by
  obtain ⟨f, hask, -⟩ := askAdvance_form c.back .step true (billed c p s)
  rw [framed, hask, onBack_stand, onBack_feeder, onBack_tally, billed_stand, billed, exposed_feeder, exposed_tally,
    (sameButTally_post _ _ _ _ s).feeder]
  exact ⟨rfl, rfl, rfl⟩

theorem exposed_back (c : Cycle) (frame : Roll → Frame) (s : State) :
    (exposed c frame s).back c.back
      = { s.back c.back with
          roll := (s.back c.back).roll.map fun r => (r.addFrame (frame r)).onGroup (c.groupFirst.getD 0) Group.oneMore,
          gateFrame := .spent } := by
  have hstand : ∀ (b : BackId) (u : State) (f : Stand → Stand), (u.onStand f).back b = u.back b := fun b u f => by cases b <;> rfl
  rw [exposed, hstand, State.onBackRoll, onBack_same, writeFrame, onBack_same, Option.map_map]
  rfl

/-- The cycle's back with the frame of the step written and counted. -/
theorem billed_back (c : Cycle) (p : PlanStep) (s : State) :
    (billed c p s).back c.back
      = { s.back c.back with
          roll := (s.back c.back).roll.map fun r =>
            (r.addFrame (exposureFrame c p s r)).onGroup (c.groupFirst.getD 0) Group.oneMore,
          gateFrame := .spent } := by
  rw [billed, exposed_back, (sameButTally_post _ _ _ _ s).back]

/-- The gate frame is SPENT, and the roll has its frame more (R90). -/
theorem framed_back {c : Cycle} {s : State} {r : Roll} (p : PlanStep) (hr : (s.back c.back).roll = some r) :
    ((framed c p s).back c.back).gateFrame = .spent
      ∧ ((framed c p s).back c.back).roll
        = some ((r.addFrame (exposureFrame c p s r)).onGroup (c.groupFirst.getD 0) Group.oneMore) := by
  obtain ⟨f, hask, hsame⟩ := askAdvance_form c.back .step true (billed c p s)
  obtain ⟨hroll, hgate⟩ := hsame ((billed c p s).back c.back)
  rw [framed, hask, onBack_same, hroll, hgate, billed_back, hr]
  exact ⟨rfl, rfl⟩

/-- With no ADVANCE of the back in flight or waiting the step's ADVANCE starts at once (R94, R121). -/
theorem framed_advance {c : Cycle} {s : State} (p : PlanStep) (ha : (s.back c.back).advance = none)
    (hw : (s.back c.back).waiting = []) :
    ((framed c p s).back c.back).advance
      = some { cause := .step, limit := s.stand.settings.advanceLimit, ofCycle := true } := by
  have hback := billed_back c p s
  rw [framed, askAdvance_of_idle .step true (by rw [hback]; exact ha) (by rw [hback]; exact hw), onBack_same, billed_stand]

theorem onCycle_back (f : Cycle → Cycle) (s : State) (b : BackId) : (onCycle f s).back b = s.back b := by cases b <;> rfl

/-- A RETURN asked for changes the feeder alone. -/
theorem askReturn_leaves (pos : Nat) (s : State) :
    (askReturn pos s).stand = s.stand ∧ (askReturn pos s).tally = s.tally ∧ ∀ b, (askReturn pos s).back b = s.back b := by
  unfold askReturn
  split
  · exact ⟨rfl, rfl, fun b => by cases b <;> rfl⟩
  · exact ⟨rfl, rfl, fun b => by cases b <;> rfl⟩

/-- What an exposure completed leaves of the state with the step's ADVANCE asked for: the phase, and the RETURN's place in the feeder. -/
theorem exposeDone_leaves (c : Cycle) (p : PlanStep) (s : State) :
    ∃ phase, (exposeDone c p s).stand
        = { s.stand with expose := none, cycle := s.stand.cycle.map fun d => d.stepped phase }
      ∧ (exposeDone c p s).tally = (framed c p s).tally ∧ ∀ b, (exposeDone c p s).back b = (framed c p s).back b := by
  obtain ⟨hstand, -, -⟩ := framed_blocks c p s
  have hcycle : ∀ (f : Cycle → Cycle) (u : State), u.stand = { s.stand with expose := none } →
      (onCycle f u).stand = { s.stand with expose := none, cycle := s.stand.cycle.map f } := fun f u hu => by
    change { u.stand with cycle := u.stand.cycle.map f } = _
    rw [hu]
  rw [exposeDone_eq]
  split
  · exact ⟨_, hcycle _ _ hstand, rfl, onCycle_back _ _⟩
  · obtain ⟨kstand, ktally, kback⟩ := askReturn_leaves (returnPos (framed c p s) c) (framed c p s)
    exact ⟨_, hcycle _ _ (kstand.trans hstand), ktally, fun b => (onCycle_back _ _ b).trans (kback b)⟩

/-- Before the last step the cycle is ADVANCING. -/
theorem exposeDone_of_more {c : Cycle} {s : State} {plan : Plan} (p : PlanStep) (hc : s.stand.cycle = some c)
    (hplan : c.plan = some plan) (h : c.nextStep + 1 < plan.steps.length) :
    (exposeDone c p s).stand.cycle = some (c.stepped .advancing) ∧ (exposeDone c p s).feeder = s.feeder := by
  obtain ⟨hstand, hfeeder, -⟩ := framed_blocks c p s
  have hmore : c.nextStep + 1 < (c.plan.map fun p => p.steps.length).getD 0 := by rw [hplan]; exact h
  rw [exposeDone_eq, if_pos hmore]
  refine ⟨?_, hfeeder⟩
  change (framed c p s).stand.cycle.map _ = _
  rw [hstand]
  exact congrArg (Option.map _) hc

/-- After the last step the cycle is FINISHING, and the RETURN starts where the feeder is idle. -/
theorem exposeDone_of_last {c : Cycle} {s : State} {plan : Plan} (p : PlanStep) (hc : s.stand.cycle = some c)
    (hplan : c.plan = some plan) (h : plan.steps.length ≤ c.nextStep + 1) :
    (exposeDone c p s).stand.cycle = some (c.stepped .finishing)
      ∧ (s.feeder.op = none → s.feeder.waiting = [] → s.feeder.gate = .holds c.pos c.cat →
          (exposeDone c p s).feeder.op
            = some { job := .ret c.pos, homing := false, limit := s.stand.settings.feedLimit, stale := false, ofCycle := true }) := by
  obtain ⟨hstand, hfeeder, -⟩ := framed_blocks c p s
  obtain ⟨kstand, -⟩ := askReturn_leaves (returnPos (framed c p s) c) (framed c p s)
  have hlast : ¬c.nextStep + 1 < (c.plan.map fun p => p.steps.length).getD 0 := by rw [hplan]; exact Nat.not_lt.2 h
  rw [exposeDone_eq, if_neg hlast]
  refine ⟨?_, fun hop hw hgate => ?_⟩
  · change (askReturn _ (framed c p s)).stand.cycle.map _ = _
    rw [kstand, hstand]
    exact congrArg (Option.map _) hc
  · have hpos : returnPos (framed c p s) c = c.pos := by simp only [returnPos, hfeeder, hgate]
    change (askReturn (returnPos (framed c p s) c) (framed c p s)).feeder.op = _
    rw [hpos, askReturn_of_idle c.pos (by rw [hfeeder]; exact hop) (by rw [hfeeder]; exact hw), beginJob_eq, hstand]
    simp [FeederJob.isFeed]

/-- Settles O50: the shutter opened, closed by its ticks, and the sense that completes the exposure or faults it. -/
theorem shutterEvents : Obligations.ShutterEvents := by
  intro s hd
  refine ⟨fun c p may hc hp hmay => ?_, fun h => congrArg Host.Outcome.next (exposeStartEvent_of_none h), fun h => ⟨?_, ?_, ?_, ?_⟩,
    fun e he => ⟨?_, ?_, fun hopen i hi => ?_, fun c p r t amount hclosing hc hp hr ht hamount => ?_⟩⟩
  · have hmay : may ↔ mayExpose s c p = true := by rw [mayExpose_iff, shutterMayOpen_iff]; exact hmay
    change (may → Host.Outcome.next (exposeStartEvent s) = _) ∧ (¬may → Host.Outcome.next (exposeStartEvent s) = _)
    rw [exposeStartEvent_of_step hc hp, hmay]
    exact ⟨fun h => by rw [if_pos h], fun h => by rw [if_neg h]⟩
  · change Host.Outcome.next { s with stand := { s.stand with expose := s.stand.expose.map _ } } = _
    rw [h, Option.map_none, ← h]
  · change Host.Outcome.next (eventEnd false s (exposeTimeoutEvent s)) = _
    rw [exposeTimeoutEvent, h, if_neg nofun, eventEnd_self hd]
  · change Host.Outcome.next (eventEnd false s (shutterClosedEvent s)) = _
    simp only [shutterClosedEvent, h, eventEnd_self hd]
  · change Host.Outcome.next (eventEnd false s (shutterClosedEvent s)) = _
    simp only [shutterClosedEvent, h, eventEnd_self hd]
  · change Host.Outcome.next { s with stand := { s.stand with expose := s.stand.expose.map _ } } = _
    rw [he]
    rfl
  · change Host.Outcome.next (eventEnd false s (exposeTimeoutEvent s)) = _
    rw [exposeTimeoutEvent, he, if_pos Option.isSome_some]
    rfl
  · have hfault := shutterClosedEvent_of_early he hopen
    simp only [List.mem_cons, List.not_mem_nil, or_false] at hi
    obtain rfl | rfl := hi
    · exact congrArg (fun t => Host.Outcome.next (eventEnd false s t)) hfault
    · exact congrArg (fun t => Host.Outcome.next (eventEnd false s t)) hfault
  · subst ht
    obtain rfl : amount = frameAmount s c.stock c.cls := hamount
    have hdone := shutterClosedEvent_of_closing he hclosing hc hp
    obtain ⟨phase, hstand, htally, hback⟩ := exposeDone_leaves c p s
    obtain ⟨-, -, hposted⟩ := framed_blocks c p s
    obtain ⟨hspent, hroll⟩ := framed_back p hr
    rw [hback]
    refine ⟨fun i hi => ?_, by rw [hstand], by rw [hstand], htally.trans hposted, hspent, ⟨_, hroll, rfl, rfl, ?_⟩,
      framed_advance p, fun plan hplan => ⟨exposeDone_of_more p hc hplan, exposeDone_of_last p hc hplan⟩⟩
    · simp only [List.mem_cons, List.not_mem_nil, or_false] at hi
      obtain rfl | rfl := hi
      · exact congrArg (fun t => Host.Outcome.next (eventEnd false s t)) hdone
      · exact congrArg (fun t => Host.Outcome.next (eventEnd false s t)) hdone
    · simp only [Roll.onGroup, Roll.addFrame, beq_iff_eq]
      rfl

end Sys2Proof.Machine
end

section
/-! SUPPORT. START STAND, STOP STAND and SET STAND: the start-up operations asked for, the lamp and the idle timer, and the selected
settings (R77, R79, R111, R112, R116). -/

namespace Sys2Proof.Machine

/-! ## START STAND -/

theorem setStandMode_running (s : State) : setStandMode .running s = { s with stand := { s.stand with mode := .running } } := rfl

/-- HOME asked for changes the feeder alone: unlike a FEED it cannot fail at its start (R72, R74). -/
theorem askJob_home_eq (ofCycle : Bool) (s : State) :
    askJob .home ofCycle s = { s with feeder := (askJob .home ofCycle s).feeder } := by
  unfold askJob
  split
  · rw [startJob_begins (job := .home) ofCycle (.inr nofun), beginJob_eq]
  · rfl

/-- The start-up operations read the state the stand was started in: none of them changes what the next ones are asked for on. -/
theorem startUp_eq (s : State) :
    startNd (startSwap (startHome s))
      = (if s.head.nd = none then askNd 0 false else id)
          ((if s.film.turret = .unknown then askSwap .backA false else id)
            ((if s.feeder.pos = none then askJob .home false else id) s)) := by
  have hhome : startHome s = (if s.feeder.pos = none then askJob .home false else id) s := by
    simp only [startHome, Option.isNone_iff_eq_none]
    split <;> rfl
  have hhomeLeaves : (startHome s).film = s.film ∧ (startHome s).head = s.head := by
    unfold startHome
    split
    · rw [askJob_home_eq]
      exact ⟨rfl, rfl⟩
    · exact ⟨rfl, rfl⟩
  obtain ⟨hfilm, hhead⟩ := hhomeLeaves
  have hswap : startSwap (startHome s) = (if s.film.turret = .unknown then askSwap .backA false else id) (startHome s) := by
    simp only [startSwap, hfilm]
    split <;> rfl
  have hswapHead : (startSwap (startHome s)).head = s.head := by
    unfold startSwap
    split
    · rw [askSwap_head, hhead]
    · exact hhead
  have hnd : startNd (startSwap (startHome s))
      = (if s.head.nd = none then askNd 0 false else id) (startSwap (startHome s)) := by
    simp only [startNd, hswapHead, Option.isNone_iff_eq_none]
    split <;> rfl
  rw [hnd, hswap, hhome]

/-- The lamp lit from OFF, and the idle timer started with the idle time as it stands (R77, R79). -/
theorem startIdle_lampLight (s : State) :
    startIdle (lampLight s)
      = { s with head :=
            { s.head with
              lamp := if s.head.lamp = .off then .warming else s.head.lamp,
              idle := if s.stand.settings.idleMinutes = 0 then none else some s.stand.settings.idleMinutes } } := by
  rw [lampLight_eq]
  rfl

theorem startOps_eq (s : State) :
    startOps s = (if s.feeder.pos = none then [0] else []) ++ (if s.film.turret = .unknown then [1] else [])
      ++ (if s.head.nd = none then [2] else []) ++ [3] := by
  simp only [startOps, Option.isNone_iff_eq_none]

/-! ## STOP STAND -/

/-- The lamp switched off is OFF unless it has FAILED (R77). -/
theorem lampOff_eq (s : State) :
    lampOff s = { s with head := { s.head with lamp := if s.head.lamp = .failed then .failed else .off } } := by
  have hlamp : (if s.head.lamp = .warming ∨ s.head.lamp = .ready then .off else s.head.lamp)
      = if s.head.lamp = .failed then Lamp.failed else .off := by cases s.head.lamp <;> rfl
  rw [← hlamp, ← lampOff_head]
  rfl

theorem stopRefusal_of_halted {s : State} {r : HaltReason} (h : s.stand.mode = .halted r) :
    firstFailing [(!s.stand.mode.isHalted, .state)] = some .state := by rw [h]; rfl

theorem stopRefusal_of_not_halted {s : State} (h : ∀ r, s.stand.mode ≠ .halted r) :
    firstFailing [(!s.stand.mode.isHalted, .state)] = none := by
  cases hm : s.stand.mode with
  | halted r => exact absurd hm (h r)
  | _ => rfl

/-- An accepted STOP STAND, by the state of the stand: with a cycle in flight the stand only turns STOPPING (R112). -/
theorem stopEffect_spec (s : State) :
    (s.stand.mode = .running → s.stand.cycle.isSome = true →
        stopEffect s = { s with stand := { s.stand with mode := .stopping }, head := { s.head with idle := none } })
      ∧ (s.stand.mode = .running → s.stand.cycle = none →
          stopEffect s
            = lampOff { s with stand := { s.stand with mode := .stopped }, head := { s.head with idle := none } })
      ∧ (s.stand.mode = .stopping → stopEffect s = s)
      ∧ (s.stand.mode = .stopped → stopEffect s = lampOff s) := by
  refine ⟨fun hm hc => ?_, fun hm hc => ?_, fun hm => ?_, fun hm => ?_⟩
  · rw [← setStandMode_idle (m := .stopping) nofun, stopEffect, hm]
    exact if_pos hc
  · rw [← setStandMode_idle (m := .stopped) nofun, stopEffect, hm]
    exact if_neg (by simp [hc])
  · rw [stopEffect, hm]
  · rw [stopEffect, hm]

/-- STOP STAND accepted on a stand that is not HALTED, by the state its event leaves the stand in (R112). -/
theorem exec_stopStand_replied {s : State} {fields : List Field} {effect : State → State} (hf : LinkFree s)
    (hmode : ∀ r, s.stand.mode ≠ .halted r) (heffect : stopEffect (hunting s) = effect (hunting s))
    (hfields : (effect (hunting s)).stand.mode.fields = fields) :
    exec .stopStand s = .next (replied (acceptedMsg 0x27 false fields) (fun u => eventEnd false u (effect u)) s) := by
  refine exec_replied rfl hf ((answer_accepted (stopRefusal_of_not_halted hmode)).trans ?_)
  rw [heffect, hfields]

/-! ## SET STAND -/

/-- The ranges of a SET STAND, spelled out (R116). -/
theorem okStand_iff (q : StandReq) :
    okStand q = true ↔
      q.mask.toNat < 64 ∧ (q.mask.getLsbD 0 = true → 1000 ≤ q.feedLimit ∧ q.feedLimit ≤ 20000)
        ∧ (q.mask.getLsbD 1 = true → 500 ≤ q.advanceLimit ∧ q.advanceLimit ≤ 5000)
        ∧ (q.mask.getLsbD 2 = true → q.leaderCount ≤ 4) ∧ (q.mask.getLsbD 3 = true → q.fill ≤ 1)
        ∧ (q.mask.getLsbD 4 = true → q.idleMinutes ≤ 60)
        ∧ (q.mask.getLsbD 5 = true → 2000 ≤ q.tokenLimit ∧ q.tokenLimit ≤ 30000) := by
  simp only [okStand, Bool.and_eq_true, okIf_iff, inNat_iff, decide_eq_true_eq, and_assoc]

/-- The settings a SET STAND makes: each selected value anew, the others as they were (R116). -/
theorem setSettings_eq (q : StandReq) (t : Settings) :
    setSettings q t =
      { feedLimit := if q.mask.getLsbD 0 then q.feedLimit else t.feedLimit,
        advanceLimit := if q.mask.getLsbD 1 then q.advanceLimit else t.advanceLimit,
        leaderCount := if q.mask.getLsbD 2 then q.leaderCount else t.leaderCount,
        fill := if q.mask.getLsbD 3 then decide (q.fill ≠ 0) else t.fill,
        idleMinutes := if q.mask.getLsbD 4 then q.idleMinutes else t.idleMinutes,
        tokenLimit := if q.mask.getLsbD 5 then q.tokenLimit else t.tokenLimit } := by
  have hfill : decide (q.fill ≠ 0) = (q.fill != 0) := by rw [Bool.eq_iff_iff]; simp
  rw [hfill]
  rfl

/-! ## The requests -/

/-- START STAND's tests in order, and its event when all pass (R111). -/
theorem startStand_spec {s : State} (hf : LinkFree s) :
    (s.stand.mode ≠ .stopped → exec .startStand s = .next (refusedWith 0x26 .state s))
      ∧ (s.stand.mode = .stopped → s.stand.cycle.isSome = true → exec .startStand s = .next (refusedWith 0x26 .busy s))
      ∧ (s.stand.mode = .stopped → s.stand.cycle = none → (s.feeder.gate ≠ .empty ∨ s.head.lamp = .failed) →
          exec .startStand s = .next (refusedWith 0x26 .state s))
      ∧ (s.stand.mode = .stopped → s.stand.cycle = none → s.feeder.gate = .empty → s.head.lamp ≠ .failed →
          exec .startStand s = .next
            (replied (acceptedMsg 0x26 false (.u 1 1 :: listFields (fun k => [.u 1 k]) (startOps s)))
              (fun u => eventEnd false u (startEffect u)) s)) := by
  refine ⟨fun hm => ?_, fun hm hc => ?_, fun hm hc h => ?_, fun hm hc hg hl => ?_⟩
  · exact exec_refused rfl hf (answer_refused (by simp [startRefusal, hm]))
  · exact exec_refused rfl hf (answer_refused (by simp [startRefusal, hm, Option.ne_none_iff_isSome.2 hc]))
  · refine exec_refused rfl hf (answer_refused ?_)
    by_cases hg : s.feeder.gate = .empty
    · simp [startRefusal, hm, hc, hg, h.resolve_left (not_not.2 hg)]
    · simp [startRefusal, hm, hc, hg]
  · exact exec_replied rfl hf (answer_accepted (by simp [startRefusal, hm, hc, hg, hl]))

/-- Settles O36: START STAND, STOP STAND and SET STAND. -/
theorem startStopAndSetStand : Obligations.StartStopAndSetStand := by
  refine ⟨fun s hf => ?_, fun q s inRange new hf hrange hnew => ⟨fun h => ?_, fun h => ?_⟩⟩
  · obtain ⟨hnotStopped, hbusy, hnotReady, hstart⟩ := startStand_spec hf
    refine ⟨hnotStopped, hbusy, hnotReady, fun asked lit hm hc hg hl hasked hlit => ?_, fun ⟨r, hr⟩ => ?_,
      fun off hoff => ?_⟩
    · have heffect : startEffect = fun u => lit (asked u) := funext fun u => by
        rw [startEffect, startIdle_lampLight, setStandMode_running, startUp_eq, hlit, hasked]
      rw [hstart hm hc hg hl, startOps_eq, heffect]
    · exact exec_refused rfl hf (answer_refused (stopRefusal_of_halted (s := hunting s) hr))
    · obtain ⟨hgoing, hidle, hstopping, hstopped⟩ := stopEffect_spec (hunting s)
      have hdark : ∀ u, lampOff u = off u := fun u => by rw [lampOff_eq, hoff]
      refine ⟨fun hm hc => ?_, fun hm hc => ?_, fun hm => ?_, fun hm => ?_⟩
      · exact exec_stopStand_replied
          (effect := fun u => { u with stand := { u.stand with mode := .stopping }, head := { u.head with idle := none } })
          hf (by simp [hm]) (hgoing hm hc) rfl
      · exact exec_stopStand_replied
          (effect := fun u => off { u with stand := { u.stand with mode := .stopped }, head := { u.head with idle := none } })
          hf (by simp [hm]) ((hidle hm hc).trans (hdark _)) (by rw [hoff]; rfl)
      · exact exec_stopStand_replied (effect := fun u => u) hf (by simp [hm]) (hstopping hm) (by rw [hunting_stand, hm]; rfl)
      · exact exec_stopStand_replied (effect := off) hf (by simp [hm]) ((hstopped hm).trans (hdark _))
          (by rw [hoff, hunting_stand, hm]; rfl)
  · rw [← okStand_iff] at hrange
    exact exec_refused rfl hf (answer_refused (by rw [firstFailing_cons, if_neg (mt hrange.2 h)]))
  · rw [← okStand_iff] at hrange
    rw [hnew, ← setSettings_eq]
    exact exec_replied rfl hf (answer_accepted (by rw [firstFailing_cons, if_pos (hrange.1 h), firstFailing_nil]))

end Sys2Proof.Machine
end

section
/-! SUPPORT. The desk link, the settings with the label queue and the date, and the tally unit stay within their ranges under every
change (R116, R150, R165, R169, R173, R183, R190, R191, R198, R200). -/

namespace Sys2Proof.Machine

/-! ## The desk link -/

/-- The soundness of the desk link speaks of the link alone. -/
theorem LinkSound.of_link {s t : State} (h : t.link = s.link) (hs : LinkSound s) : LinkSound t := by
  rw [LinkSound, h]
  exact hs

/-- A notice joins the queue only while it has room for it (R198). -/
theorem LinkSound.notice {s : State} (hs : LinkSound s) (n : Notice) : LinkSound (queueNotice n s) := by
  obtain ⟨hnotices, hslot, hrate, hheld, hsends⟩ := hs
  by_cases hroom : s.link.notices.length < Config.maxNotices
  · have hlink : (queueNotice n s).link = { s.link with notices := s.link.notices ++ [n] } := if_pos hroom
    rw [LinkSound, hlink]
    refine ⟨?_, hslot, hrate, hheld, hsends⟩
    rw [List.length_append]
    exact hroom
  · have hlink : (queueNotice n s).link = { s.link with overrun := true } := if_neg hroom
    rw [LinkSound, hlink]
    exact ⟨hnotices, hslot, hrate, hheld, hsends⟩

/-- Every elementary change keeps the desk link sound: the part by itself queues notices alone. -/
theorem Move.linkSound (a b : State) (h : Move a b) (hs : LinkSound a) : LinkSound b := by
  cases h with
  | notice n => exact hs.notice n
  | _ => exact hs.of_link rfl

/-- Two straps carry a rate of 0 to 3 (R200). -/
theorem strapRate_le (strap1 strap0 : Bool) : strapRate strap1 strap0 ≤ 3 := by cases strap1 <;> cases strap0 <;> decide

/-- The desk link at power-on is sound: no notice, no rejection, no request HELD and nothing being sent. -/
theorem LinkSound.initial {rate : Nat} (hrate : rate ≤ 3) (tray gate : Bool) : LinkSound (State.initial rate tray gate) :=
  ⟨by simp [State.initial, Link.initial], nofun, hrate, nofun, nofun⟩

/-- Every change that a command makes itself keeps the desk link sound. -/
theorem OwnMove.linkSound (o : Own) (a b : State) (h : OwnMove o a b) (hs : LinkSound a) : LinkSound b := by
  cases h with
  | link f _ h =>
    obtain ⟨hnotices, hslot, hrate, hheld, hsends⟩ := hs
    obtain ⟨hrateKept, hnoticesKept, hslotKept, hheldKept, hsendsKept⟩ := h
    exact ⟨hnoticesKept.trans hnotices, hslotKept hslot, hrateKept.trans_le hrate, hheldKept hheld, hsendsKept hsends⟩
  | power strap1 strap0 tray gate => exact (LinkSound.initial (strapRate_le strap1 strap0) tray gate).of_link rfl
  | _ => exact hs.of_link rfl

/-! ## The settings, the label queue and the date -/

/-- What `SettingsSound` says of the stand settings. -/
def Settings.InRange (t : Settings) : Prop :=
  (1000 ≤ t.feedLimit ∧ t.feedLimit ≤ 20000) ∧ (500 ≤ t.advanceLimit ∧ t.advanceLimit ≤ 5000) ∧ t.leaderCount ≤ 4
    ∧ t.idleMinutes ≤ 60 ∧ (2000 ≤ t.tokenLimit ∧ t.tokenLimit ≤ 30000)

theorem settingsSound_iff {s : State} :
    SettingsSound s ↔ s.stand.settings.InRange ∧ s.labels.queue.length ≤ 32 ∧ s.labels.date ≤ 65535 := by
  simp only [SettingsSound, Settings.InRange, and_assoc]

/-- The soundness of the settings speaks of the stand settings and the label unit alone. -/
theorem SettingsSound.of_same {s t : State} (hset : t.stand.settings = s.stand.settings) (hlab : t.labels = s.labels)
    (hs : SettingsSound s) : SettingsSound t := by
  rw [SettingsSound, hset, hlab]
  exact hs

/-- Every elementary change keeps the settings, and the label queue grows only while it has room (R150). -/
theorem Move.settingsSound (a b : State) (h : Move a b) (hs : SettingsSound a) : SettingsSound b := by
  obtain ⟨hrange, hqueue, hdate⟩ := settingsSound_iff.1 hs
  rw [settingsSound_iff, h.settings_same, h.date_same]
  refine ⟨hrange, ?_, hdate⟩
  cases h with
  | labels f _ h =>
    rcases h.2 with hle | ⟨hroom, heq⟩
    · exact hle.trans hqueue
    · rw [onLabels_labels, heq]
      exact hroom
  | _ => exact hqueue

/-- A property of a selected value and of the value kept holds of the value picked. -/
theorem pick_prop {α : Type} {P : α → Prop} {mask : BitVec 16} {bit : Nat} {new old : α}
    (hnew : mask.getLsbD bit = true → P new) (hold : P old) : P (pick mask bit new old) := by
  unfold pick
  split
  · rename_i h; exact hnew h
  · exact hold

/-- An accepted SET STAND leaves every setting in its range (R116). -/
theorem setSettings_inRange {q : StandReq} {t : Settings} (hq : okStand q = true) (ht : t.InRange) : (setSettings q t).InRange := by
  obtain ⟨-, hfeed, hadvance, hleader, -, hidle, htoken⟩ := (okStand_iff q).1 hq
  obtain ⟨tfeed, tadvance, tleader, tidle, ttoken⟩ := ht
  exact ⟨pick_prop (P := fun x => 1000 ≤ x ∧ x ≤ 20000) hfeed tfeed,
    pick_prop (P := fun x => 500 ≤ x ∧ x ≤ 5000) hadvance tadvance,
    pick_prop (P := fun x => x ≤ 4) hleader tleader, pick_prop (P := fun x => x ≤ 60) hidle tidle,
    pick_prop (P := fun x => 2000 ≤ x ∧ x ≤ 30000) htoken ttoken⟩

/-- The settings at power-on are the values of R116, the label queue is empty and the date is 0. -/
theorem SettingsSound.initial (rate : Nat) (tray gate : Bool) : SettingsSound (State.initial rate tray gate) :=
  SettingsSound.of_same (s := State.reset) rfl rfl (by decide)

/-- Every change that a command makes itself keeps the settings, the label queue and the date within their ranges. -/
theorem OwnMove.settingsSound (o : Own) (a b : State) (h : OwnMove o a b) (hs : SettingsSound a) : SettingsSound b := by
  cases h with
  | settings q _ hq =>
    obtain ⟨hrange, hlabels⟩ := settingsSound_iff.1 hs
    exact settingsSound_iff.2 ⟨setSettings_inRange hq hrange, hlabels⟩
  | date v _ hv =>
    obtain ⟨hrange, hqueue, -⟩ := settingsSound_iff.1 hs
    exact settingsSound_iff.2 ⟨hrange, hqueue, hv⟩
  | power strap1 strap0 tray gate => exact (SettingsSound.initial (strapRate strap1 strap0) tray gate).of_same rfl rfl
  | _ => exact hs.of_same rfl rfl

/-! ## The tally unit -/

/-- A total after a posting is held at its ends (R175). -/
theorem addHeld_le (total : Nat) (amount : Int) : addHeld total amount ≤ Config.maxTotal := by
  rw [addHeld, clampInt_eq_max_min (by decide), Config.maxTotal]
  omega

/-- A posting moves a counter's total within its range, and its crossed mark (R175, R176). -/
theorem postCounter_sound {c : Counter} (hc : c.sound) (kind : PostKind) (account : Nat) (stock : Option Nat) (amount : Int) :
    (postCounter kind account stock amount c).sound := by
  unfold postCounter
  split
  · obtain ⟨-, hnote, hceiling, hlevel, hmatch⟩ := hc
    exact ⟨addHeld_le _ _, hnote, hceiling, hlevel, hmatch⟩
  · exact hc

/-- A closed counter starts its new period at 0 (R182). -/
theorem closed_sound {c : Counter} (hc : c.sound) : c.closed.sound := by
  obtain ⟨-, hnote, hceiling, hlevel, hmatch⟩ := hc
  exact ⟨Nat.zero_le _, hnote, hceiling, hlevel, hmatch⟩

/-- An accepted SET COUNTER leaves the counter within its ranges, its match within its mask (R173, R179). -/
theorem setCounter_sound {q : CounterReq} {c : Counter} (hq : setCounterRefusal q c = none) (hc : c.sound) :
    (setCounter q c).sound := by
  obtain ⟨htotal, hnote, hceiling, hlevel, -⟩ := hc
  have hok : okCounter q = true := firstFailing_none hq (okCounter q, .range) (by simp)
  have hmatch : (setCounter q c).matchOk = true := firstFailing_none hq ((setCounter q c).matchOk, .range) (by simp)
  obtain ⟨-, -, -, -, -, -, -, qceiling, qlevel, qnote, qtotal⟩ := (okCounter_iff q).1 hok
  exact ⟨pick_prop (P := fun x => x ≤ Config.maxTotal) qtotal htotal,
    pick_prop (P := fun x => x ≤ Config.maxTotal) qnote hnote,
    pick_prop (P := fun x : Option Nat => ∀ v ∈ x, v ≤ Config.maxTotal) qceiling hceiling,
    pick_prop (P := fun x : Option Nat => ∀ v ∈ x, v ≤ Config.maxTotal) qlevel hlevel, of_decide_eq_true hmatch⟩

/-- A counter of a table with one counter changed. -/
theorem counterAt_setIfInBounds (v : Vector Counter 16) (j : Nat) (c : Counter) {k : Nat} (hk : k < 16) :
    counterAt (v.setIfInBounds j c) k = if j = k then c else counterAt v k := by
  unfold counterAt
  rw [Vector.getElem?_setIfInBounds]
  by_cases h : j = k
  · rw [if_pos h, if_pos h, if_pos (h ▸ hk), Option.getD_some]
  · rw [if_neg h, if_neg h]

/-- The soundness of the tally unit speaks of the tally unit alone. -/
theorem TallySound.of_tally {s t : State} (h : t.tally = s.tally) (hs : TallySound s) : TallySound t := by
  rw [TallySound, h]
  exact hs

/-- Every counter changed alike, by a change that keeps a counter sound. -/
theorem TallySound.mapCounters {s : State} (hs : TallySound s) {f : Counter → Counter}
    (hf : ∀ c : Counter, c.sound → (f c).sound) :
    TallySound (s.onTally fun t => { t with counters := mapVec f t.counters }) := by
  obtain ⟨hcounters, hrates⟩ := hs
  refine ⟨fun k hk => ?_, hrates⟩
  rw [onTally_tally, counterAt_mapVec f _ hk]
  exact hf _ (hcounters k hk)

/-- One counter changed, by a change that keeps it sound. -/
theorem TallySound.setCounterAt {s : State} (hs : TallySound s) (j : Nat) {f : Counter → Counter}
    (hf : (counterAt s.tally.counters j).sound → (f (counterAt s.tally.counters j)).sound) :
    TallySound (s.onTally fun t => { t with counters := t.counters.setIfInBounds j (f (counterAt t.counters j)) }) := by
  obtain ⟨hcounters, hrates⟩ := hs
  refine ⟨fun k hk => ?_, hrates⟩
  rw [onTally_tally, counterAt_setIfInBounds _ _ _ hk]
  split
  · rename_i h
    subst h
    exact hf (hcounters j hk)
  · exact hcounters k hk

/-- Every elementary change keeps the tally unit sound: the part by itself makes postings alone. -/
theorem Move.tallySound (a b : State) (h : Move a b) (hs : TallySound a) : TallySound b := by
  cases h with
  | post kind account stock amount => exact hs.mapCounters fun _ hc => postCounter_sound hc kind account stock amount
  | _ => exact hs.of_tally rfl

theorem TallySound.initial (rate : Nat) (tray gate : Bool) : TallySound (State.initial rate tray gate) :=
  reset_tallySound.of_tally rfl

/-- Every change that a command makes itself keeps the tally unit sound. -/
theorem OwnMove.tallySound (o : Own) (a b : State) (h : OwnMove o a b) (hs : TallySound a) : TallySound b := by
  cases h with
  | rates m t c _ hrates =>
    obtain ⟨hmount, hlow, hhigh, hsurcharge⟩ := hrates
    obtain ⟨hcounters, -, -, -, -, hperiod⟩ := hs
    exact ⟨hcounters, hmount, hlow, hhigh, hsurcharge, hperiod⟩
  | counter q _ hq => exact hs.setCounterAt q.counter (f := setCounter q) (setCounter_sound hq)
  | lock k => exact hs.setCounterAt k (f := fun c => { c with locked := true }) id
  | period =>
    obtain ⟨hcounters, hmount, hlow, hhigh, hsurcharge, -⟩ := hs.mapCounters fun _ => closed_sound
    exact ⟨hcounters, hmount, hlow, hhigh, hsurcharge, Nat.le_of_lt_succ (Nat.mod_lt _ (by decide))⟩
  | power strap1 strap0 tray gate => exact (TallySound.initial (strapRate strap1 strap0) tray gate).of_tally rfl
  | _ => exact hs.of_tally rfl

/-! ## The link, the settings and the tally unit kept -/

/-- Settles O53: every elementary change and every command's own change keeps each of the three sound. -/
theorem linkSettingsAndTallyKept : Obligations.LinkSettingsAndTallyKept := by
  rintro s t ⟨hlink, hsettings, htally⟩ h
  exact ⟨step_keeps (P := LinkSound) (fun _ _ => id) Move.linkSound OwnMove.linkSound h hlink,
    step_keeps (P := SettingsSound) (fun _ _ => id) Move.settingsSound OwnMove.settingsSound h hsettings,
    step_keeps (P := TallySound) (fun _ _ => id) Move.tallySound OwnMove.tallySound h htally⟩

end Sys2Proof.Machine
end

section
/-! SUPPORT. REPORT SELECTIONS: its tests, its entries one at a time, and the end of each entry's event (R131, R132, R137, R154). -/

namespace Sys2Proof.Machine

/-! ## The tests of the report -/

theorem okSelect_iff {e : SelectReq} :
    okSelect e = true ↔ (1 ≤ e.first ∧ e.first ≤ 72) ∧ e.outcome ≤ 3 ∧ (e.outcome = 0 → -4 ≤ e.step ∧ e.step ≤ 4) := by
  rw [okSelect, Bool.and_eq_true, Bool.and_eq_true, inNat_iff, decide_eq_true_eq, Bool.or_eq_true, inInt_iff, bne_iff_ne,
    ← imp_iff_not_or, and_assoc]

theorem reportRange_iff {roll : Nat} {es : List SelectReq} :
    (okRoll roll && inNat 1 12 es.length && es.all okSelect) = true ↔
      (1 ≤ roll ∧ roll ≤ 999999) ∧ (1 ≤ es.length ∧ es.length ≤ 12)
        ∧ ∀ e ∈ es, (1 ≤ e.first ∧ e.first ≤ 72) ∧ e.outcome ≤ 3 ∧ (e.outcome = 0 → -4 ≤ e.step ∧ e.step ≤ 4) := by
  simp only [Bool.and_eq_true, List.all_eq_true, okRoll, inNat_iff, okSelect_iff, and_assoc]

/-! ## The end of an entry's event -/

theorem sendIfIdle_of_idle {s : State} {k : LabelKey} {ks : List LabelKey} (hline : s.labels.line = .idle)
    (hqueue : s.labels.queue = k :: ks) : sendIfIdle s = transmit (s.labels.head.getD k) s := by
  simp only [sendIfIdle, hline, hqueue]

theorem sendIfIdle_of_busy {s : State} (h : s.labels.line ≠ .idle ∨ s.labels.queue = []) : sendIfIdle s = s := by
  unfold sendIfIdle
  split
  · rename_i hline hqueue
    rcases h with h | h
    · exact absurd hline h
    · rw [hqueue] at h
      cases h
  · rfl

theorem printerEnd_of_same {before s : State} (hline : before.labels.line = s.labels.line)
    (hempty : before.labels.queue.isEmpty = s.labels.queue.isEmpty) : printerEnd before s = s :=
  if_neg fun h => h.elim (absurd hline) (absurd hempty)

theorem printerEnd_of_changed {before s : State}
    (h : ¬(before.labels.line = s.labels.line ∧ before.labels.queue.isEmpty = s.labels.queue.isEmpty)) :
    printerEnd before s = queueNotice (printerNotice s) s := if_pos (not_and_or.1 h)

/-! ## The result of an entry as it is carried -/

theorem doneFields_eq (outcome : GroupOutcome) (slide : Option Slide) (learned : Option LearnResult)
    (label : Option (Nat × Option LabelState)) (finished : Bool) :
    (EntryResult.done outcome slide learned label finished).fields =
      List.flatten
        [.u 1 4 :: outcome.fields,
         match slide with | none => [] | some x => [.u 1 x.outcome.number, .u 1 x.attempts, .i 1 x.shift],
         match learned with | none => [.u 1 0] | some x => .u 1 1 :: x.fields,
         match label with
          | none => []
          | some (frame, none) => [.u 1 frame, .u 1 0]
          | some (frame, some st) => [.u 1 frame, .u 1 st.number],
         [.u 1 (if finished then 1 else 0)]] := by
  rcases slide with _ | x <;> rcases learned with _ | y <;> rcases label with _ | ⟨frame, _ | st⟩ <;>
    simp [EntryResult.fields, optFields, yesNo]

/-! ## REPORT SELECTIONS -/

/-- Settles O39: the tests of the report in their order, its entries one after another, and the end of each entry's event. -/
theorem reportSelections : Obligations.ReportSelections := by
  refine ⟨fun roll es s inRange hf hrange => ?_, fun _ _ => rfl, fun k e es s t result happly => ?_,
    fun s t u v same hsend hstay hv hsame => ?_, rfl, doneFields_eq⟩
  · have hrange := hrange.trans reportRange_iff.symm
    refine ⟨fun h => ?_, fun h hno => ?_, fun h hlive hno => ?_, fun k r h hk hr hid hfirst => ?_⟩
    · exact exec_refused rfl hf (answer_refused (by rw [reportRefusal, firstFailing_cons, if_neg (mt hrange.2 h)]))
    · have hroll : ¬((hunting s).roll? roll).isSome = true := fun hsome => by
        obtain ⟨r, hr, hid⟩ := roll?_isSome_iff.1 hsome
        exact hno r hr hid
      exact exec_refused rfl hf (answer_refused (by
        rw [reportRefusal, firstFailing_cons, if_pos (hrange.1 h), firstFailing_cons, if_neg hroll]))
    · have hnone : (hunting s).slotOf? roll = none := slotOf?_eq_none_iff.2 hno
      exact exec_refused rfl hf (answer_refused (by
        rw [reportRefusal, firstFailing_cons, if_pos (hrange.1 h), firstFailing_cons,
          if_pos (roll?_isSome_iff (s := hunting s).2 hlive), firstFailing_cons, hnone]
        rfl))
    · have hslot : (hunting s).slotOf? roll = some k := slotOf?_eq_some_iff.2 ⟨⟨r, hr, hid⟩, hfirst⟩
      have hlive : ((hunting s).roll? roll).isSome = true := roll?_isSome_iff.2 ⟨r, mem_allRolls_of_slotRoll? hr, hid⟩
      have hentries : reportEntries roll es (hunting s) = takeEntries k es (hunting s) := by rw [reportEntries, hslot]; rfl
      refine exec_replied rfl hf ((answer_accepted (by
        rw [reportRefusal, firstFailing_cons, if_pos (hrange.1 h), firstFailing_cons, if_pos hlive, firstFailing_cons, hslot]
        rfl)).trans ?_)
      rw [hentries]
  · simp only [takeEntries, takeEntry, happly]
  · have hu : sendIfIdle t = u := by
      by_cases hbusy : t.labels.line ≠ .idle ∨ t.labels.queue = []
      · rw [sendIfIdle_of_busy hbusy, hstay hbusy]
      · rw [not_or, not_not] at hbusy
        obtain ⟨k, ks, hqueue⟩ := List.exists_cons_of_ne_nil hbusy.2
        rw [sendIfIdle_of_idle hbusy.1 hqueue, hsend k ks hbusy.1 hqueue]
    have hend : labelEventEnd s t = printerEnd s v := by rw [labelEventEnd, hu, hv]
    rw [hend]
    refine ⟨fun h => ?_, fun h => printerEnd_of_changed (mt hsame.2 h)⟩
    obtain ⟨hline, hempty⟩ := hsame.1 h
    exact printerEnd_of_same hline hempty

end Sys2Proof.Machine
end

section
/-! SUPPORT. The labels of the register by their names: which frame a label stands on, what a label state given to it changes, and the
parts of the soundness of the label unit that speak of the register and the queue (R130, R148 to R150). -/

namespace Sys2Proof.Machine

/-! ## Labels and their frames -/

/-- The name of the label of a frame on a roll (R148). -/
def Frame.labelKey (f : Frame) (r : Roll) : LabelKey := { roll := r.id, frame := f.number }

/-- A frame on a roll of the register. -/
def OnShelf (s : State) (r : Roll) (f : Frame) : Prop := (∃ j, s.slotRoll? j = some r) ∧ f ∈ r.frames

theorem mem_labelsWith_iff {st : LabelState} {s : State} {w : LabelKey} :
    w ∈ labelsWith st s ↔ ∃ r f, OnShelf s r f ∧ f.label = some st ∧ f.labelKey r = w := by
  simp only [labelsWith, List.mem_flatMap, Prod.exists, mem_registerOrder, List.mem_map, List.mem_filter, decide_eq_true_eq]
  constructor
  · rintro ⟨j, r, hr, f, ⟨hf, hst⟩, hw⟩
    exact ⟨r, f, ⟨⟨j, hr⟩, hf⟩, hst, hw⟩
  · rintro ⟨r, f, ⟨⟨j, hr⟩, hf⟩, hst, hw⟩
    exact ⟨j, r, hr, f, ⟨hf, hst⟩, hw⟩

theorem labelRecord?_ne_none_iff {s : State} {k : LabelKey} :
    labelRecord? s k ≠ none ↔ ∃ rec ∈ s.labels.records, rec.key = k := by
  rw [labelRecord?, ← Option.isSome_iff_ne_none, List.find?_isSome]
  simp only [decide_eq_true_eq]

/-- The register and its labels are sound: each roll id in one slot, each frame number once on a roll, a label on a KEPT frame with a
label record and on no frame of an UNSELECTED group, and none on a roll in a back (R86, R90, R148, R149). -/
structure RegisterHeld (s : State) : Prop where
  ids : ∀ i j p q, s.slotRoll? i = some p → s.slotRoll? j = some q → p.id = q.id → i = j
  numbers : ∀ j r, s.slotRoll? j = some r → (r.frames.map fun f => f.number).Nodup
  kept : ∀ r f, OnShelf s r f → f.label ≠ none → f.selection = .kept ∧ ∃ rec ∈ s.labels.records, rec.key = f.labelKey r
  settled : ∀ r f, OnShelf s r f → f.label ≠ none → ∀ g ∈ r.groups, g.outcome = .unselected → f.group ≠ g.first
  backs : ∀ b r, (s.back b).roll = some r → ∀ f ∈ r.frames, f.label = none

/-- A label's name names one frame. -/
theorem RegisterHeld.frame_unique {s : State} (hs : RegisterHeld s) {p q : Roll} {e f : Frame} (he : OnShelf s p e) (hf : OnShelf s q f)
    (h : e.labelKey p = f.labelKey q) : p = q ∧ e = f := by
  obtain ⟨⟨i, hi⟩, he⟩ := he
  obtain ⟨⟨j, hj⟩, hf⟩ := hf
  obtain ⟨hid, hnumber⟩ := LabelKey.mk.inj h
  obtain rfl := hs.ids i j p q hi hj hid
  obtain rfl := Option.some.inj (hi.symm.trans hj)
  exact ⟨rfl, List.inj_on_of_nodup_map (hs.numbers i p hi) he hf hnumber⟩

/-- The slot of a roll's id is the slot that holds it. -/
theorem RegisterHeld.slotOf? {s : State} (hs : RegisterHeld s) {j : Nat} {r : Roll} (hr : s.slotRoll? j = some r) :
    s.slotOf? r.id = some j :=
  slotOf?_eq_some_iff.2 ⟨⟨r, hr, rfl⟩, fun i hi q hq hid => hi.ne (hs.ids i j q r hq hr hid)⟩

/-- The place of a label in the register order, by the roll it is on (R130). -/
theorem RegisterHeld.labelRank {s : State} (hs : RegisterHeld s) {r : Roll} {f : Frame} (h : OnShelf s r f) :
    labelRank s (f.labelKey r) = (r.unloadSeq.getD 0, f.number) := by
  obtain ⟨⟨j, hr⟩, -⟩ := h
  have hslot : s.slotOf? (f.labelKey r).roll = some j := hs.slotOf? hr
  rw [Machine.labelRank, hslot, Option.bind_some, hr, Option.bind_some]
  rfl

/-- Records may be added, while the rolls stay. -/
theorem RegisterHeld.of_rolls {s t : State} (hs : RegisterHeld s) (hregister : t.register = s.register)
    (hbacks : ∀ b, (t.back b).roll = (s.back b).roll) (hrecords : s.labels.records ⊆ t.labels.records) : RegisterHeld t := by
  have hslot : ∀ j, t.slotRoll? j = s.slotRoll? j := slotRoll?_of_register hregister
  have hshelf : ∀ {r f}, OnShelf t r f → OnShelf s r f := fun ⟨⟨j, hj⟩, hf⟩ => ⟨⟨j, (hslot j).symm.trans hj⟩, hf⟩
  refine ⟨fun i j p q hp hq => ?_, fun j r hr => ?_, fun r f hf hl => ?_, fun r f hf => hs.settled r f (hshelf hf), fun b r hr => ?_⟩
  · exact hs.ids i j p q ((hslot i).symm.trans hp) ((hslot j).symm.trans hq)
  · exact hs.numbers j r ((hslot j).symm.trans hr)
  · obtain ⟨hkept, rec, hrec, hkey⟩ := hs.kept r f (hshelf hf) hl
    exact ⟨hkept, rec, hrecords hrec, hkey⟩
  · exact hs.backs b r ((hbacks b).symm.trans hr)

/-! ## A label state given to a frame -/

/-- A frame of the register that may take a label state: KEPT, with a label record, its group settled (R148, R149). -/
structure TakesLabel (s : State) (k : LabelKey) (r : Roll) (f : Frame) : Prop where
  shelf : OnShelf s r f
  key : f.labelKey r = k
  kept : f.selection = .kept
  record : ∃ rec ∈ s.labels.records, rec.key = k
  settled : ∀ g ∈ r.groups, g.outcome = .unselected → f.group ≠ g.first

/-- The frame of a label that has a state may take another. -/
theorem RegisterHeld.takesLabel {s : State} (hs : RegisterHeld s) {st : LabelState} {k : LabelKey} (h : k ∈ labelsWith st s) :
    ∃ r f, TakesLabel s k r f := by
  obtain ⟨r, f, hshelf, hst, rfl⟩ := mem_labelsWith_iff.1 h
  have hl : f.label ≠ none := by rw [hst]; nofun
  obtain ⟨hkept, hrec⟩ := hs.kept r f hshelf hl
  exact ⟨r, f, hshelf, rfl, hkept, hrec, hs.settled r f hshelf hl⟩

theorem TakesLabel.of_register {s t : State} {k : LabelKey} {r : Roll} {f : Frame} (h : TakesLabel s k r f)
    (hregister : t.register = s.register) (hrecords : s.labels.records ⊆ t.labels.records) : TakesLabel t k r f := by
  obtain ⟨⟨⟨j, hj⟩, hf⟩, hkey, hkept, ⟨rec, hrec, hrk⟩, hsettled⟩ := h
  exact ⟨⟨⟨j, (slotRoll?_of_register hregister j).trans hj⟩, hf⟩, hkey, hkept, ⟨rec, hrecords hrec, hrk⟩, hsettled⟩

/-- The frames of the register after a label state is given: the frame of the label has it, every other is as it was. -/
theorem onShelf_setLabelState {s : State} (hs : RegisterHeld s) {k : LabelKey} {r : Roll} {f : Frame} (hk : TakesLabel s k r f)
    (st : LabelState) {r' : Roll} {f' : Frame} :
    OnShelf (setLabelState k st s) r' f' ↔
      ∃ p e, OnShelf s p e ∧ r' = (if p = r then r.setLabel k.frame st else p)
        ∧ f' = if p = r ∧ e = f then { f with label := some st } else e := by
  obtain ⟨⟨j, hj⟩, hf⟩ := hk.shelf
  have hslot : s.slotOf? k.roll = some j := by rw [← hk.key]; exact hs.slotOf? hj
  have hframe : ∀ e ∈ r.frames, (if e.number == k.frame ∧ e.selection = .kept then { e with label := some st } else e)
      = if e = f then { f with label := some st } else e := fun e he => by
    by_cases hef : e = f
    · rw [if_pos hef, hef, if_pos ⟨by rw [← hk.key]; exact beq_self_eq_true _, hk.kept⟩]
    · rw [if_neg hef, if_neg]
      rintro ⟨hnumber, -⟩
      refine hef (List.inj_on_of_nodup_map (hs.numbers j r hj) he hf ?_)
      rw [← hk.key] at hnumber
      exact eq_of_beq hnumber
  rw [setLabelState_of_slot hslot]
  constructor
  · rintro ⟨⟨i, hi⟩, hf'⟩
    rw [slotRoll?_onSlot_eq] at hi
    split at hi
    · rw [hj] at hi
      obtain rfl := Option.some.inj hi
      obtain ⟨e, he, rfl⟩ := List.mem_map.1 hf'
      exact ⟨r, e, ⟨⟨j, hj⟩, he⟩, (if_pos rfl).symm, by simpa only [true_and] using hframe e he⟩
    · rename_i hij
      have hne : r' ≠ r := by
        rintro rfl
        exact hij (hs.ids i j r' r' hi hj rfl)
      exact ⟨r', f', ⟨⟨i, hi⟩, hf'⟩, (if_neg hne).symm, (if_neg fun h => hne h.1).symm⟩
  · rintro ⟨p, e, ⟨⟨i, hi⟩, he⟩, rfl, rfl⟩
    by_cases hp : p = r
    · subst hp
      simp only [true_and, if_true]
      refine ⟨⟨j, slotRoll?_onSlot _ hj⟩, ?_⟩
      rw [← hframe e he]
      exact List.mem_map_of_mem he
    · simp only [hp, false_and, if_false]
      refine ⟨⟨i, ?_⟩, he⟩
      have hij : i ≠ j := by
        rintro rfl
        exact hp (Option.some.inj (hi.symm.trans hj))
      rw [slotRoll?_onSlot_eq, if_neg hij, hi]

theorem setLabel_id (r : Roll) (n : Nat) (st : LabelState) : (r.setLabel n st).id = r.id := rfl

/-- The name of a label stands through a label state given. -/
theorem labelKey_labelled {p r : Roll} {e f : Frame} {n : Nat} {st : LabelState} :
    (if p = r ∧ e = f then { f with label := some st } else e : Frame).labelKey (if p = r then r.setLabel n st else p) = e.labelKey p := by
  by_cases hp : p = r
  · by_cases he : e = f
    · simp [hp, he, Frame.labelKey, setLabel_id]
    · simp [hp, he, Frame.labelKey, setLabel_id]
  · simp [hp]

/-- The labels of a state after one takes a state: it, when the state is its own, and of the others those that had it. -/
theorem mem_labelsWith_setLabelState {s : State} (hs : RegisterHeld s) {k : LabelKey} {r : Roll} {f : Frame} (hk : TakesLabel s k r f)
    {st x : LabelState} {w : LabelKey} :
    w ∈ labelsWith x (setLabelState k st s) ↔ (w = k ∧ x = st) ∨ (w ≠ k ∧ w ∈ labelsWith x s) := by
  simp only [mem_labelsWith_iff, onShelf_setLabelState hs hk]
  constructor
  · rintro ⟨r', f', ⟨p, e, hpe, rfl, rfl⟩, hx, rfl⟩
    rw [labelKey_labelled]
    by_cases h : p = r ∧ e = f
    · rw [if_pos h] at hx
      obtain ⟨rfl, rfl⟩ := h
      exact .inl ⟨hk.key, (Option.some.inj hx).symm⟩
    · rw [if_neg h] at hx
      refine .inr ⟨fun hkey => h (hs.frame_unique hpe hk.shelf (hkey.trans hk.key.symm)), p, e, hpe, hx, rfl⟩
  · rintro (⟨rfl, rfl⟩ | ⟨hne, p, e, hpe, hx, rfl⟩)
    · exact ⟨_, _, ⟨r, f, hk.shelf, rfl, rfl⟩, by simp, labelKey_labelled.trans hk.key⟩
    · have h : ¬(p = r ∧ e = f) := by
        rintro ⟨rfl, rfl⟩
        exact hne hk.key
      exact ⟨_, _, ⟨p, e, hpe, rfl, rfl⟩, by rw [if_neg h]; exact hx, labelKey_labelled⟩

theorem slotRoll?_setLabelState (k : LabelKey) (st : LabelState) (s : State) (j : Nat) :
    ∃ f : Roll → Roll, (setLabelState k st s).slotRoll? j = (s.slotRoll? j).map f
      ∧ ∀ r, (f r).id = r.id ∧ (f r).unloadSeq = r.unloadSeq ∧ (f r).groups = r.groups
          ∧ ((f r).frames.map fun e => e.number) = r.frames.map fun e => e.number := by
  have hnumbers : ∀ r : Roll, ((r.setLabel k.frame st).frames.map fun e => e.number) = r.frames.map fun e => e.number := fun r => by
    rw [Roll.setLabel, List.map_map]
    refine List.map_congr_left fun e _ => ?_
    simp only [Function.comp_apply]
    split <;> rfl
  cases h : s.slotOf? k.roll with
  | none =>
    have hsame : setLabelState k st s = s := by simp only [setLabelState, h]
    exact ⟨id, by rw [hsame, Option.map_id_fun, id], fun _ => ⟨rfl, rfl, rfl, rfl⟩⟩
  | some slot =>
    rw [setLabelState_of_slot h]
    by_cases hj : j = slot
    · exact ⟨fun r => r.setLabel k.frame st, by rw [slotRoll?_onSlot_eq, if_pos hj, hj], fun r => ⟨rfl, rfl, rfl, hnumbers r⟩⟩
    · exact ⟨id, by rw [slotRoll?_onSlot_eq, if_neg hj, Option.map_id_fun, id], fun _ => ⟨rfl, rfl, rfl, rfl⟩⟩

theorem setLabelState_film (k : LabelKey) (st : LabelState) (s : State) : (setLabelState k st s).film = s.film := by
  unfold setLabelState
  split <;> rfl

/-- A label state given where it may be keeps the register sound. -/
theorem RegisterHeld.setLabelState {s : State} (hs : RegisterHeld s) {k : LabelKey} {r : Roll} {f : Frame} (hk : TakesLabel s k r f)
    (st : LabelState) : RegisterHeld (setLabelState k st s) := by
  have hgroups : ∀ p : Roll, (if p = r then r.setLabel k.frame st else p).groups = p.groups := fun p => by
    split
    · rename_i h
      rw [h]
      rfl
    · rfl
  refine ⟨fun i j p q hp hq hid => ?_, fun j p hp => ?_, fun r' f' hf' hl => ?_, fun r' f' hf' hl g hg hopen => ?_, fun b p hp => ?_⟩
  · obtain ⟨fi, hi, hfi⟩ := slotRoll?_setLabelState k st s i
    obtain ⟨fj, hj, hfj⟩ := slotRoll?_setLabelState k st s j
    obtain ⟨p', hp', rfl⟩ := Option.map_eq_some_iff.1 (hi.symm.trans hp)
    obtain ⟨q', hq', rfl⟩ := Option.map_eq_some_iff.1 (hj.symm.trans hq)
    exact hs.ids i j p' q' hp' hq' (((hfi p').1.symm.trans hid).trans (hfj q').1)
  · obtain ⟨fj, hj, hfj⟩ := slotRoll?_setLabelState k st s j
    obtain ⟨p', hp', rfl⟩ := Option.map_eq_some_iff.1 (hj.symm.trans hp)
    obtain ⟨-, -, -, hnumbers⟩ := hfj p'
    rw [hnumbers]
    exact hs.numbers j p' hp'
  · obtain ⟨p, e, hpe, rfl, rfl⟩ := (onShelf_setLabelState hs hk st).1 hf'
    rw [labelKey_labelled, setLabelState_labels]
    by_cases h : p = r ∧ e = f
    · rw [if_pos h, h.1, h.2, hk.key]
      exact ⟨hk.kept, hk.record⟩
    · rw [if_neg h] at hl ⊢
      exact hs.kept p e hpe hl
  · obtain ⟨p, e, hpe, rfl, rfl⟩ := (onShelf_setLabelState hs hk st).1 hf'
    rw [hgroups] at hg
    by_cases h : p = r ∧ e = f
    · rw [if_pos h]
      exact hk.settled g (h.1 ▸ hg) hopen
    · rw [if_neg h] at hl ⊢
      exact hs.settled p e hpe hl g hg hopen
  · rw [back_of_film (setLabelState_film k st s) b] at hp
    exact hs.backs b p hp

/-! ## The register order -/

/-- Slots that keep the ids and the unload sequences of their rolls order the labels alike. -/
theorem labelRank_of_slots {s t : State}
    (h : ∀ j, (t.slotRoll? j).map (fun r => (r.id, r.unloadSeq)) = (s.slotRoll? j).map fun r => (r.id, r.unloadSeq)) (k : LabelKey) :
    labelRank t k = labelRank s k := by
  have hslot : t.slotOf? k.roll = s.slotOf? k.roll := slotOf?_of_ids (fun j => by
    have hid := congrArg (Option.map Prod.fst) (h j)
    rw [Option.map_map, Option.map_map] at hid
    exact hid) _
  have hseq : ∀ j, ((t.slotRoll? j).bind fun r => r.unloadSeq) = (s.slotRoll? j).bind fun r => r.unloadSeq := fun j => by
    have hs := congrArg (fun x => Option.bind x Prod.snd) (h j)
    simp only [Option.bind_map] at hs
    exact hs
  rw [labelRank, labelRank, hslot, Option.bind_assoc, Option.bind_assoc]
  simp only [hseq]

theorem labelRank_setLabelState (k w : LabelKey) (st : LabelState) (s : State) : labelRank (setLabelState k st s) w = labelRank s w := by
  refine labelRank_of_slots (fun j => ?_) w
  obtain ⟨f, hj, hf⟩ := slotRoll?_setLabelState k st s j
  rw [hj, Option.map_map]
  refine congrArg (Option.map · _) (funext fun r => ?_)
  obtain ⟨hid, hseq, -⟩ := hf r
  rw [Function.comp_apply, hid, hseq]

theorem labelBefore_iff {s : State} {x y : LabelKey} :
    labelBefore s x y = true ↔
      (labelRank s x).1 < (labelRank s y).1 ∨ ((labelRank s x).1 = (labelRank s y).1 ∧ x.frame ≤ y.frame) := by
  simp [labelBefore]

theorem labelBefore_trans {s : State} {x y z : LabelKey} (h : labelBefore s x y = true) (k : labelBefore s y z = true) :
    labelBefore s x z = true := by
  rw [labelBefore_iff] at h k ⊢
  omega

theorem labelBefore_total {s : State} {x y : LabelKey} (h : labelBefore s x y = false) : labelBefore s y x = true := by
  have hnot : ¬labelBefore s x y = true := by rw [h]; nofun
  rw [labelBefore_iff] at hnot ⊢
  omega

/-! ## The queue -/

/-- The queue holds exactly the QUEUED labels, none twice, in the register order (R150). -/
structure QueueHeld (s : State) : Prop where
  nodup : s.labels.queue.Nodup
  queued : ∀ k, k ∈ s.labels.queue ↔ k ∈ labelsWith .queued s
  ordered : s.labels.queue.Pairwise fun older younger => labelBefore s older younger = true

/-- A queue whose labels keep their ranks keeps its order. -/
theorem pairwise_of_ranks {s t : State} {l : List LabelKey} (h : ∀ k ∈ l, labelRank t k = labelRank s k)
    (hl : l.Pairwise fun older younger => labelBefore s older younger = true) :
    l.Pairwise fun older younger => labelBefore t older younger = true :=
  hl.imp_of_mem fun hx hy hxy => by
    rw [labelBefore_iff] at hxy ⊢
    rwa [h _ hx, h _ hy]

/-- The register and the queue are sound together. -/
structure LabelsQueued (s : State) : Prop extends RegisterHeld s, QueueHeld s

theorem labelBefore_setLabelState (k : LabelKey) (st : LabelState) (s : State) :
    labelBefore (setLabelState k st s) = labelBefore s := by
  funext x y
  rw [labelBefore, labelBefore, labelRank_setLabelState, labelRank_setLabelState]

/-- A label that is not QUEUED enters the queue in its place (R150). -/
theorem LabelsQueued.enqueue {s : State} (hs : LabelsQueued s) {k : LabelKey} {r : Roll} {f : Frame} (hk : TakesLabel s k r f)
    (hnew : k ∉ labelsWith .queued s) : LabelsQueued (enqueue k s) := by
  have hregister : RegisterHeld (setLabelState k .queued s) := hs.toRegisterHeld.setLabelState hk .queued
  have hout : k ∉ s.labels.queue := fun h => hnew ((hs.queued k).1 h)
  refine ⟨hregister.of_rolls rfl (fun _ => rfl) (List.Subset.refl _), ?_, fun w => ?_, ?_⟩
  · rw [enqueue_queue]
    exact (insertBy_perm _ _ _).nodup_iff.2 (List.nodup_cons.2 ⟨hout, hs.nodup⟩)
  · rw [enqueue_queue, (insertBy_perm _ _ _).mem_iff, List.mem_cons, hs.queued]
    refine Iff.trans ?_ (mem_labelsWith_setLabelState hs.toRegisterHeld hk (st := .queued)).symm
    by_cases h : w = k <;> simp [h]
  · rw [enqueue_queue]
    have hbefore : labelBefore (Machine.enqueue k s) = labelBefore s := labelBefore_setLabelState k .queued s
    rw [hbefore]
    exact insertBy_pairwise _ k _ (fun _ _ _ => labelBefore_trans) (fun _ => id) (fun _ => labelBefore_total) hs.ordered

/-- A label that leaves the queue with another state than QUEUED. -/
theorem LabelsQueued.leave {s : State} (hs : LabelsQueued s) {k : LabelKey} {r : Roll} {f : Frame} (hk : TakesLabel s k r f)
    {st : LabelState} (hst : st ≠ .queued) {change : LabelUnit → LabelUnit} (hrecords : (change s.labels).records = s.labels.records)
    (hqueue : (change s.labels).queue = s.labels.queue.erase k) : LabelsQueued (setLabelState k st (s.onLabels change)) := by
  have hsub : s.labels.records ⊆ (s.onLabels change).labels.records := fun x hx => by rwa [onLabels_labels, hrecords]
  have hheld : RegisterHeld (s.onLabels change) := hs.toRegisterHeld.of_rolls rfl (fun _ => rfl) hsub
  have htakes : TakesLabel (s.onLabels change) k r f := hk.of_register rfl hsub
  have hlabels : labelsWith .queued (s.onLabels change) = labelsWith .queued s := labelsWith_of_register rfl _
  refine ⟨hheld.setLabelState htakes st, ?_, fun w => ?_, ?_⟩
  · rw [setLabelState_labels, onLabels_labels, hqueue]
    exact hs.nodup.erase k
  · rw [setLabelState_labels, onLabels_labels, hqueue, hs.nodup.mem_erase_iff, hs.queued,
      mem_labelsWith_setLabelState hheld htakes, hlabels]
    simp [hst.symm]
  · rw [setLabelState_labels, onLabels_labels, hqueue]
    exact pairwise_of_ranks (fun w _ => labelRank_setLabelState k w st _) (hs.ordered.sublist List.erase_sublist)

end Sys2Proof.Machine
end

section
/-! SUPPORT. The soundness of the label unit part by part, and what keeps it: the fill of the queue, a new label, the printer line,
groups settled on the rolls of the register, a roll that enters the register or is closed (R134, R138 to R140, R149 to R155). -/

namespace Sys2Proof.Machine

/-! ## The parts of the soundness -/

/-- The register and the queue are sound, and a label is WAITING only with the queue full (R151). -/
structure LabelsFull (s : State) : Prop extends LabelsQueued s where
  full : labelsWith .waiting s ≠ [] → 32 ≤ s.labels.queue.length

/-- The head is in the queue; an IDLE line has none, an AWAITING or STOPPED one has it (R152). -/
structure LabelUnit.LineHeld (u : LabelUnit) : Prop where
  queued : ∀ k ∈ u.head, k ∈ u.queue
  idle : u.line = .idle → u.head = none
  sent : u.line = .awaiting ∨ (∃ reason, u.line = .stopped reason) → u.head ≠ none

/-- The label unit is sound but for the send of an IDLE line, which comes at the end of the event (R155). -/
structure LabelsReady (s : State) : Prop extends LabelsFull s where
  line : s.labels.LineHeld

/-- What `LabelsSound` says, each part by its name. -/
structure LabelsHeld (s : State) : Prop extends LabelsReady s where
  nothing : s.labels.line = .idle → s.labels.queue = []

theorem onShelf_of_slot {s : State} {j : Nat} {r : Roll} {f : Frame} (hr : s.slotRoll? j = some r) (hf : f ∈ r.frames) : OnShelf s r f :=
  ⟨⟨j, hr⟩, hf⟩

theorem labelsHeld_of {s : State} (hr : RollsSound s) (hs : LabelsSound s) : LabelsHeld s := by
  have hrolls := rollsSound_iff.1 hr
  obtain ⟨hslots, hbacks, hnodup, hqueued, hordered, hfull, hhead, hidle, hsent⟩ := hs
  have hslot : ∀ j r, s.slotRoll? j = some r → r.labelsSound s := fun j r h => hslots j (lt_of_slotRoll? h) r h
  refine ⟨⟨⟨⟨⟨fun i j p q hp hq hid => ?_, fun j r h => ?_, ?_, ?_, fun b r h => hbacks b r h⟩, ⟨hnodup, hqueued, hordered⟩⟩, hfull⟩,
    ⟨hhead, fun h => (hidle h).1, hsent⟩⟩, fun h => (hidle h).2⟩
  · exact RollPlace.slot.inj (hrolls.distinct (.slot i) (.slot j) p q hp hq hid)
  · obtain ⟨-, -, hsorted⟩ := hrolls.sound (.slot j) r h
    exact hsorted.imp fun hlt => hlt.ne
  · rintro r f ⟨⟨j, h⟩, hf⟩ hl
    obtain ⟨hkept, hrec⟩ := (hslot j r h).1 f hf hl
    exact ⟨hkept, labelRecord?_ne_none_iff.1 hrec⟩
  · rintro r f ⟨⟨j, h⟩, hf⟩ hl g hg hopen hgroup
    exact hl ((hslot j r h).2 g hg hopen f hf hgroup)

theorem LabelsHeld.labelsSound {s : State} (hs : LabelsHeld s) : LabelsSound s := by
  refine ⟨fun j _ r hr => ⟨fun f hf hl => ?_, fun g hg hopen f hf hgroup => ?_⟩, fun b r hr => hs.backs b r hr, hs.nodup, hs.queued,
    hs.ordered, hs.full, hs.line.queued, fun h => ⟨hs.line.idle h, hs.nothing h⟩, hs.line.sent⟩
  · obtain ⟨hkept, hrec⟩ := hs.kept r f (onShelf_of_slot hr hf) hl
    exact ⟨hkept, labelRecord?_ne_none_iff.2 hrec⟩
  · by_contra hl
    exact hs.settled r f (onShelf_of_slot hr hf) hl g hg hopen hgroup

/-! ## Changes of the label unit alone -/

/-- The label unit changes but for its records and its queue. -/
theorem LabelsQueued.onLabels {s : State} (hs : LabelsQueued s) {change : LabelUnit → LabelUnit}
    (hrecords : s.labels.records ⊆ (change s.labels).records) (hqueue : (change s.labels).queue = s.labels.queue) :
    LabelsQueued (s.onLabels change) := by
  refine ⟨hs.toRegisterHeld.of_rolls rfl (fun _ => rfl) hrecords, ?_, fun k => ?_, ?_⟩ <;> rw [onLabels_labels, hqueue]
  · exact hs.nodup
  · exact hs.queued k
  · exact hs.ordered

theorem LabelsFull.onLabels {s : State} (hs : LabelsFull s) {change : LabelUnit → LabelUnit}
    (hrecords : s.labels.records ⊆ (change s.labels).records) (hqueue : (change s.labels).queue = s.labels.queue) :
    LabelsFull (s.onLabels change) :=
  ⟨hs.toLabelsQueued.onLabels hrecords hqueue, by rw [onLabels_labels, hqueue]; exact hs.full⟩

/-- The line moves, with its head. -/
theorem LabelsFull.onLine {s : State} (hs : LabelsFull s) {change : LabelUnit → LabelUnit}
    (hrecords : (change s.labels).records = s.labels.records) (hqueue : (change s.labels).queue = s.labels.queue)
    (hline : (change s.labels).LineHeld) : LabelsReady (s.onLabels change) :=
  ⟨hs.onLabels (by rw [hrecords]; exact List.Subset.refl _) hqueue, hline⟩

/-- The rolls and the label unit are as they were. -/
theorem LabelsQueued.of_same {s t : State} (hs : LabelsQueued s) (hregister : t.register = s.register) (hlabels : t.labels = s.labels)
    (hbacks : ∀ b, (t.back b).roll = (s.back b).roll) : LabelsQueued t := by
  refine ⟨hs.toRegisterHeld.of_rolls hregister hbacks (by rw [hlabels]; exact List.Subset.refl _), ?_, fun k => ?_, ?_⟩ <;>
    rw [hlabels]
  · exact hs.nodup
  · rw [labelsWith_of_register hregister]
    exact hs.queued k
  · exact pairwise_of_ranks (fun k _ => labelRank_of_slots (fun j => by rw [slotRoll?_of_register hregister]) k) hs.ordered

/-- A label takes the line: the head in the queue, the line AWAITING (R155). -/
theorem LabelsFull.transmit {s : State} (hs : LabelsFull s) {k : LabelKey} (hk : k ∈ s.labels.queue) : LabelsReady (transmit k s) := by
  refine hs.onLine rfl rfl ⟨fun w hw => ?_, nofun, fun _ => nofun⟩
  rw [← Option.some.inj hw]
  exact hk

/-- The send of an IDLE line leaves it with nothing to send (R155). -/
theorem LabelsReady.sendIfIdle {s : State} (hs : LabelsReady s) : LabelsHeld (sendIfIdle s) := by
  by_cases hbusy : s.labels.line ≠ .idle ∨ s.labels.queue = []
  · rw [sendIfIdle_of_busy hbusy]
    exact ⟨hs, hbusy.resolve_left ∘ not_not_intro⟩
  · rw [not_or, not_not] at hbusy
    obtain ⟨k, ks, hqueue⟩ := List.exists_cons_of_ne_nil hbusy.2
    rw [sendIfIdle_of_idle hbusy.1 hqueue, hs.line.idle hbusy.1, Option.getD_none]
    exact ⟨hs.toLabelsFull.transmit (by rw [hqueue]; exact List.mem_cons_self), nofun⟩

/-! ## The fill -/

theorem LabelsQueued.fillBy (n : Nat) {s : State} (hs : LabelsQueued s) : LabelsQueued (fillBy n s) := by
  induction n generalizing s with
  | zero => exact hs
  | succ n ih =>
    unfold Machine.fillBy
    split
    · split
      · exact hs
      · rename_i k ks hwaiting
        obtain ⟨r, f, hk⟩ := hs.takesLabel (st := .waiting) (k := k) (by rw [hwaiting]; exact List.mem_cons_self)
        refine ih (hs.enqueue hk fun hqueued => ?_)
        obtain ⟨p, e, hpe, hst, hkey⟩ := mem_labelsWith_iff.1 hqueued
        obtain ⟨q, x, hqx, hw, hxkey⟩ := mem_labelsWith_iff.1 (hwaiting ▸ List.mem_cons_self : k ∈ labelsWith .waiting s)
        obtain ⟨-, rfl⟩ := hs.frame_unique hpe hqx (hkey.trans hxkey.symm)
        rw [hst] at hw
        cases hw
    · exact hs

theorem fillBy_queue_subset (n : Nat) (s : State) : s.labels.queue ⊆ (fillBy n s).labels.queue := by
  induction n generalizing s with
  | zero => exact List.Subset.refl _
  | succ n ih =>
    unfold fillBy
    split
    · split
      · exact List.Subset.refl _
      · refine List.Subset.trans (fun w hw => ?_) (ih _)
        rw [enqueue_queue]
        exact (insertBy_perm _ _ _).mem_iff.2 (List.mem_cons_of_mem _ hw)
    · exact List.Subset.refl _

theorem LabelsQueued.fillQueue {s : State} (hs : LabelsQueued s) : LabelsFull (fillQueue s) :=
  ⟨hs.fillBy Config.maxLabels, fun hwaiting => (fillQueue_ends s).resolve_right hwaiting⟩

theorem fillQueue_labels (s : State) : (fillQueue s).labels = { s.labels with queue := (fillQueue s).labels.queue } :=
  congrArg (fun t => t.labels) (relabelled_fillBy Config.maxLabels s).rest

/-- The fill leaves the line as it was, and the head in the longer queue. -/
theorem LabelUnit.LineHeld.longer {u : LabelUnit} (hu : u.LineHeld) {queue : List LabelKey} (h : u.queue ⊆ queue) :
    LabelUnit.LineHeld { u with queue := queue } := ⟨fun k hk => h (hu.queued k hk), hu.idle, hu.sent⟩

theorem LabelsQueued.filled {s : State} (hs : LabelsQueued s) (hline : s.labels.LineHeld) : LabelsReady (Machine.fillQueue s) :=
  ⟨hs.fillQueue, by rw [fillQueue_labels]; exact hline.longer (fillBy_queue_subset _ s)⟩

/-! ## A label that takes a state beside the queue -/

/-- A label that is not QUEUED takes another state. -/
theorem LabelsQueued.relabel {s : State} (hs : LabelsQueued s) {k : LabelKey} {r : Roll} {f : Frame} (hk : TakesLabel s k r f)
    (hnew : k ∉ labelsWith .queued s) {st : LabelState} (hst : st ≠ .queued) : LabelsQueued (setLabelState k st s) :=
  hs.leave (change := id) hk hst rfl (List.erase_of_not_mem (mt (hs.queued k).1 hnew)).symm

/-- A label made for a kept frame that had none: QUEUED in its place, or WAITING and the fill run (R134). -/
theorem LabelsReady.makeLabel {s : State} (hs : LabelsReady s) {rec : LabelRecord} {r : Roll} {f : Frame}
    (hshelf : OnShelf s r f) (hkey : f.labelKey r = rec.key) (hkept : f.selection = .kept) (hnone : f.label = none)
    (hsettled : ∀ g ∈ r.groups, g.outcome = .unselected → f.group ≠ g.first) : LabelsReady (makeLabel rec s) := by
  have hrecorded : LabelsFull (recorded rec s) := hs.toLabelsFull.onLabels (List.subset_append_left _ _) rfl
  have hk : TakesLabel (recorded rec s) rec.key r f :=
    ⟨hshelf, hkey, hkept, ⟨rec, List.mem_append_right _ List.mem_cons_self, rfl⟩, hsettled⟩
  have hout : ∀ st, rec.key ∉ labelsWith st (recorded rec s) := fun st h => by
    obtain ⟨p, e, hpe, hst, he⟩ := mem_labelsWith_iff.1 h
    obtain ⟨-, rfl⟩ := hs.frame_unique hpe hshelf (he.trans hkey.symm)
    rw [hnone] at hst
    cases hst
  have hline : (recorded rec s).labels.LineHeld := ⟨hs.line.queued, hs.line.idle, hs.line.sent⟩
  rcases newLabelState_cases s rec.key with h | h
  · rw [makeLabel_of_queued h]
    obtain ⟨hroom, -⟩ := newLabelState_eq_queued_iff.1 h
    have hempty : labelsWith .waiting s = [] := by_contra fun hw => absurd (hs.full hw) (Nat.not_le_of_lt hroom)
    refine ⟨⟨hrecorded.toLabelsQueued.enqueue hk (hout _), fun hw => absurd (List.eq_nil_iff_forall_not_mem.2 fun w hmem => ?_) hw⟩, ?_⟩
    · rcases (mem_labelsWith_setLabelState hrecorded.toRegisterHeld hk (st := .queued)).1 hmem with ⟨-, hst⟩ | ⟨-, hold⟩
      · cases hst
      · have hold : w ∈ labelsWith .waiting s := hold
        rw [hempty] at hold
        cases hold
    · have hlabels : (enqueue rec.key (recorded rec s)).labels
          = { (recorded rec s).labels with queue := (enqueue rec.key (recorded rec s)).labels.queue } :=
        congrArg (fun t => t.labels) (relabelled_enqueue rec.key (recorded rec s)).rest
      rw [hlabels]
      refine hline.longer fun w hw => ?_
      rw [enqueue_queue]
      exact (insertBy_perm _ _ _).mem_iff.2 (List.mem_cons_of_mem _ hw)
  · rw [makeLabel_of_waiting h]
    refine (hrecorded.toLabelsQueued.relabel hk (hout _) (st := .waiting) nofun).filled ?_
    rw [setLabelState_labels]
    exact hline

/-! ## Rolls whose groups are settled -/

/-- A roll record changed in its groups and in the selections of frames without a label: every label stays in its place, and no group
becomes UNSELECTED. -/
structure Regrouped (r q : Roll) : Prop where
  view : q.labelView = r.labelView
  frames : ∀ f ∈ q.frames, f.label ≠ none →
    ∃ e ∈ r.frames, e.number = f.number ∧ e.label = f.label ∧ e.group = f.group ∧ e.selection = f.selection
  groups : ∀ g ∈ q.groups, g.outcome = .unselected → ∃ h ∈ r.groups, h.outcome = .unselected ∧ h.first = g.first

theorem Regrouped.refl (r : Roll) : Regrouped r r :=
  ⟨rfl, fun f hf _ => ⟨f, hf, rfl, rfl, rfl, rfl⟩, fun g hg hopen => ⟨g, hg, hopen, rfl⟩⟩

theorem Regrouped.trans {a b c : Roll} (h : Regrouped a b) (k : Regrouped b c) : Regrouped a c := by
  refine ⟨k.view.trans h.view, fun f hf hl => ?_, fun g hg hopen => ?_⟩
  · obtain ⟨e, he, hn, hel, hg, hsel⟩ := k.frames f hf hl
    obtain ⟨d, hd, hdn, hdl, hdg, hdsel⟩ := h.frames e he (hel ▸ hl)
    exact ⟨d, hd, hdn.trans hn, hdl.trans hel, hdg.trans hg, hdsel.trans hsel⟩
  · obtain ⟨p, hp, hpopen, hfirst⟩ := k.groups g hg hopen
    obtain ⟨q, hq, hqopen, hqfirst⟩ := h.groups p hp hpopen
    exact ⟨q, hq, hqopen, hqfirst.trans hfirst⟩

/-- The frames of a first frame have no label. -/
def Roll.UnlabelledGroup (r : Roll) (first : Nat) : Prop := ∀ f ∈ r.frames, f.group = first → f.label = none

theorem Regrouped.unlabelledGroup {r q : Roll} (h : Regrouped r q) {first : Nat} (hr : r.UnlabelledGroup first) :
    q.UnlabelledGroup first := fun f hf hgroup => by
  by_contra hl
  obtain ⟨e, he, -, hel, heg, -⟩ := h.frames f hf hl
  exact hl (hel ▸ hr e he (heg.trans hgroup))

/-- The frames of a group without labels change in their selection and marks alone. -/
theorem onFramesOf_regrouped {r : Roll} {first : Nat} {change : Frame → Frame} (hfree : r.UnlabelledGroup first)
    (hchange : ∀ f, (change f).number = f.number ∧ (change f).label = f.label) : Regrouped r (r.onFramesOf first change) := by
  refine ⟨?_, fun f hf hl => ?_, fun g hg hopen => ⟨g, hg, hopen, rfl⟩⟩
  · have hsame : ((r.onFramesOf first change).frames.map fun f => (f.number, f.label)) = r.frames.map fun f => (f.number, f.label) := by
      rw [Roll.onFramesOf, List.map_map]
      refine List.map_congr_left fun f _ => ?_
      simp only [Function.comp_apply]
      split
      · rw [(hchange f).1, (hchange f).2]
      · rfl
    rw [Roll.labelView, hsame]
    rfl
  · obtain ⟨e, he, rfl⟩ := List.mem_map.1 hf
    by_cases h : e.group = first
    · simp only [h, beq_self_eq_true, if_true] at hl
      exact absurd (((hchange e).2).trans (hfree e he h)) hl
    · have hother : (if e.group == first then change e else e) = e := if_neg (by simpa using h)
      rw [hother]
      exact ⟨e, he, rfl, rfl, rfl, rfl⟩

/-- A group takes an outcome other than UNSELECTED, or a change of another kind. -/
theorem onGroup_regrouped {r : Roll} {first : Nat} {change : Group → Group}
    (hchange : ∀ g, (change g).first = g.first ∧ ((change g).outcome = .unselected → g.outcome = .unselected)) :
    Regrouped r (r.onGroup first change) := by
  refine ⟨rfl, fun f hf _ => ⟨f, hf, rfl, rfl, rfl, rfl⟩, fun g hg hopen => ?_⟩
  obtain ⟨h, hh, rfl⟩ := List.mem_map.1 hg
  split at hopen
  · exact ⟨h, hh, (hchange h).2 hopen, by rw [if_pos ‹_›, (hchange h).1]⟩
  · exact ⟨h, hh, hopen, by rw [if_neg ‹_›]⟩

/-- The group of a first frame settled, its unlabelled frames with it. -/
theorem settled_regrouped {r : Roll} {first : Nat} {settle : Group → Group} {change : Frame → Frame} (hfree : r.UnlabelledGroup first)
    (hsettle : ∀ g, (settle g).first = g.first ∧ (settle g).outcome ≠ .unselected)
    (hchange : ∀ f, (change f).number = f.number ∧ (change f).label = f.label) :
    Regrouped r ((r.onGroup first settle).onFramesOf first change) := by
  have hgroup : Regrouped r (r.onGroup first settle) := onGroup_regrouped fun g => ⟨(hsettle g).1, fun h => absurd h (hsettle g).2⟩
  exact hgroup.trans (onFramesOf_regrouped (hgroup.unlabelledGroup hfree) hchange)

theorem discardGroup_regrouped {r : Roll} {first : Nat} {outcome : GroupOutcome} (hfree : r.UnlabelledGroup first)
    (houtcome : outcome ≠ .unselected) : Regrouped r (r.discardGroup first outcome) :=
  settled_regrouped hfree (fun _ => ⟨rfl, houtcome⟩) fun _ => ⟨rfl, rfl⟩

theorem keepStep_regrouped {r : Roll} {first : Nat} (j : Int) (hfree : r.UnlabelledGroup first) : Regrouped r (r.keepStep first j) :=
  settled_regrouped hfree (fun _ => ⟨rfl, nofun⟩) fun _ => ⟨rfl, rfl⟩

theorem cancelOrder_regrouped {r : Roll} (n : Nat) (hfree : ∀ g ∈ r.groups, g.outcome = .unselected → r.UnlabelledGroup g.first) :
    Regrouped r (r.cancelOrder n) := by
  have hfold : ∀ (gs : List Group) (q : Roll), (∀ g ∈ gs, q.UnlabelledGroup g.first) →
      Regrouped q (gs.foldl (fun r g => r.discardGroup g.first .discarded) q) := by
    intro gs
    induction gs with
    | nil => exact fun q _ => .refl q
    | cons g gs ih =>
      intro q hq
      have hone := discardGroup_regrouped (hq g List.mem_cons_self) (outcome := .discarded) nofun
      exact hone.trans (ih _ fun h hh => hone.unlabelledGroup (hq h (List.mem_cons_of_mem _ hh)))
  refine hfold _ r fun g hg => ?_
  obtain ⟨hmem, hcancelled⟩ := List.mem_filter.1 hg
  simp only [Group.cancelledBy, Bool.and_eq_true, decide_eq_true_eq] at hcancelled
  exact hfree g hmem hcancelled.2

/-- Every slot of the register keeps its roll but for groups settled. -/
def SlotsRegrouped (s t : State) : Prop :=
  ∀ j, ∃ f : Roll → Roll, t.slotRoll? j = (s.slotRoll? j).map f ∧ ∀ r, s.slotRoll? j = some r → Regrouped r (f r)

theorem SlotsRegrouped.of_register {s t : State} (h : t.register = s.register) : SlotsRegrouped s t := fun j =>
  ⟨id, by rw [slotRoll?_of_register h, Option.map_id_fun, id], fun r _ => .refl r⟩

theorem SlotsRegrouped.trans {a b c : State} (h : SlotsRegrouped a b) (k : SlotsRegrouped b c) : SlotsRegrouped a c := fun j => by
  obtain ⟨f, hf, hfr⟩ := h j
  obtain ⟨g, hg, hgr⟩ := k j
  exact ⟨g ∘ f, by rw [hg, hf, Option.map_map], fun r hr => (hfr r hr).trans (hgr (f r) (by rw [hf, hr]; rfl))⟩

theorem slotsRegrouped_onSlot {s : State} (k : Nat) {f : Roll → Roll} (h : ∀ r, s.slotRoll? k = some r → Regrouped r (f r)) :
    SlotsRegrouped s (s.onSlot k f) := fun j => by
  by_cases hj : j = k
  · exact ⟨f, by rw [slotRoll?_onSlot_eq, if_pos hj, hj], fun r hr => h r (hj ▸ hr)⟩
  · exact ⟨id, by rw [slotRoll?_onSlot_eq, if_neg hj, Option.map_id_fun, id], fun r _ => .refl r⟩

theorem SlotsRegrouped.sameLabels {s t : State} (h : SlotsRegrouped s t) : SameLabels s t := fun j => by
  obtain ⟨f, hf, hr⟩ := h j
  rw [hf, Option.map_map]
  cases hs : s.slotRoll? j with
  | none => rfl
  | some r => exact congrArg some (hr r hs).view

/-- A labelled frame of a register whose groups were settled was there before. -/
theorem SlotsRegrouped.origin {s t : State} (h : SlotsRegrouped s t) {q : Roll} {f : Frame} (hf : OnShelf t q f) (hl : f.label ≠ none) :
    ∃ r e, OnShelf s r e ∧ e.labelKey r = f.labelKey q ∧ e.label = f.label ∧ e.group = f.group ∧ e.selection = f.selection
      ∧ Regrouped r q := by
  obtain ⟨⟨j, hq⟩, hmem⟩ := hf
  obtain ⟨g, hg, hgr⟩ := h j
  obtain ⟨r, hr, rfl⟩ := Option.map_eq_some_iff.1 (hg.symm.trans hq)
  obtain ⟨e, he, hn, hel, hgroup, hsel⟩ := (hgr r hr).frames f hmem hl
  have hid : (g r).id = r.id := congrArg Prod.fst (hgr r hr).view
  exact ⟨r, e, onShelf_of_slot hr he, by rw [Frame.labelKey, Frame.labelKey, hid, hn], hel, hgroup, hsel, hgr r hr⟩

theorem RegisterHeld.regrouped {s t : State} (hs : RegisterHeld s) (h : SlotsRegrouped s t)
    (hrecords : t.labels.records = s.labels.records) (hbacks : ∀ b r, (t.back b).roll = some r → ∀ f ∈ r.frames, f.label = none) :
    RegisterHeld t := by
  have hview : ∀ {j q}, t.slotRoll? j = some q → ∃ r, s.slotRoll? j = some r ∧ q.labelView = r.labelView := fun {j q} hq => by
    obtain ⟨g, hg, hgr⟩ := h j
    obtain ⟨r, hr, rfl⟩ := Option.map_eq_some_iff.1 (hg.symm.trans hq)
    exact ⟨r, hr, (hgr r hr).view⟩
  refine ⟨fun i j p q hp hq hid => ?_, fun j q hq => ?_, fun q f hf hl => ?_, fun q f hf hl g hg hopen => ?_, hbacks⟩
  · obtain ⟨p', hp', hpv⟩ := hview hp
    obtain ⟨q', hq', hqv⟩ := hview hq
    have hpid : p.id = p'.id := congrArg Prod.fst hpv
    have hqid : q.id = q'.id := congrArg Prod.fst hqv
    exact hs.ids i j p' q' hp' hq' (by rw [← hpid, ← hqid, hid])
  · obtain ⟨r, hr, hv⟩ := hview hq
    have hframes : (q.frames.map fun f => (f.number, f.label)) = r.frames.map fun f => (f.number, f.label) :=
      congrArg (fun v => v.2.2) hv
    have hnumbers := congrArg (List.map Prod.fst) hframes
    rw [List.map_map, List.map_map] at hnumbers
    exact hnumbers ▸ hs.numbers j r hr
  · obtain ⟨r, e, he, hkey, hel, -, hsel, -⟩ := h.origin hf hl
    rw [← hkey, ← hsel, hrecords]
    exact hs.kept r e he (hel ▸ hl)
  · obtain ⟨r, e, he, -, hel, hgroup, -, hrq⟩ := h.origin hf hl
    obtain ⟨k, hk, hkopen, hfirst⟩ := hrq.groups g hg hopen
    rw [← hgroup, ← hfirst]
    exact hs.settled r e he (hel ▸ hl) k hk hkopen

/-- Groups settled on the rolls of the register keep the label unit sound. -/
theorem LabelsReady.regrouped {s t : State} (hs : LabelsReady s) (h : SlotsRegrouped s t) (hlabels : t.labels = s.labels)
    (hbacks : ∀ b r, (t.back b).roll = some r → ∀ f ∈ r.frames, f.label = none) : LabelsReady t := by
  have hsame := h.sameLabels
  refine ⟨⟨⟨hs.toRegisterHeld.regrouped h (by rw [hlabels]) hbacks, ?_, fun k => ?_, ?_⟩, fun hw => ?_⟩, ?_⟩ <;> rw [hlabels]
  · exact hs.nodup
  · rw [hsame.mem_labelsWith]
    exact hs.queued k
  · rw [hsame.labelBefore]
    exact hs.ordered
  · obtain ⟨w, hmem⟩ := List.exists_mem_of_ne_nil _ hw
    exact hs.full (List.ne_nil_of_mem (hsame.mem_labelsWith.1 hmem))
  · exact hs.line

/-- The rolls of the register and the label unit are as they were, and the rolls of the backs without labels. -/
theorem LabelsReady.of_register {s t : State} (hs : LabelsReady s) (hregister : t.register = s.register) (hlabels : t.labels = s.labels)
    (hbacks : ∀ b r, (t.back b).roll = some r → ∀ f ∈ r.frames, f.label = none) : LabelsReady t :=
  hs.regrouped (.of_register hregister) hlabels hbacks

/-- An UNSELECTED group of a register roll has no label. -/
theorem RegisterHeld.unlabelledGroup {s : State} (hs : RegisterHeld s) {j : Nat} {r : Roll} (hr : s.slotRoll? j = some r) {g : Group}
    (hg : g ∈ r.groups) (hopen : g.outcome = .unselected) : r.UnlabelledGroup g.first := fun f hf hgroup => by
  by_contra hl
  exact hs.settled r f (onShelf_of_slot hr hf) hl g hg hopen hgroup

/-! ## A roll that enters the register or leaves it -/

/-- A register that has the WAITING and QUEUED labels of another, on the same rolls. -/
theorem LabelsReady.of_shelf {s t : State} (hs : LabelsReady s) (ht : RegisterHeld t)
    (hshelf : ∀ r f, f.label = some .queued ∨ f.label = some .waiting → (OnShelf t r f ↔ OnShelf s r f))
    (hlabels : t.labels = { s.labels with records := t.labels.records }) : LabelsReady t := by
  have hwith : ∀ st, st = .queued ∨ st = .waiting → ∀ w, w ∈ labelsWith st t ↔ w ∈ labelsWith st s := fun st hst w => by
    simp only [mem_labelsWith_iff]
    refine exists_congr fun r => exists_congr fun f => ?_
    refine and_congr_left fun ⟨hl, _⟩ => hshelf r f ?_
    rw [hl]
    exact hst.imp (congrArg some) (congrArg some)
  have hqueue : t.labels.queue = s.labels.queue := by rw [hlabels]
  refine ⟨⟨⟨ht, ?_, fun k => ?_, ?_⟩, fun hw => ?_⟩, ?_⟩
  · rw [hqueue]
    exact hs.nodup
  · rw [hqueue, hwith _ (.inl rfl)]
    exact hs.queued k
  · rw [hqueue]
    refine pairwise_of_ranks (fun k hk => ?_) hs.ordered
    obtain ⟨r, f, hf, hl, rfl⟩ := mem_labelsWith_iff.1 ((hs.queued k).1 hk)
    rw [ht.labelRank ((hshelf r f (.inl hl)).2 hf), hs.labelRank hf]
  · obtain ⟨w, hmem⟩ := List.exists_mem_of_ne_nil _ hw
    rw [hqueue]
    exact hs.full (List.ne_nil_of_mem ((hwith _ (.inr rfl) w).1 hmem))
  · rw [hlabels]
    exact ⟨hs.line.queued, hs.line.idle, hs.line.sent⟩

/-- A roll of a back put into a free slot brings no label (R106, R107). -/
theorem LabelsReady.shelved {s : State} (hs : LabelsReady s) (hrolls : RollsHeld s) {b : BackId} {slot : Nat} (kind : UnloadKind) {r : Roll}
    (hr : (s.back b).roll = some r) (hfree : freeSlot? s = some slot) : LabelsReady (shelved slot kind r s) := by
  obtain ⟨hslot, hnone⟩ := slotRoll?_of_freeSlot? hfree
  have hat : ∀ j, (Machine.shelved slot kind r s).slotRoll? j
      = if j = slot then some (r.unloaded s.film.unloadSeq kind) else s.slotRoll? j := fun j =>
    (rollAt_shelved hslot kind r s (.slot j)).trans (by simp only [RollPlace.slot.injEq]; rfl)
  have hnew : ∀ j q, s.slotRoll? j = some q → q.id ≠ r.id := fun j q hq hid => by
    cases hrolls.distinct (.slot j) (.back b) q r hq hr hid
  have hshelf : ∀ q f, f.label ≠ none → (OnShelf (Machine.shelved slot kind r s) q f ↔ OnShelf s q f) := by
    rintro q f hl
    constructor
    · rintro ⟨⟨j, hq⟩, hf⟩
      rw [hat] at hq
      split at hq
      · obtain rfl := Option.some.inj hq
        exact absurd (hs.backs b r hr f hf) hl
      · exact ⟨⟨j, hq⟩, hf⟩
    · rintro ⟨⟨j, hq⟩, hf⟩
      refine ⟨⟨j, ?_⟩, hf⟩
      rw [hat, if_neg, hq]
      rintro rfl
      rw [hnone] at hq
      cases hq
  refine hs.of_shelf ⟨fun i j p q hp hq hid => ?_, fun j q hq => ?_, fun q f hf hl => ?_, fun q f hf hl => ?_, fun c q hq => ?_⟩
    (fun q f hl => hshelf q f (by rcases hl with hl | hl <;> rw [hl] <;> nofun)) rfl
  · rw [hat] at hp hq
    split at hp <;> split at hq
    · rename_i hi hj
      rw [hi, hj]
    · obtain rfl := Option.some.inj hp
      exact absurd hid.symm (hnew j q hq)
    · obtain rfl := Option.some.inj hq
      exact absurd hid (hnew i p hp)
    · exact hs.ids i j p q hp hq hid
  · rw [hat] at hq
    split at hq
    · obtain rfl := Option.some.inj hq
      obtain ⟨-, -, hsorted⟩ := hrolls.sound (.back b) r hr
      exact hsorted.imp fun hlt => hlt.ne
    · exact hs.numbers j q hq
  · exact hs.kept q f ((hshelf q f hl).1 hf) hl
  · exact hs.settled q f ((hshelf q f hl).1 hf) hl
  · rw [shelved_back] at hq
    exact hs.backs c q hq

/-- A roll without open labels is closed: its slot and its label records are freed (R140). -/
theorem LabelsReady.closeRoll {s : State} (hs : LabelsReady s) {k : Nat} (cause : CloseCause) {r : Roll} (hr : s.slotRoll? k = some r)
    (hopen : ∀ f ∈ r.frames, f.label ≠ some .queued ∧ f.label ≠ some .waiting) : LabelsReady (closeRoll k cause s) := by
  have hk := lt_of_slotRoll? hr
  rw [closeRoll_eq hr]
  generalize hu : queueNotice (rollClosedNotice k cause r) _ = u
  have hlabels : u.labels = { s.labels with records := s.labels.records.filter fun x => x.key.roll != r.id } := by rw [← hu]; rfl
  have hbacks : ∀ b, u.back b = s.back b := fun b => by rw [← hu]; cases b <;> rfl
  have hat : ∀ j, u.slotRoll? j = if j = k ∧ j < 8 then none else s.slotRoll? j := fun j => by
    rw [← hu]
    exact join_setIfInBounds s.register k j none
  have hshelf : ∀ q f, OnShelf u q f ↔ OnShelf s q f ∧ q.id ≠ r.id := by
    rintro q f
    constructor
    · rintro ⟨⟨j, hq⟩, hf⟩
      rw [hat] at hq
      split at hq
      · cases hq
      · rename_i hj
        refine ⟨⟨⟨j, hq⟩, hf⟩, fun hid => hj ?_⟩
        obtain rfl := hs.ids j k q r hq hr hid
        exact ⟨rfl, hk⟩
    · rintro ⟨⟨⟨j, hq⟩, hf⟩, hid⟩
      refine ⟨⟨j, ?_⟩, hf⟩
      rw [hat, if_neg, hq]
      rintro ⟨rfl, -⟩
      exact hid (congrArg Roll.id (Option.some.inj (hq.symm.trans hr)))
  have hslot : ∀ {j q}, u.slotRoll? j = some q → s.slotRoll? j = some q := fun {j q} hq => by
    rw [hat] at hq
    split at hq
    · cases hq
    · exact hq
  refine hs.of_shelf ⟨fun i j p q hp hq => hs.ids i j p q (hslot hp) (hslot hq), fun j q hq => hs.numbers j q (hslot hq),
    fun q f hf hl => ?_, fun q f hf => hs.settled q f ((hshelf q f).1 hf).1, fun b q hq => hs.backs b q (by rwa [hbacks] at hq)⟩
    (fun q f hl => ?_) (by rw [hlabels])
  · obtain ⟨hold, hid⟩ := (hshelf q f).1 hf
    obtain ⟨hkept, rec, hrec, hkey⟩ := hs.kept q f hold hl
    refine ⟨hkept, rec, ?_, hkey⟩
    rw [hlabels]
    refine List.mem_filter.2 ⟨hrec, ?_⟩
    rw [hkey]
    exact bne_iff_ne.2 hid
  · rw [hshelf, and_iff_left_iff_imp]
    rintro ⟨⟨j, hq⟩, hf⟩ hid
    obtain rfl := hs.ids j k q r hq hr hid
    obtain rfl := Option.some.inj (hq.symm.trans hr)
    exact hl.elim (hopen f hf).1 (hopen f hf).2

end Sys2Proof.Machine
end

section
/-! SUPPORT. The operations beside the label line leave the labels: `LabelCalm s t` says that `t` keeps the label unit sound, its line and
its queue; orders, postings, the feeder, the light head, the film, a cycle's plan, exposures, ends and abort, and the choice, each once
(R20, R90, R122 to R126, R139). -/

namespace Sys2Proof.Machine

/-! ## States that keep their labels -/

/-- A change beside the label line: the label unit stays sound, with its line and its queue. -/
structure LabelCalm (s t : State) : Prop where
  ready : LabelsReady s → LabelsReady t
  line : t.labels.line = s.labels.line
  queue : t.labels.queue = s.labels.queue

theorem LabelCalm.refl (s : State) : LabelCalm s s := ⟨id, rfl, rfl⟩

theorem LabelCalm.trans {a b c : State} (h : LabelCalm a b) (k : LabelCalm b c) : LabelCalm a c :=
  ⟨k.ready ∘ h.ready, k.line.trans h.line, k.queue.trans h.queue⟩

theorem LabelCalm.foldl {α : Type} {f : State → α → State} (h : ∀ s x, LabelCalm s (f s x)) (l : List α) (s : State) :
    LabelCalm s (l.foldl f s) := by
  induction l generalizing s with
  | nil => exact .refl s
  | cons x xs ih => exact (h s x).trans (ih _)

theorem LabelsHeld.calm {s t : State} (hs : LabelsHeld s) (h : LabelCalm s t) : LabelsHeld t :=
  ⟨h.ready hs.toLabelsReady, by rw [h.line, h.queue]; exact hs.nothing⟩

/-- The register, the label unit and the rolls of the backs are as they were. -/
theorem LabelCalm.of_same {s t : State} (hregister : t.register = s.register) (hlabels : t.labels = s.labels)
    (hbacks : ∀ b, (t.back b).roll = (s.back b).roll) : LabelCalm s t :=
  ⟨fun hs => hs.of_register hregister hlabels fun b r hr => hs.backs b r ((hbacks b).symm.trans hr), by rw [hlabels], by rw [hlabels]⟩

/-- The register, the label unit and the film are as they were. -/
theorem LabelCalm.of_film {s t : State} (hregister : t.register = s.register) (hlabels : t.labels = s.labels)
    (hfilm : t.film = s.film) : LabelCalm s t :=
  .of_same hregister hlabels fun b => congrArg Back.roll (back_of_film hfilm b)

theorem SameBut.labelCalm {s t : State} (h : SameBut s t) : LabelCalm s t := .of_film h.register (by rw [h]) h.film

theorem SameButTally.labelCalm {s t : State} (h : SameButTally s t) : LabelCalm s t := .of_film (by rw [h]) (by rw [h]) (by rw [h])

section

variable (s : State)

theorem labelCalm_notice (n : Notice) : LabelCalm s (queueNotice n s) := .of_film rfl rfl rfl
theorem labelCalm_onWork (f : WorkList → WorkList) : LabelCalm s (s.onWork f) := .of_film rfl rfl rfl
theorem labelCalm_onProfiles (f : ProfileTable → ProfileTable) : LabelCalm s (s.onProfiles f) := .of_film rfl rfl rfl
theorem labelCalm_onFeeder (f : Feeder → Feeder) : LabelCalm s (s.onFeeder f) := .of_film rfl rfl rfl
theorem labelCalm_onHead (f : Head → Head) : LabelCalm s (s.onHead f) := .of_film rfl rfl rfl
theorem labelCalm_onStand (f : Stand → Stand) : LabelCalm s (s.onStand f) := .of_film rfl rfl rfl
theorem labelCalm_onTally (f : Tally → Tally) : LabelCalm s (s.onTally f) := .of_film rfl rfl rfl
theorem labelCalm_onLink (f : Link → Link) : LabelCalm s (s.onLink f) := .of_film rfl rfl rfl

/-- The film changes but for its backs. -/
theorem labelCalm_turret {f : Film → Film} (h : (f s.film).backA = s.film.backA ∧ (f s.film).backB = s.film.backB) :
    LabelCalm s (s.onFilm f) :=
  .of_same rfl rfl fun b => congrArg Back.roll (by cases b; exacts [h.1, h.2])

/-- A back changes, and no frame of its roll has a label where none had. -/
theorem labelCalm_onBackOf (b : BackId) {f : Back → Back}
    (h : (∀ r, (s.back b).roll = some r → ∀ x ∈ r.frames, x.label = none) →
      ∀ r, (f (s.back b)).roll = some r → ∀ x ∈ r.frames, x.label = none) : LabelCalm s (s.onBack b f) := by
  refine ⟨fun hs => hs.of_register rfl rfl fun c r hr => ?_, rfl, rfl⟩
  by_cases hc : c = b
  · subst hc
    rw [onBack_same] at hr
    exact h (hs.backs c) r hr
  · rw [onBack_other _ _ _ _ hc] at hr
    exact hs.backs c r hr

/-- A back changes, and its roll does not. -/
theorem labelCalm_onBack (b : BackId) {f : Back → Back} (h : (f (s.back b)).roll = (s.back b).roll) : LabelCalm s (s.onBack b f) :=
  labelCalm_onBackOf s b fun hold r hr => hold r (h ▸ hr)

/-- The roll of a back changes, and its frames get no label. -/
theorem labelCalm_onBackRoll (b : BackId) {f : Roll → Roll}
    (h : ∀ r, (∀ x ∈ r.frames, x.label = none) → ∀ x ∈ (f r).frames, x.label = none) : LabelCalm s (s.onBackRoll b f) :=
  labelCalm_onBackOf s b fun hold r hr => by
    obtain ⟨p, hp, rfl⟩ := Option.map_eq_some_iff.1 hr
    exact h p (hold p hp)

end

/-! ## Rolls that get no label -/

/-- No frame of the roll has a label. -/
def Roll.LabelFree (r : Roll) : Prop := ∀ f ∈ r.frames, f.label = none

theorem onFramesOf_labelFree {first : Nat} {f : Frame → Frame} (hf : ∀ x, (f x).label = x.label) {r : Roll} (h : r.LabelFree) :
    (r.onFramesOf first f).LabelFree := fun x hx => by
  obtain ⟨y, hy, rfl⟩ := List.mem_map.1 hx
  split
  · exact (hf y).trans (h y hy)
  · exact h y hy

theorem discardGroup_labelFree (first : Nat) (outcome : GroupOutcome) {r : Roll} (h : r.LabelFree) :
    (r.discardGroup first outcome).LabelFree :=
  onFramesOf_labelFree (f := fun x => { x with selection := .discarded }) (r := r.onGroup first fun g => { g with outcome := outcome })
    (fun _ => rfl) h

theorem cancelOrder_labelFree (n : Nat) {r : Roll} (h : r.LabelFree) : (r.cancelOrder n).LabelFree := by
  unfold Roll.cancelOrder
  generalize List.filter _ _ = l
  induction l generalizing r with
  | nil => exact h
  | cons g gs ih => exact ih (discardGroup_labelFree g.first .discarded h)

theorem Roll.SameFrames.labelFree {r q : Roll} (hq : r.SameFrames q) (h : r.LabelFree) : q.LabelFree := fun x hx => by
  obtain ⟨-, g, hframes, hg⟩ := hq
  rw [hframes] at hx
  obtain ⟨y, hy, rfl⟩ := List.mem_map.1 hx
  obtain ⟨sel, cr, hsame⟩ := hg y
  rw [hsame]
  exact h y hy

theorem markCredited_label (f : Frame) : f.markCredited.label = f.label := by
  unfold Frame.markCredited
  split <;> rfl

theorem labelCalm_writeFrame (b : BackId) {f : Roll → Frame} (h : ∀ r, (f r).label = none) (s : State) :
    LabelCalm s (writeFrame b f s) := by
  refine labelCalm_onBackOf s b fun hold r hr => ?_
  obtain ⟨p, hp, rfl⟩ := Option.map_eq_some_iff.1 hr
  intro x hx
  rcases List.mem_append.1 hx with hx | hx
  · exact hold p hp x hx
  · rw [List.mem_singleton.1 hx]
    exact h p

/-! ## A closed roll, a cancelled order -/

/-- The close test of a roll frees a register slot whose labels are all done, or nothing (R138, R139). -/
theorem labelCalm_closeTest (k : Nat) (s : State) : LabelCalm s (closeTest k s) := by
  have hfixed := closeTest_fixed k s
  refine ⟨fun hs => ?_, congrArg (fun x : Fixed => x.labels.line) hfixed, congrArg (fun x : Fixed => x.labels.queue) hfixed⟩
  unfold closeTest
  split
  · exact hs
  · split
    · rename_i slot _ r hr
      split
      · rename_i hclosable
        have hdone := closable_iff.1 hclosable
        rw [not_or] at hdone
        refine hs.closeRoll .automatic hr fun f hf => ?_
        have hopen : ¬(f.label = some .waiting ∨ f.label = some .queued) := fun hl => hdone.2
          ⟨f, hf, (hs.kept r f (onShelf_of_slot hr hf) (by rcases hl with hl | hl <;> rw [hl] <;> nofun)).1, hl⟩
        exact ⟨hopen ∘ .inr, hopen ∘ .inl⟩
      · exact hs
    · exact hs

/-- The UNSELECTED groups of an order discarded on every roll (R20, R144). -/
theorem labelCalm_cancelled (n : Nat) (s : State) : LabelCalm s (mapRolls (fun r => r.cancelOrder n) s) := by
  refine ⟨fun hs => hs.regrouped (fun j => ?_) rfl fun b r hr => ?_, rfl, rfl⟩
  · exact ⟨fun r => r.cancelOrder n, (rollAt_slots _ _ (.slot j)).trans (if_pos rfl), fun r hr => cancelOrder_regrouped n fun g hg hopen =>
      hs.unlabelledGroup hr hg hopen⟩
  · have hback : ((mapRolls (fun r => r.cancelOrder n) s).back b).roll = (s.back b).roll.map fun r => r.cancelOrder n := by
      cases b <;> rfl
    obtain ⟨p, hp, rfl⟩ := Option.map_eq_some_iff.1 (hback.symm.trans hr)
    exact cancelOrder_labelFree n (hs.backs b p hp)

theorem labelCalm_cancelEffect (n : Nat) (s : State) : LabelCalm s (cancelEffect n s) := by
  have hout : SameBut (mapRolls (fun r => r.cancelOrder n) s)
      (queueNotice (.orderCancelled n) (freeOrder n (removeFromStack n (mapRolls (fun r => r.cancelOrder n) s)))) :=
    ((sameBut_removeFromStack _ _).trans (sameBut_onWork _ _)).trans (sameBut_queueNotice _ _)
  rw [cancelEffect_eq]
  exact ((labelCalm_cancelled n s).trans hout.labelCalm).trans (.foldl (fun s k => labelCalm_closeTest k s) _ _)

/-! ## Backs and the turret -/

theorem labelCalm_setBackState (b : BackId) (st : BackState) (s : State) : LabelCalm s (setBackState b st s) := by
  have hstate : LabelCalm s (s.onBack b fun k => { k with state := st }) := labelCalm_onBack s b rfl
  unfold setBackState
  simp only
  split
  · exact hstate
  · exact hstate.trans (labelCalm_notice _ _)

theorem labelCalm_makeFull (b : BackId) (s : State) : LabelCalm s (makeFull b s) := by
  unfold makeFull
  split
  · exact labelCalm_setBackState b _ s
  · exact .refl s

theorem labelCalm_startAdvance (b : BackId) (cause : AdvanceCause) (c : Bool) (s : State) : LabelCalm s (startAdvance b cause c s) :=
  labelCalm_onBack s b rfl

theorem labelCalm_askAdvance (b : BackId) (cause : AdvanceCause) (c : Bool) (s : State) : LabelCalm s (askAdvance b cause c s) := by
  unfold askAdvance
  split
  · exact labelCalm_startAdvance b cause c s
  · exact labelCalm_onBack s b rfl

theorem labelCalm_spentAdvance (b : BackId) (s : State) : LabelCalm s (spentAdvance b s) := by
  unfold spentAdvance
  split
  · exact labelCalm_startAdvance b _ _ s
  · exact labelCalm_onBack s b rfl

theorem labelCalm_startOwed (b : BackId) (s : State) : LabelCalm s (startOwed b s) := by
  unfold startOwed
  split
  · exact (labelCalm_startAdvance b _ _ s).trans (labelCalm_onBack _ b rfl)
  · exact .refl s

theorem labelCalm_beginSwap (b : BackId) (c : Bool) (s : State) : LabelCalm s (beginSwap b c s) := by
  unfold beginSwap
  split
  · exact .refl s
  · exact labelCalm_turret s ⟨rfl, rfl⟩

theorem labelCalm_askSwap (b : BackId) (c : Bool) (s : State) : LabelCalm s (askSwap b c s) := by
  unfold askSwap
  split
  · exact labelCalm_beginSwap b c s
  · exact labelCalm_turret s ⟨rfl, rfl⟩

/-! ## The stand, the light head and the feeder -/

theorem labelCalm_setStandMode (m : StandMode) (s : State) : LabelCalm s (setStandMode m s) := by
  have hmode : LabelCalm s (s.onStand fun t => { t with mode := m }) := labelCalm_onStand s _
  unfold setStandMode
  simp only
  split
  · exact hmode
  · exact hmode.trans (labelCalm_onHead _ _)

theorem labelCalm_setModeIf (m : Option StandMode) (s : State) : LabelCalm s (setModeIf m s) := by
  unfold setModeIf
  split
  · exact labelCalm_setStandMode _ s
  · exact .refl s

theorem labelCalm_askNd (target : Nat) (c : Bool) (s : State) : LabelCalm s (askNd target c s) := by
  unfold askNd
  split
  · exact labelCalm_onHead s _
  · exact labelCalm_onHead s _

theorem labelCalm_askStepNd (s : State) : LabelCalm s (askStepNd s) := by
  unfold askStepNd
  split
  · exact .refl s
  · split
    · exact .refl s
    · exact labelCalm_askNd _ _ s

theorem labelCalm_askReturn (p : Nat) (s : State) : LabelCalm s (askReturn p s) := by
  unfold askReturn
  split <;> exact labelCalm_onFeeder s _

theorem labelCalm_freePosition (c : Cycle) (s : State) : LabelCalm s (freePosition c s) := by
  unfold freePosition
  split
  · split
    · exact .refl s
    · exact labelCalm_onFeeder s _
  · exact labelCalm_onFeeder s _

/-! ## The cycle: its plan, its ends, its abort -/

theorem labelCalm_takePlan (c : Cycle) (d : Nat) (dense : Bool) (s : State) : LabelCalm s (takePlan c d dense s) := by
  unfold takePlan
  split
  · exact .refl s
  · have hopened : LabelCalm s (s.onBackRoll c.back fun r => r.openGroup (groupOf c r.next (computePlan (s.stock c.stock) c d dense).s)) :=
      labelCalm_onBackRoll s c.back fun _ h => h
    exact (hopened.trans (labelCalm_onStand _ _)).trans (labelCalm_askStepNd _)

theorem labelCalm_tryPlan (s : State) : LabelCalm s (tryPlan s) := by
  unfold tryPlan
  split
  · exact .refl s
  · split
    · split
      · exact labelCalm_takePlan _ _ _ s
      · split
        · exact (labelCalm_onHead s _).trans (labelCalm_onStand _ _)
        · exact .refl s
    · exact .refl s

theorem labelCalm_takeMarks (n : Nat) (s : State) : LabelCalm s (takeMarks n s) := by
  unfold takeMarks
  split
  · exact .refl s
  · split
    · exact labelCalm_cancelEffect _ s
    · split
      · exact ((sameBut_onOrder n _ s).trans (sameBut_holdWith n _ _)).labelCalm
      · split
        · exact (sameBut_returnFilling _ s).labelCalm
        · exact .refl s

theorem labelCalm_takeReport (c : Cycle) (complete : Bool) (s : State) : LabelCalm s (takeReport c complete s) := by
  unfold takeReport
  refine LabelCalm.trans ?_ (labelCalm_takeMarks _ _)
  split
  · exact (sameBut_onOrder _ _ s).labelCalm
  · exact .refl s

theorem labelCalm_standAfterCycle (s : State) : LabelCalm s (standAfterCycle s) := by
  unfold standAfterCycle
  split
  · exact (labelCalm_setStandMode _ s).trans (labelCalm_onHead _ _)
  · exact labelCalm_onHead s _
  · exact .refl s

theorem labelCalm_endCycle (s : State) : LabelCalm s (endCycle s) := by
  unfold endCycle
  split
  · exact .refl s
  · refine LabelCalm.trans ?_ (labelCalm_standAfterCycle _)
    refine LabelCalm.trans ?_ (labelCalm_takeReport _ _ _)
    refine LabelCalm.trans ?_ (labelCalm_freePosition _ _)
    exact (labelCalm_notice s _).trans (labelCalm_onStand _ _)

theorem labelCalm_tryEndAborted (s : State) : LabelCalm s (tryEndAborted s) := by
  unfold tryEndAborted
  split
  · exact .refl s
  · split
    · exact .refl s
    · exact labelCalm_endCycle s
    · split
      · exact .refl s
      · split
        · exact labelCalm_askReturn _ s
        · exact labelCalm_endCycle s

theorem labelCalm_tryEndNormal (s : State) : LabelCalm s (tryEndNormal s) := by
  unfold tryEndNormal
  split
  · exact .refl s
  · split
    · exact labelCalm_endCycle s
    · exact .refl s

theorem labelCalm_releaseOps (s : State) : LabelCalm s (releaseOps s) := by
  unfold releaseOps
  simp only
  refine LabelCalm.trans ?_ (labelCalm_onBack _ .backB rfl)
  refine LabelCalm.trans ?_ (labelCalm_onBack _ .backA rfl)
  refine LabelCalm.trans ?_ (labelCalm_turret _ ⟨rfl, rfl⟩)
  exact (labelCalm_onFeeder s _).trans (labelCalm_onHead _ _)

theorem labelCalm_spoilFrame (c : Cycle) (s : State) : LabelCalm s (spoilFrame c s) := by
  unfold spoilFrame
  split
  · split
    · exact labelCalm_onStand s _
    · exact ((labelCalm_onStand s _).trans (labelCalm_writeFrame c.back (fun _ => rfl) _)).trans (labelCalm_spentAdvance _ _)
  · exact .refl s

theorem labelCalm_settleGroup (c : Cycle) (s : State) : LabelCalm s (settleGroup c s) := by
  obtain ⟨f, hf, hsame⟩ := settleGroup_form c s
  exact (labelCalm_onBackRoll s c.back fun r => (hf r).labelFree).trans hsame.labelCalm

theorem labelCalm_abortCycle (cause : AbortCause) (mode : Option StandMode) (s : State) : LabelCalm s (abortCycle cause mode s) := by
  unfold abortCycle
  split
  · exact labelCalm_setModeIf _ s
  · split
    · exact labelCalm_setModeIf _ s
    · exact (((labelCalm_onStand s _).trans (labelCalm_releaseOps _)).trans (labelCalm_spoilFrame _ _)).trans
        ((labelCalm_settleGroup _ _).trans (labelCalm_setModeIf _ _))

theorem labelCalm_abort (cause : AbortCause) (mode : Option StandMode) (s : State) : LabelCalm s (abort cause mode s) :=
  (labelCalm_abortCycle cause mode s).trans (labelCalm_tryEndAborted _)

theorem labelCalm_haltReport (reason : HaltReason) (stale : Bool) (s : State) : LabelCalm s (haltReport reason stale s) := by
  unfold haltReport
  split
  · exact .refl s
  · split
    · exact labelCalm_abort _ _ s
    · exact labelCalm_abort _ _ s
    · exact .refl s
    · exact .refl s

theorem labelCalm_backFailed (b : BackId) (cause : AbortCause) (s : State) : LabelCalm s (backFailed b cause s) := by
  unfold backFailed
  split
  · exact .refl s
  · split
    · split
      · exact labelCalm_tryEndNormal s
      · exact labelCalm_abort _ _ s
    · exact .refl s

/-! ## Feeder operations -/

theorem labelCalm_feederFail (stale : Bool) (s : State) : LabelCalm s (feederFail stale s) :=
  ((labelCalm_onFeeder s _).trans (labelCalm_haltReport _ _ _)).trans (labelCalm_tryEndAborted _)

theorem labelCalm_startJob (job : FeederJob) (c : Bool) (s : State) : LabelCalm s (startJob job c s) := by
  unfold startJob
  split
  · split
    · exact labelCalm_onFeeder s _
    · exact labelCalm_feederFail _ s
  · exact labelCalm_onFeeder s _
  · exact labelCalm_onFeeder s _

theorem labelCalm_askJob (job : FeederJob) (c : Bool) (s : State) : LabelCalm s (askJob job c s) := by
  unfold askJob
  split
  · exact labelCalm_startJob _ _ s
  · exact labelCalm_onFeeder s _

theorem labelCalm_startWaitingJob (s : State) : LabelCalm s (startWaitingJob s) := by
  unfold startWaitingJob
  split
  · exact (labelCalm_onFeeder s _).trans (labelCalm_startJob _ _ _)
  · exact .refl s

/-! ## The choice and the end of an event -/

theorem labelCalm_makeCycle (c : Cycle) (s : State) : LabelCalm s (makeCycle c s) := .of_film rfl rfl rfl

theorem labelCalm_askTurretAndLamp (b : BackId) (s : State) : LabelCalm s (askTurretAndLamp b s) := by
  unfold askTurretAndLamp
  split
  · exact .refl s
  · split
    · exact .refl s
    · refine LabelCalm.trans ?_ (labelCalm_onHead _ _)
      split
      · exact .refl s
      · exact labelCalm_askSwap _ _ s

theorem labelCalm_startSlide (o : Order) (b : BackId) (s : State) : LabelCalm s (startSlide o b s) := by
  unfold startSlide
  split
  · exact .refl s
  · split
    · exact .refl s
    · exact ((labelCalm_makeCycle _ s).trans (labelCalm_askJob _ _ _)).trans (labelCalm_askTurretAndLamp _ _)

theorem labelCalm_choiceLoop (n : Nat) (s : State) : LabelCalm s (choiceLoop n s) := by
  induction n generalizing s with
  | zero => exact .refl s
  | succ n ih =>
    unfold choiceLoop
    have htested : LabelCalm s (pushCandidate (popDone s.work.stack.length s)) := (tested_playing s).2.labelCalm
    simp only
    split
    · exact htested
    · split
      · exact (htested.trans (sameBut_holdWith _ _ _).labelCalm).trans (ih _)
      · exact htested.trans (labelCalm_startSlide _ _ _)
      · exact (htested.trans (sameBut_setOrderState _ _ _ _).labelCalm).trans (labelCalm_startSlide _ _ _)
      · exact (htested.trans (labelCalm_makeFull _ _)).trans (ih _)
      · exact htested

theorem labelCalm_runChoice (s : State) : LabelCalm s (runChoice s) := by
  unfold runChoice
  split
  · exact labelCalm_choiceLoop _ s
  · exact .refl s

theorem labelCalm_eventEnd (asked : Bool) (before s : State) : LabelCalm s (eventEnd asked before s) := by
  unfold eventEnd
  refine LabelCalm.trans ?_ (standEnd_sameBut _ _).labelCalm
  split
  · exact labelCalm_runChoice s
  · exact .refl s

theorem labelCalm_printerEnd (before s : State) : LabelCalm s (printerEnd before s) := by
  unfold printerEnd
  split
  · exact labelCalm_notice s _
  · exact .refl s

/-! ## Events of the feeder, the light head, the film and the shutter -/

theorem labelCalm_homeSenseEvent (s : State) : LabelCalm s (homeSenseEvent s) := by
  unfold homeSenseEvent
  split
  · exact labelCalm_onFeeder s _
  · split
    · exact labelCalm_onFeeder s _
    · exact .refl s
  · exact .refl s

theorem labelCalm_feederTimeoutEvent (s : State) : LabelCalm s (feederTimeoutEvent s) := by
  unfold feederTimeoutEvent
  split
  · exact .refl s
  · exact labelCalm_feederFail _ s

theorem labelCalm_gateLoadedEvent (s : State) : LabelCalm s (gateLoadedEvent s) := by
  unfold gateLoadedEvent
  split
  · split
    · exact labelCalm_onFeeder s _
    · exact ((labelCalm_onFeeder s _).trans (labelCalm_tryPlan _)).trans (labelCalm_tryEndAborted _)
  · exact labelCalm_onFeeder s _

theorem labelCalm_gateClearedEvent (s : State) : LabelCalm s (gateClearedEvent s) := by
  unfold gateClearedEvent
  split
  · exact ((labelCalm_onFeeder s _).trans (labelCalm_tryEndNormal _)).trans (labelCalm_tryEndAborted _)
  · split
    · simp only
      split
      · exact ((labelCalm_onFeeder s _).trans (labelCalm_haltReport _ _ _)).trans (labelCalm_tryEndAborted _)
      · exact labelCalm_onFeeder s _
    · exact labelCalm_onFeeder s _

theorem labelCalm_trayOutEvent (s : State) : LabelCalm s (trayOutEvent s) := by
  unfold trayOutEvent
  simp only
  split
  · exact ((labelCalm_onFeeder s _).trans (labelCalm_haltReport _ _ _)).trans (labelCalm_tryEndAborted _)
  · exact labelCalm_onFeeder s _

theorem labelCalm_lampFail (s : State) : LabelCalm s (lampFail s) := (labelCalm_onHead s _).trans (labelCalm_haltReport _ _ _)

theorem labelCalm_lampFailureEvent (s : State) : LabelCalm s (lampFailureEvent s) := by
  unfold lampFailureEvent
  split
  · exact labelCalm_lampFail s
  · exact .refl s

theorem labelCalm_idleExpiryEvent (s : State) : LabelCalm s (idleExpiryEvent s) := by
  unfold idleExpiryEvent
  split
  · exact (labelCalm_onHead s _).trans (labelCalm_onHead _ _)
  · exact .refl s

theorem labelCalm_warmUpEvent (sense : Bool) (s : State) : LabelCalm s (warmUpEvent sense s) := by
  unfold warmUpEvent
  split
  · split
    · exact (labelCalm_onHead s _).trans (labelCalm_tryPlan _)
    · exact labelCalm_lampFail s
  · exact .refl s

theorem labelCalm_meterEvent (r : Nat → Readings) (s : State) : LabelCalm s (meterEvent r s) := by
  unfold meterEvent
  split
  · exact .refl s
  · simp only
    split
    · split
      · exact (labelCalm_onHead s _).trans (labelCalm_takePlan _ _ _ _)
      · exact labelCalm_onHead s _
    · exact (labelCalm_onHead s _).trans (labelCalm_tryPlan _)

theorem labelCalm_meterTimeoutEvent (s : State) : LabelCalm s (meterTimeoutEvent s) := by
  unfold meterTimeoutEvent
  split
  · exact .refl s
  · exact ((labelCalm_onHead s _).trans (labelCalm_haltReport _ _ _)).trans (labelCalm_tryPlan _)

theorem labelCalm_startWaitingNd (s : State) : LabelCalm s (startWaitingNd s) := by
  unfold startWaitingNd
  split
  · exact (labelCalm_onHead s _).trans (labelCalm_onHead _ _)
  · exact .refl s

theorem labelCalm_ndCompleteEvent (s : State) : LabelCalm s (ndCompleteEvent s) := by
  unfold ndCompleteEvent
  split
  · exact .refl s
  · exact labelCalm_onHead s _

theorem labelCalm_ndTimeoutEvent (s : State) : LabelCalm s (ndTimeoutEvent s) := by
  unfold ndTimeoutEvent
  split
  · exact .refl s
  · exact (labelCalm_onHead s _).trans (labelCalm_haltReport _ _ _)

theorem labelCalm_startWaitingAdvance (b : BackId) (s : State) : LabelCalm s (startWaitingAdvance b s) := by
  unfold startWaitingAdvance
  split
  · exact .refl s
  · split
    · exact labelCalm_startOwed b s
    · split
      · exact (labelCalm_onBack s b rfl).trans (labelCalm_startAdvance b _ _ _)
      · exact .refl s

theorem labelCalm_leaderStep (b : BackId) (s : State) : LabelCalm s (leaderStep b s) := by
  unfold leaderStep
  split
  · exact (labelCalm_onBack s b rfl).trans (labelCalm_startAdvance b _ _ _)
  · have hready : LabelCalm s (setBackState b .ready (s.onBack b fun k => { k with leaderLeft := 0 })) :=
      (labelCalm_onBack s b rfl).trans (labelCalm_setBackState b _ _)
    simp only
    split
    · exact hready.trans (sameBut_releaseWhere _ _).labelCalm
    · exact hready

theorem labelCalm_fullWhenUsed (b : BackId) (s : State) : LabelCalm s (fullWhenUsed b s) := by
  unfold fullWhenUsed
  split
  · split
    · exact labelCalm_setBackState b _ s
    · exact .refl s
  · exact .refl s

theorem labelCalm_stepAdvanced (s : State) : LabelCalm s (stepAdvanced s) := by
  unfold stepAdvanced
  split
  · exact .refl s
  · split
    · exact (labelCalm_onStand s _).trans (labelCalm_askStepNd _)
    · exact labelCalm_tryEndNormal s

theorem labelCalm_advanceCompleteEvent (b : BackId) (s : State) : LabelCalm s (advanceCompleteEvent b s) := by
  unfold advanceCompleteEvent
  split
  · exact .refl s
  · have hended : LabelCalm s (s.onBack b fun k => { k with advance := none, gateFrame := .fresh }) := labelCalm_onBack s b rfl
    simp only
    refine LabelCalm.trans ?_ (labelCalm_startOwed b _)
    split
    · refine LabelCalm.trans ?_ (labelCalm_stepAdvanced _)
      split
      · exact hended.trans (labelCalm_leaderStep b _)
      · exact hended.trans (labelCalm_fullWhenUsed b _)
      · exact hended
    · split
      · exact hended.trans (labelCalm_leaderStep b _)
      · exact hended.trans (labelCalm_fullWhenUsed b _)
      · exact hended

theorem labelCalm_advanceFails (b : BackId) (st : BackState) (cause : AbortCause) (s : State) :
    LabelCalm s (advanceFails b st cause s) := by
  have hended : LabelCalm s (s.onBack b fun k => { k with advance := none, owed := false, leaderLeft := 0 }) := labelCalm_onBack s b rfl
  unfold advanceFails
  simp only
  split
  · exact (hended.trans (labelCalm_setBackState b st _)).trans (labelCalm_backFailed b cause _)
  · exact hended

theorem labelCalm_advanceTimeoutEvent (b : BackId) (s : State) : LabelCalm s (advanceTimeoutEvent b s) := by
  unfold advanceTimeoutEvent
  split
  · exact labelCalm_advanceFails b _ _ s
  · exact .refl s

theorem labelCalm_filmEndEvent (b : BackId) (s : State) : LabelCalm s (filmEndEvent b s) := by
  unfold filmEndEvent
  split
  · exact (labelCalm_onBackRoll s b (by exact fun _ h => h)).trans (labelCalm_advanceFails b _ _ _)
  · exact .refl s

theorem labelCalm_startWaitingSwap (s : State) : LabelCalm s (startWaitingSwap s) := by
  unfold startWaitingSwap
  split
  · split
    · exact (labelCalm_turret s ⟨rfl, rfl⟩).trans (labelCalm_beginSwap _ _ _)
    · exact .refl s
  · exact .refl s

theorem labelCalm_swapCompleteEvent (s : State) : LabelCalm s (swapCompleteEvent s) := by
  unfold swapCompleteEvent
  split
  · exact .refl s
  · exact labelCalm_turret s ⟨rfl, rfl⟩

theorem labelCalm_swapTimeoutEvent (s : State) : LabelCalm s (swapTimeoutEvent s) := by
  unfold swapTimeoutEvent
  split
  · exact .refl s
  · exact (labelCalm_turret s ⟨rfl, rfl⟩).trans (labelCalm_haltReport _ _ _)

theorem labelCalm_rewindCompleteEvent (b : BackId) (s : State) : LabelCalm s (rewindCompleteEvent b s) := by
  unfold rewindCompleteEvent
  split
  · exact labelCalm_setBackState b _ s
  · exact .refl s

theorem labelCalm_rewindTimeoutEvent (b : BackId) (s : State) : LabelCalm s (rewindTimeoutEvent b s) := by
  unfold rewindTimeoutEvent
  split
  · exact labelCalm_setBackState b _ s
  · exact .refl s

theorem labelCalm_exposeStartEvent (s : State) : LabelCalm s (exposeStartEvent s) := by
  unfold exposeStartEvent
  split
  · exact .refl s
  · split
    · exact .refl s
    · split
      · exact labelCalm_onStand s _
      · exact .refl s

theorem labelCalm_exposeDone (c : Cycle) (p : PlanStep) (s : State) : LabelCalm s (exposeDone c p s) := by
  have hexposed := ((((sameButTally_post .frame c.account (some c.stock) (frameAmount s c.stock c.cls) s).labelCalm.trans
    (labelCalm_writeFrame c.back (f := stepFrame c p .exposure (some (frameAmount s c.stock c.cls)) (some c.account)) (fun _ => rfl)
      _)).trans
    (labelCalm_onBackRoll _ c.back (f := fun r => r.onGroup (c.groupFirst.getD 0) Group.oneMore) fun _ h => h)).trans
    (labelCalm_onStand _ fun t => { t with expose := none })).trans (labelCalm_askAdvance c.back .step true _)
  unfold exposeDone
  simp only
  split
  · exact hexposed.trans (labelCalm_onStand _ _)
  · exact (hexposed.trans (labelCalm_askReturn _ _)).trans (labelCalm_onStand _ _)

theorem labelCalm_shutterClosedEvent (s : State) : LabelCalm s (shutterClosedEvent s) := by
  unfold shutterClosedEvent
  split
  · exact .refl s
  · split
    · split
      · exact labelCalm_onStand s _
      · split
        · exact labelCalm_onStand s _
        · exact labelCalm_exposeDone _ _ s
    · exact labelCalm_haltReport _ _ s

theorem labelCalm_exposeTimeoutEvent (s : State) : LabelCalm s (exposeTimeoutEvent s) := by
  unfold exposeTimeoutEvent
  split
  · exact labelCalm_haltReport _ _ s
  · exact .refl s

end Sys2Proof.Machine
end

section
/-! SUPPORT. The label unit through the tokens and timeouts of the printer line, the requests on it, the entries of a selection report,
the settlement of a roll and the moves of rolls (R106, R107, R131 to R143, R154 to R165). -/

namespace Sys2Proof.Machine

/-! ## The end of an event -/

theorem LabelsReady.calm {s t : State} (hs : LabelsReady s) (h : LabelCalm s t) : LabelsReady t := h.ready hs

/-- A change of the label unit that leaves its records, its queue, its line and its head. -/
theorem labelCalm_onLabels (s : State) {change : LabelUnit → LabelUnit} (hrecords : (change s.labels).records = s.labels.records)
    (hqueue : (change s.labels).queue = s.labels.queue) (hline : (change s.labels).line = s.labels.line)
    (hhead : (change s.labels).head = s.labels.head) : LabelCalm s (s.onLabels change) := by
  refine ⟨fun hs => hs.toLabelsFull.onLine hrecords hqueue ⟨?_, ?_, ?_⟩, hline, hqueue⟩
  · rw [hhead, hqueue]
    exact hs.line.queued
  · rw [hline, hhead]
    exact hs.line.idle
  · rw [hline, hhead]
    exact hs.line.sent

/-- The end of an event of the label unit that no choice follows. -/
theorem LabelsReady.printEnd {s : State} (hs : LabelsReady s) (before : State) : LabelsHeld (printEnd before s) :=
  hs.sendIfIdle.calm (labelCalm_printerEnd before _)

/-- The end of an event of the label unit that a choice follows. -/
theorem LabelsReady.labelEventEnd {s : State} (hs : LabelsReady s) (before : State) : LabelsHeld (labelEventEnd before s) :=
  hs.sendIfIdle.calm ((labelCalm_eventEnd false before _).trans (labelCalm_printerEnd before _))

/-! ## A token of the printer line -/

/-- The head leaves the queue with another state. -/
theorem LabelsReady.dropHead {s : State} (hs : LabelsReady s) {k : LabelKey} (hhead : s.labels.head = some k) (token : Token)
    {st : LabelState} (hst : st ≠ .queued) : LabelsQueued (setLabelState k st (dropHead k token s)) := by
  obtain ⟨r, f, hk⟩ := hs.takesLabel ((hs.queued k).1 (hs.line.queued k hhead))
  exact hs.toLabelsQueued.leave hk hst rfl rfl

theorem sameButTally_postMount (k : LabelKey) (s : State) : SameButTally s (postMount k s) := by
  unfold postMount
  split
  · exact sameButTally_post _ _ _ _ s
  · exact .refl s

theorem SameButTally.labels {s t : State} (h : SameButTally s t) : t.labels = s.labels := by rw [h]

/-- Steps 1 to 4 of R156: the head PRINTED, its MOUNT posted, the run counted and the queue filled. -/
theorem LabelsReady.completeHead {s : State} (hs : LabelsReady s) {k : LabelKey} (hhead : s.labels.head = some k) :
    LabelsFull (completeHead k s) := by
  have hposted := sameButTally_postMount k (setLabelState k .printed (Machine.dropHead k .printed s))
  refine LabelsQueued.fillQueue (LabelsQueued.onLabels ?_ (List.Subset.refl _) rfl)
  have hdropped := hs.dropHead hhead .printed (st := .printed) nofun
  exact hdropped.of_same (by rw [hposted]) hposted.labels fun b => congrArg Back.roll (hposted.back b)

theorem fillQueue_line (s : State) : (fillQueue s).labels.head = s.labels.head ∧ (fillQueue s).labels.line = s.labels.line := by
  rw [fillQueue_labels]
  exact ⟨rfl, rfl⟩

theorem completeHead_line (k : LabelKey) (s : State) :
    (completeHead k s).labels.head = none ∧ (completeHead k s).labels.line = s.labels.line := by
  obtain ⟨hhead, hline⟩ := fillQueue_line
    ((postMount k (setLabelState k .printed (dropHead k .printed s))).onLabels fun u => { u with run := u.run.afterPrinted })
  rw [completeHead, hhead, hline, onLabels_labels, (sameButTally_postMount k _).labels, setLabelState_labels]
  exact ⟨rfl, rfl⟩

/-- The line goes on with no head, IDLE or PAUSED. -/
theorem LabelsFull.headless {s : State} (hs : LabelsFull s) (hhead : s.labels.head = none) {change : LabelUnit → LabelUnit}
    (hrecords : (change s.labels).records = s.labels.records) (hqueue : (change s.labels).queue = s.labels.queue)
    (hsame : (change s.labels).head = s.labels.head) (hline : (change s.labels).line = .idle ∨ (change s.labels).line = .paused) :
    LabelsReady (s.onLabels change) := by
  have hnone : (change s.labels).head = none := hsame.trans hhead
  refine hs.onLine hrecords hqueue ⟨fun k hk => ?_, fun _ => hnone, fun h => ?_⟩
  · rw [hnone] at hk
    cases hk
  · rcases hline with hline | hline <;> rw [hline] at h <;> simp at h

theorem LabelsFull.lineAfterHead {s : State} (hs : LabelsFull s) (hhead : s.labels.head = none) : LabelsReady (lineAfterHead s) := by
  by_cases h : s.labels.pausePending = true ∨ s.labels.run = .off
  · exact hs.headless hhead (by simp only [h, if_true]) (by simp only [h, if_true]) (by simp only [h, if_true])
      (.inr (by simp only [h, if_true]))
  · exact hs.headless hhead (by simp only [h, if_false]) (by simp only [h, if_false]) (by simp only [h, if_false])
      (.inl (by simp only [h, if_false]))

theorem LabelsFull.lineAfterLate {s : State} (hs : LabelsFull s) (hhead : s.labels.head = none)
    (hline : s.labels.line = .stopped .noToken ∨ s.labels.line = .paused) : LabelsReady (lineAfterLate s) := by
  rcases hline with h | h
  · refine hs.headless hhead (by simp only [h]) (by simp only [h]) (by simp only [h]) ?_
    simp only [h]
    split
    · exact .inr rfl
    · exact .inl rfl
  · exact hs.headless hhead (by simp only [h]) (by simp only [h]) (by simp only [h]) (.inr (by simp only [h]))

theorem printedEvent_held {s : State} (hs : LabelsHeld s) : LabelsHeld (printedEvent s) := by
  unfold printedEvent
  split
  · exact hs
  · rename_i k hhead
    have hfull := hs.completeHead hhead
    obtain ⟨hnone, hline⟩ := completeHead_line k s
    split
    · exact ((hfull.lineAfterHead hnone).calm (labelCalm_closeTest _ _)).printEnd s
    · split
      · rename_i hlate
        exact ((hfull.lineAfterLate hnone (by rw [hline]; exact hlate.2)).calm (labelCalm_closeTest _ _)).printEnd s
      · exact hs

theorem formatErrorEvent_held {s : State} (hs : LabelsHeld s) : LabelsHeld (formatErrorEvent s) := by
  unfold formatErrorEvent
  split
  · exact hs
  · rename_i k hhead
    split
    · have hfull := (hs.dropHead hhead .formatError (st := .failed) nofun).fillQueue
      have hnone : (fillQueue (setLabelState k .failed (dropHead k .formatError s))).labels.head = none := by
        rw [(fillQueue_line _).1, setLabelState_labels]
        rfl
      exact ((hfull.lineAfterHead hnone).calm (labelCalm_closeTest _ _)).printEnd s
    · exact hs

/-- An AWAITING line stops or is paused, its head held (R157, R159). -/
theorem LabelsReady.stopLine {s : State} (hs : LabelsReady s) (hline : s.labels.line = .awaiting) (reason : StopReason) :
    LabelsReady (stopLine reason s) := by
  have hhead := hs.line.sent (.inl hline)
  by_cases h : s.labels.pausePending = true
  · refine hs.toLabelsFull.onLine (by simp only [h, if_true]) (by simp only [h, if_true]) ?_
    simp only [h, if_true]
    exact ⟨hs.line.queued, nofun, fun _ => hhead⟩
  · refine hs.toLabelsFull.onLine (by simp only [h]; rfl) (by simp only [h]; rfl) ?_
    simp only [h]
    exact ⟨hs.line.queued, nofun, fun _ => hhead⟩

theorem stopTokenEvent_held {s : State} (hs : LabelsHeld s) (token : Token) (reason : StopReason) :
    LabelsHeld (stopTokenEvent token reason s) := by
  unfold stopTokenEvent
  split
  · rename_i hline
    have hended : LabelsReady (s.onLabels fun u => { u with waitOn := false, lastToken := some token }) :=
      hs.toLabelsReady.calm (labelCalm_onLabels s rfl rfl rfl rfl)
    exact (hended.stopLine hline reason).printEnd s
  · exact hs

theorem tokenTimeoutEvent_held {s : State} (hs : LabelsHeld s) : LabelsHeld (tokenTimeoutEvent s) := by
  unfold tokenTimeoutEvent
  split
  · rename_i h
    have hended : LabelsReady (s.onLabels fun u => { u with waitOn := false, timedOut := true }) :=
      hs.toLabelsReady.calm (labelCalm_onLabels s rfl rfl rfl rfl)
    exact (hended.stopLine h.1 .noToken).printEnd s
  · exact hs

theorem tokenEvent_held {s : State} (hs : LabelsHeld s) (token : Token) : LabelsHeld (tokenEvent token s) := by
  cases token with
  | printed => exact printedEvent_held hs
  | jammed => exact stopTokenEvent_held hs _ _
  | outOfLabels => exact stopTokenEvent_held hs _ _
  | formatError => exact formatErrorEvent_held hs

theorem printerByteEvent_held {s : State} (hs : LabelsHeld s) (x : Byte) : LabelsHeld (printerByteEvent x s) := by
  unfold printerByteEvent
  split
  · exact tokenEvent_held hs _
  · exact hs

theorem labelCalm_labelSentEvent (s : State) : LabelCalm s (labelSentEvent s) := by
  by_cases h : s.labels.out.isSome = true
  · exact labelCalm_onLabels s (by simp only [h, if_true]) (by simp only [h, if_true]) (by simp only [h, if_true])
      (by simp only [h, if_true])
  · exact labelCalm_onLabels s (by simp only [h]; rfl) (by simp only [h]; rfl) (by simp only [h]; rfl) (by simp only [h]; rfl)

/-! ## The requests on the label unit -/

/-- The line becomes IDLE, or the held head is sent anew. -/
theorem LabelsReady.resumeLine {s : State} (hs : LabelsReady s) : LabelsReady (resumeLine s) := by
  unfold Machine.resumeLine
  split
  · rename_i k hhead
    exact hs.toLabelsFull.transmit (hs.line.queued k hhead)
  · rename_i hhead
    exact hs.toLabelsFull.headless hhead rfl rfl rfl (.inl rfl)

theorem LabelsReady.printEffect {s : State} (hs : LabelsReady s) (count : Nat) : LabelsReady (printEffect count s) := by
  have hrun : LabelsReady (s.onLabels fun u => { u with run := runOf count, pausePending := false }) :=
    hs.calm (labelCalm_onLabels s rfl rfl rfl rfl)
  unfold Machine.printEffect
  simp only
  split
  · exact hrun.resumeLine
  · exact hrun

/-- A pause leaves the head where it is: PAUSED, or the pause kept for the token. -/
theorem LabelsReady.pauseEffect {s : State} (hs : LabelsReady s) : LabelsReady (pauseEffect s) := by
  have hpaused : LabelUnit.LineHeld { s.labels with line := .paused } :=
    ⟨hs.line.queued, nofun, fun h => by simp at h⟩
  cases h : s.labels.line with
  | idle => exact hs.toLabelsFull.onLine (by simp only [h]) (by simp only [h]) (by simp only [h]; exact hpaused)
  | awaiting =>
    exact hs.calm (labelCalm_onLabels s (by simp only [h]) (by simp only [h]) (by simp only [h]) (by simp only [h]))
  | paused => exact hs.calm (labelCalm_onLabels s (by simp only [h]) (by simp only [h]) (by simp only [h]) (by simp only [h]))
  | stopped reason => exact hs.toLabelsFull.onLine (by simp only [h]) (by simp only [h]) (by simp only [h]; exact hpaused)

/-- The label of a state is among the labels with it. -/
theorem mem_labelsWith_of_state {s : State} {k : LabelKey} {st : LabelState} (h : labelStateOf s k = some st) : k ∈ labelsWith st s := by
  obtain ⟨f, hfind, hst⟩ := Option.bind_eq_some_iff.1 h
  obtain ⟨r, hr, hfind⟩ := Option.bind_eq_some_iff.1 hfind
  obtain ⟨j, hslot, hr⟩ := Option.bind_eq_some_iff.1 hr
  obtain ⟨⟨q, hq, hid⟩, -⟩ := slotOf?_eq_some_iff.1 hslot
  obtain rfl := Option.some.inj (hq.symm.trans hr)
  have hnumber : f.number = k.frame := by simpa using List.find?_some hfind
  exact mem_labelsWith_iff.2 ⟨q, f, onShelf_of_slot hr (List.mem_of_find?_eq_some hfind), hst, by rw [Frame.labelKey, hid, hnumber]⟩

/-- A label has one state. -/
theorem RegisterHeld.state_unique {s : State} (hs : RegisterHeld s) {k : LabelKey} {x y : LabelState} (hx : k ∈ labelsWith x s)
    (hy : k ∈ labelsWith y s) : x = y := by
  obtain ⟨p, e, he, hex, hek⟩ := mem_labelsWith_iff.1 hx
  obtain ⟨q, f, hf, hfy, hfk⟩ := mem_labelsWith_iff.1 hy
  obtain ⟨-, rfl⟩ := hs.frame_unique he hf (hek.trans hfk.symm)
  exact Option.some.inj (hex.symm.trans hfy)

/-- A FAILED label waits again and the queue is filled (R151, R164). -/
theorem LabelsReady.relabelEffect {s : State} (hs : LabelsReady s) {roll frame : Nat} (h : relabelRefusal roll frame s = none) :
    LabelsReady (relabelEffect roll frame s) := by
  have hfailed : labelStateOf s { roll := roll, frame := frame } = some .failed := by
    simpa using firstFailing_none h (decide (labelStateOf s { roll := roll, frame := frame } = some .failed), .state) (by simp)
  have hmem := mem_labelsWith_of_state hfailed
  obtain ⟨r, f, hk⟩ := hs.takesLabel hmem
  refine (hs.toLabelsQueued.relabel hk (fun hqueued => ?_) (st := .waiting) nofun).filled ?_
  · cases hs.state_unique hmem hqueued
  · rw [setLabelState_labels]
    exact hs.line

/-! ## The entries of a selection report -/

/-- The roll of a slot with groups settled. -/
theorem LabelsReady.onSlot {s : State} (hs : LabelsReady s) {k : Nat} {f : Roll → Roll}
    (h : ∀ r, s.slotRoll? k = some r → Regrouped r (f r)) : LabelsReady (s.onSlot k f) :=
  hs.regrouped (slotsRegrouped_onSlot k h) rfl hs.backs

theorem frameOfStep?_some {r : Roll} {first : Nat} {j : Int} {f : Frame} (h : r.frameOfStep? first j = some f) :
    f ∈ r.frames ∧ f.group = first ∧ f.step = j ∧ f.kind = .exposure := by
  rw [frameOfStep?_eq] at h
  have hf := List.find?_some h
  simp only [Bool.and_eq_true, beq_iff_eq, decide_eq_true_eq] at hf
  exact ⟨List.mem_of_find?_eq_some h, hf⟩

/-- The frame of the step kept is KEPT in a group no longer UNSELECTED. -/
theorem keepStep_frame {r : Roll} {first : Nat} {j : Int} {f : Frame} (h : r.frameOfStep? first j = some f) :
    { f with selection := .kept } ∈ (r.keepStep first j).frames
      ∧ ∀ g ∈ (r.keepStep first j).groups, g.outcome = .unselected → f.group ≠ g.first := by
  obtain ⟨hf, hgroup, hstep, hkind⟩ := frameOfStep?_some h
  refine ⟨List.mem_map.2 ⟨f, hf, by simp [hgroup, hstep, hkind]⟩, fun g hg hopen => ?_⟩
  obtain ⟨p, -, rfl⟩ := List.mem_map.1 hg
  rw [hgroup]
  split at hopen
  · cases hopen
  · rename_i hother
    rw [if_neg hother]
    exact fun heq => hother (by rw [heq]; exact beq_self_eq_true _)

theorem LabelsReady.labelledState {s : State} (hs : LabelsReady s) {k : Nat} {r : Roll} {g : Group} (j : Int) (hr : s.slotRoll? k = some r)
    (hfree : r.UnlabelledGroup g.first) : LabelsReady (labelledState k r g j s) := by
  have hkept : LabelsReady (s.onSlot k fun r => r.keepStep g.first j) := hs.onSlot fun q hq => by
    obtain rfl := Option.some.inj (hr.symm.trans hq)
    exact keepStep_regrouped j hfree
  unfold Machine.labelledState
  split
  · rename_i o x f _ _ hfind
    obtain ⟨hf, hgroup, -⟩ := frameOfStep?_some hfind
    obtain ⟨hmem, hsettled⟩ := keepStep_frame hfind
    exact hkept.makeLabel (onShelf_of_slot (slotRoll?_onSlot _ hr) hmem) rfl rfl (hfree f hf hgroup) hsettled
  · exact hkept

theorem LabelsReady.applyEntry {s : State} (hs : LabelsReady s) (k : Nat) (e : SelectReq) : LabelsReady (applyEntry k e s).1 := by
  have hslide : ∀ (t : State) (g : Group) (f : ProfileTable → ProfileTable) (change : Slide → Slide), LabelsReady t →
      LabelsReady (takeOutcomeChange g.order (onSlide g.order g.slide change (t.onProfiles f))) := fun t g f change ht =>
    ht.calm ((labelCalm_onProfiles t f).trans ((sameBut_onOrder _ _ _).trans (sameBut_takeOutcomeChange _ _)).labelCalm)
  unfold Machine.applyEntry
  split
  · exact hs
  · rename_i r hr
    split
    · exact hs
    · rename_i g hg
      split
      · exact hs
      · split
        · exact hs
        · rename_i hopen
          have hfree : r.UnlabelledGroup g.first := hs.unlabelledGroup hr (List.mem_of_find?_eq_some hg) (not_not.1 hopen)
          have hdiscard : ∀ outcome, outcome ≠ .unselected → LabelsReady (s.onSlot k fun r => r.discardGroup g.first outcome) :=
            fun outcome houtcome => hs.onSlot fun q hq => by
              obtain rfl := Option.some.inj (hr.symm.trans hq)
              exact discardGroup_regrouped hfree houtcome
          split
          · split
            · exact hs
            · rw [applyKeep_eq]
              exact hslide _ g _ _ (hs.labelledState _ hr hfree)
          · exact hslide _ g _ _ (hdiscard .rejectUnder nofun)
          · exact hslide _ g _ _ (hdiscard .rejectOver nofun)
          · exact hslide _ g id _ (hdiscard .reject nofun)

theorem takeEntries_held {k : Nat} {es : List SelectReq} {s : State} (hs : LabelsHeld s) : LabelsHeld (takeEntries k es s).1 := by
  induction es generalizing s with
  | nil => exact hs
  | cons e es ih => exact ih ((hs.applyEntry k e).labelEventEnd s)

/-! ## CLOSE ROLL -/

/-- Groups settled on the register, the label unit and the film as they were. -/
structure RollSettled (s t : State) : Prop where
  slots : SlotsRegrouped s t
  labels : t.labels = s.labels
  film : t.film = s.film

theorem RollSettled.refl (s : State) : RollSettled s s := ⟨.of_register rfl, rfl, rfl⟩

theorem RollSettled.trans {a b c : State} (h : RollSettled a b) (k : RollSettled b c) : RollSettled a c :=
  ⟨h.slots.trans k.slots, k.labels.trans h.labels, k.film.trans h.film⟩

theorem SameButTally.rollSettled {s t : State} (h : SameButTally s t) : RollSettled s t :=
  ⟨.of_register (by rw [h]), h.labels, by rw [h]⟩

theorem LabelsReady.rollSettled {s t : State} (hs : LabelsReady s) (h : RollSettled s t) : LabelsReady t :=
  hs.regrouped h.slots h.labels fun b r hr => hs.backs b r (by rwa [back_of_film h.film] at hr)

theorem rollSettled_onSlot {s : State} (k : Nat) {f : Roll → Roll} (h : ∀ r, s.slotRoll? k = some r → Regrouped r (f r)) :
    RollSettled s (s.onSlot k f) := ⟨slotsRegrouped_onSlot k h, rfl, rfl⟩

/-- One group without labels settled, LOST or ABANDON. -/
theorem rollSettled_group {k : Nat} {g : Group} {s : State} (h : ∀ r, s.slotRoll? k = some r → r.UnlabelledGroup g.first) :
    RollSettled s (settleLost k g s) ∧ RollSettled s (settleAbandon k g s) := by
  have hslide : ∀ (t : State) (change : Slide → Slide), RollSettled t (takeOutcomeChange g.order (onSlide g.order g.slide change t)) :=
    fun t change => ((sameBut_onOrder _ _ _).trans (sameBut_takeOutcomeChange _ _)).tally.rollSettled
  constructor
  · unfold settleLost
    split
    · exact .refl s
    · rename_i r hr
      refine RollSettled.trans ?_ (hslide _ _)
      refine RollSettled.trans (rollSettled_onSlot k fun q hq => ?_) (sameButTally_creditFrames _ _ _).rollSettled
      have hdiscard := discardGroup_regrouped (h q hq) (outcome := .discarded) nofun
      exact hdiscard.trans (onFramesOf_regrouped (hdiscard.unlabelledGroup (h q hq)) fun f => ⟨markCredited_number f, markCredited_label f⟩)
  · exact (rollSettled_onSlot k fun q hq => discardGroup_regrouped (h q hq) (outcome := .reject) nofun).trans (hslide _ _)

/-- The groups of a roll settled one after another. -/
theorem rollSettled_groups (k : Nat) {step : State → Group → State}
    (hstep : ∀ s g, (∀ r, s.slotRoll? k = some r → r.UnlabelledGroup g.first) → RollSettled s (step s g)) (gs : List Group) (s : State)
    (h : ∀ g ∈ gs, ∀ r, s.slotRoll? k = some r → r.UnlabelledGroup g.first) : RollSettled s (gs.foldl step s) := by
  induction gs generalizing s with
  | nil => exact .refl s
  | cons g gs ih =>
    have hone := hstep s g (h g List.mem_cons_self)
    refine hone.trans (ih _ fun g' hg' q hq => ?_)
    obtain ⟨f, hf, hfr⟩ := hone.slots k
    obtain ⟨r, hr, rfl⟩ := Option.map_eq_some_iff.1 (hf.symm.trans hq)
    exact (hfr r hr).unlabelledGroup (h g' (List.mem_cons_of_mem _ hg') r hr)

theorem RegisterHeld.settleGroups {s : State} (hs : RegisterHeld s) (d k : Nat) : RollSettled s (settleGroups d k s) := by
  refine rollSettled_groups k (fun u g h => ?_) _ s fun g hg r hr => ?_
  · obtain ⟨hlost, habandon⟩ := rollSettled_group h
    split
    · exact hlost
    · exact habandon
  · rw [slotGroups, hr, Option.map_some, Option.getD_some] at hg
    obtain ⟨hmem, hopen⟩ := List.mem_filter.1 hg
    exact hs.unlabelledGroup hr hmem (of_decide_eq_true hopen)

/-- Of the live records the one with an id is that of the slot found by it. -/
theorem roll?_of_slotOf? {s : State} (hrolls : RollsHeld s) {roll k : Nat} {r : Roll} (hk : s.slotOf? roll = some k)
    (hr : s.slotRoll? k = some r) : s.roll? roll = some r := by
  obtain ⟨⟨p, hp, hid⟩, -⟩ := slotOf?_eq_some_iff.1 hk
  obtain rfl := Option.some.inj (hp.symm.trans hr)
  refine roll?_of_unique (mem_allRolls_of_slotRoll? hr) hid fun q hq hqid => ?_
  obtain ⟨x, hx⟩ := mem_allRolls_iff.1 hq
  obtain rfl := hrolls.distinct x (.slot k) q p hx hr (hqid.trans hid.symm)
  exact Option.some.inj (hx.symm.trans hr)

/-- CLOSE ROLL settles the groups of a roll without open labels and closes it (R141). -/
theorem closeRollEffect_held {s : State} (hs : LabelsHeld s) (hrolls : RollsHeld s) {roll d : Nat} (h : closeRollRefusal roll d s = none) :
    LabelsHeld (closeRollEffect roll d s) := by
  have hslot := firstFailing_none h ((s.slotOf? roll).isSome, .state) (by simp)
  have hpending := firstFailing_none h (!labelsPending s roll, .labelsPending) (by simp)
  obtain ⟨k, hk⟩ := Option.isSome_iff_exists.1 hslot
  obtain ⟨⟨r, hr, -⟩, -⟩ := slotOf?_eq_some_iff.1 hk
  have hclosing : closingSlot s roll = k := by rw [closingSlot, hk]; rfl
  have hdone : ∀ f ∈ r.frames, f.labelOpen = false := by
    simpa [labelsPending_eq (roll?_of_slotOf? hrolls hk hr)] using hpending
  have hsettled := hs.toRegisterHeld.settleGroups d k
  obtain ⟨change, hchange, hregrouped⟩ := hsettled.slots k
  rw [hr, Option.map_some] at hchange
  rw [closeRollEffect, hclosing]
  have hready := (hs.toLabelsReady.rollSettled hsettled).closeRoll (closeCause d) hchange fun f hf => ?_
  · refine ⟨hready, ?_⟩
    rw [closeRoll_eq hchange]
    change (settleGroups d k s).labels.line = _ → (settleGroups d k s).labels.queue = _
    rw [hsettled.labels]
    exact hs.nothing
  · by_contra hopen
    have hl : f.label = some .waiting ∨ f.label = some .queued := by tauto
    have hsome : f.label ≠ none := by rcases hl with hl | hl <;> rw [hl] <;> nofun
    obtain ⟨e, he, -, hel, -⟩ := (hregrouped r hr).frames f hf hsome
    have hkept := (hs.kept r e (onShelf_of_slot hr he) (hel ▸ hsome)).1
    rw [← hel] at hl
    have hlabelOpen := labelOpen_iff.2 ⟨hkept, hl⟩
    rw [hdone e he] at hlabelOpen
    cases hlabelOpen

/-! ## Loading and unloading a back -/

theorem labelCalm_loadEffect (b : BackId) (roll stock declared : Nat) (s : State) : LabelCalm s (loadEffect b roll stock declared s) := by
  have hput : LabelCalm s (putRoll b roll stock declared s) := by
    refine LabelCalm.trans (labelCalm_onBackOf s b fun _ r hr => ?_) (labelCalm_turret _ ⟨rfl, rfl⟩)
    obtain rfl := Option.some.inj hr
    exact List.forall_mem_nil _
  unfold loadEffect
  split
  · exact (hput.trans (labelCalm_setBackState b _ _)).trans (sameBut_releaseWhere _ _).labelCalm
  · exact (hput.trans (labelCalm_setBackState b _ _)).trans (labelCalm_askAdvance _ _ _ _)

theorem labelCalm_emptyBack (b : BackId) (s : State) : LabelCalm s (emptyBack b s) :=
  (labelCalm_onBackOf s b (f := fun k => { k with roll := none, gateFrame := .fresh, leaderLeft := 0 }) fun _ _ h => by cases h).trans
    (labelCalm_setBackState b _ _)

theorem moveToRegister_held {s : State} (hs : LabelsHeld s) (hrolls : RollsHeld s) (b : BackId) {slot : Nat}
    (hslot : freeSlot? s = some slot) (kind : UnloadKind) : LabelsHeld (moveToRegister b slot kind s) := by
  unfold moveToRegister
  split
  · exact hs.calm (labelCalm_emptyBack b s)
  · rename_i r hr
    have hshelved : LabelsHeld (shelved slot kind r s) := ⟨hs.toLabelsReady.shelved hrolls kind hr hslot, hs.nothing⟩
    exact hshelved.calm ((labelCalm_emptyBack b _).trans (labelCalm_closeTest _ _))

end Sys2Proof.Machine
end

section
/-! The label unit kept sound by every step (O60). -/

namespace Sys2Proof.Machine

/-! ## The answer to any request -/

/-- The label unit and the roll records are sound together. -/
structure LabelsSafe (s : State) : Prop extends LabelsHeld s where
  rolls : RollsHeld s

theorem LabelsHeld.eventEnd {s t : State} (hs : LabelsHeld s) (h : LabelCalm s t) (asked : Bool) (before : State) :
    LabelsHeld (eventEnd asked before t) := hs.calm (h.trans (labelCalm_eventEnd asked before t))

/-- An answer whose event ends with the choice. -/
theorem answer_eventEnd_held {kind : Nat} {refusal : Option Code} {s : State} {tr : Bool} {fields : List Field} {asked : Bool}
    {after : State} (hs : LabelsHeld s) (h : refusal = none → LabelsHeld after) :
    LabelsHeld (answer kind refusal s tr fields (eventEnd asked s after)).1 :=
  answer_keeps hs fun hr => (h hr).calm (labelCalm_eventEnd asked s after)

/-- A request that carries fields and changes nothing. -/
theorem answer_read_held {kind : Nat} {refusal : Option Code} {s : State} {tr : Bool} {fields : List Field} (hs : LabelsHeld s) :
    LabelsHeld (answer kind refusal s tr fields s).1 := answer_keeps hs fun _ => hs

theorem answerUnload_held {code back : Nat} {b : BackId} {kind : UnloadKind} {refusal : Option Code} {s : State}
    (hs : LabelsSafe s) : LabelsHeld (answerUnload code back b kind refusal s).1 := by
  unfold answerUnload
  split
  · exact answer_read_held hs.toLabelsHeld
  · exact answer_read_held hs.toLabelsHeld
  · rename_i slot hslot
    exact answer_eventEnd_held hs.toLabelsHeld fun _ => moveToRegister_held hs.toLabelsHeld hs.rolls b hslot kind

theorem labelCalm_amendEffect (q : AmendReq) (s : State) : LabelCalm s (amendEffect q s) := by
  have hamended := sameBut_onOrder q.number (amended q) s
  unfold amendEffect
  simp only
  split
  · exact (hamended.trans (sameBut_releaseOne _ _)).labelCalm
  · exact hamended.labelCalm

theorem labelCalm_cancelRequestEffect (n : Nat) (s : State) : LabelCalm s (cancelRequestEffect n s) := by
  unfold cancelRequestEffect
  split
  · exact (sameBut_onOrder n _ s).labelCalm
  · exact labelCalm_cancelEffect n s

theorem labelCalm_holdRequestEffect (n : Nat) (s : State) : LabelCalm s (holdRequestEffect n s) := by
  unfold holdRequestEffect
  split
  · exact (sameBut_onOrder n _ s).labelCalm
  · exact (sameBut_holdWith n _ s).labelCalm

theorem labelCalm_releaseRequestEffect (n : Nat) (s : State) : LabelCalm s (releaseRequestEffect n s) := by
  unfold releaseRequestEffect
  split
  · exact (sameBut_releaseOne n s).labelCalm
  · exact (sameBut_onOrder n _ s).labelCalm

theorem labelCalm_mapEntries (es : List TrayReq) (s : State) : LabelCalm s (mapEntries es s).1 := by
  induction es generalizing s with
  | nil => exact .refl s
  | cons e es ih =>
    refine LabelCalm.trans ?_ (ih (mapEntry e s))
    unfold mapEntry
    split
    · exact labelCalm_onFeeder s _
    · exact .refl s

theorem labelCalm_setCounterEffect (q : CounterReq) (s : State) : LabelCalm s (setCounterEffect q s) := by
  unfold setCounterEffect
  simp only
  split
  · exact (labelCalm_onTally s _).trans (sameBut_releaseWhere _ _).labelCalm
  · exact labelCalm_onTally s _

theorem labelCalm_startEffect (s : State) : LabelCalm s (startEffect s) := by
  have hhome : LabelCalm s (startHome (setStandMode .running s)) := by
    refine (labelCalm_setStandMode .running s).trans ?_
    unfold startHome
    split
    · exact labelCalm_askJob _ _ _
    · exact .refl _
  have hswap : ∀ s, LabelCalm s (startSwap s) := fun s => by
    unfold startSwap
    split
    · exact labelCalm_askSwap _ _ s
    · exact .refl s
  have hnd : ∀ s, LabelCalm s (startNd s) := fun s => by
    unfold startNd
    split
    · exact labelCalm_askNd _ _ s
    · exact .refl s
  exact hhome.trans (((hswap _).trans (hnd _)).trans (.of_film rfl rfl rfl))

theorem labelCalm_stopEffect (s : State) : LabelCalm s (stopEffect s) := by
  unfold stopEffect
  split
  · split
    · exact labelCalm_setStandMode _ s
    · exact (labelCalm_setStandMode _ s).trans (labelCalm_onHead _ _)
  · exact .refl s
  · exact labelCalm_onHead s _
  · exact .refl s

theorem labelCalm_resetEffect (s : State) : LabelCalm s (resetEffect s) := by
  have hcycle : ∀ s, LabelCalm s (resetCycle s) := fun s => by
    unfold resetCycle
    split
    · exact .refl s
    · split
      · exact (labelCalm_setStandMode _ s).trans (labelCalm_endCycle _)
      · exact labelCalm_abort _ _ s
  have hops : ∀ s, LabelCalm s (resetOps s) := fun s =>
    ((labelCalm_onFeeder s _).trans (labelCalm_onHead _ _)).trans (labelCalm_turret _ ⟨rfl, rfl⟩)
  have hstand : ∀ s, LabelCalm s (resetStand s) := fun s => (labelCalm_setStandMode _ s).trans (labelCalm_onHead _ _)
  exact ((((labelCalm_onFeeder s _).trans (hcycle _)).trans (hops _)).trans (sameBut_emptyStack _).labelCalm).trans (hstand _)

theorem answerRequest_held (r : Request) (s : State) (hsafe : LabelsSafe s) : LabelsHeld (answerRequest r s).1 := by
  have hs := hsafe.toLabelsHeld
  cases r with
  | placeOrder q => exact answer_eventEnd_held hs fun _ => hs.calm (.of_film rfl rfl rfl)
  | amendOrder q => exact answer_eventEnd_held hs fun _ => hs.calm (labelCalm_amendEffect q s)
  | cancelOrder n => exact answer_eventEnd_held hs fun _ => hs.calm (labelCalm_cancelRequestEffect n s)
  | holdOrder n => exact answer_eventEnd_held hs fun _ => hs.calm (labelCalm_holdRequestEffect n s)
  | releaseOrder n => exact answer_eventEnd_held hs fun _ => hs.calm (labelCalm_releaseRequestEffect n s)
  | setFloor v => exact answer_eventEnd_held hs fun _ => hs.calm (labelCalm_onWork s _)
  | readOrder n i =>
    simp only [answerRequest, answerReadOrder]
    split
    · exact answer_read_held hs
    · split <;> exact answer_read_held hs
  | setStock q => exact answer_keeps hs fun _ => hs.calm (.of_film rfl rfl rfl)
  | readStock => exact answer_read_held hs
  | setProfile c m p f =>
    simp only [answerRequest, answerSetProfile]
    split
    · exact answer_read_held hs
    · exact answer_keeps hs fun _ => hs.calm (labelCalm_onProfiles s _)
    · exact answer_read_held hs
  | setRange k b e p => exact answer_keeps hs fun _ => hs.calm (labelCalm_onProfiles s _)
  | dropProfile t k => exact answer_keeps hs fun _ => hs.calm (labelCalm_onProfiles s _)
  | setPlacement k => exact answer_keeps hs fun _ => hs.calm (labelCalm_onProfiles s _)
  | readProfileTable t k => exact answer_read_held hs
  | readProfileLookup c => exact answer_read_held hs
  | mapTray es =>
    exact answer_eventEnd_held hs fun _ => hs.calm ((labelCalm_mapEntries es s).trans (sameBut_releaseWhere _ _).labelCalm)
  | readTray f => exact answer_read_held hs
  | readHead => exact answer_keeps hs fun _ => hs.calm (.of_film rfl rfl rfl)
  | loadRoll b r k f => exact onNamedBack_keeps hs fun b => answer_eventEnd_held hs fun _ => hs.calm (labelCalm_loadEffect b r k f s)
  | rewindBack b => exact onNamedBack_keeps hs fun b => answer_eventEnd_held hs fun _ => hs.calm (labelCalm_setBackState b _ s)
  | unloadBack b => exact onNamedBack_keeps hs fun b => answerUnload_held hsafe
  | clearBack b => exact onNamedBack_keeps hs fun b => answerUnload_held hsafe
  | readBack => exact answer_read_held hs
  | startStand => exact answer_eventEnd_held hs fun _ => hs.calm (labelCalm_startEffect s)
  | stopStand => exact answer_eventEnd_held hs fun _ => hs.calm (labelCalm_stopEffect s)
  | abortSlide => exact answer_eventEnd_held hs fun _ => hs.calm (labelCalm_abort _ _ s)
  | resetStand => exact answer_eventEnd_held hs fun _ => hs.calm (labelCalm_resetEffect s)
  | setStand q => exact answer_eventEnd_held hs fun _ => hs.calm (labelCalm_onStand s _)
  | readStand => exact answer_read_held hs
  | reportSelections r es => exact answer_keeps hs fun _ => (takeEntries_held hs).calm (labelCalm_closeTest _ _)
  | closeRoll r d => exact answer_eventEnd_held hs fun h => closeRollEffect_held hs hsafe.rolls h
  | readRoll r i =>
    simp only [answerRequest, answerReadRoll]
    split
    · exact answer_read_held hs
    · split
      · exact answer_read_held hs
      · split <;> exact answer_read_held hs
  | readFrames r i =>
    simp only [answerRequest, answerReadFrames]
    split
    · exact answer_read_held hs
    · split <;> exact answer_read_held hs
  | printLabels c => exact answer_keeps hs fun _ => (hs.printEffect c).printEnd s
  | pausePrinter => exact answer_keeps hs fun _ => hs.pauseEffect.printEnd s
  | resumePrinter => exact answer_keeps hs fun _ => hs.resumeLine.printEnd s
  | relabel r f => exact answer_keeps hs fun h => (hs.relabelEffect h).printEnd s
  | setDate d => exact answer_keeps hs fun _ => hs.calm (labelCalm_onLabels s rfl rfl rfl rfl)
  | readLabelsLine i => exact answer_read_held hs
  | readLabelsRecord r f =>
    simp only [answerRequest, answerReadLabelsRecord]
    split
    · exact answer_read_held hs
    · split <;> exact answer_read_held hs
  | setRates m t c =>
    exact answer_eventEnd_held hs fun _ => hs.calm ((labelCalm_onTally s _).trans (sameBut_releaseWhere _ _).labelCalm)
  | setCounter q => exact answer_eventEnd_held hs fun _ => hs.calm (labelCalm_setCounterEffect q s)
  | lockCounter k => exact answer_keeps hs fun _ => hs.calm (labelCalm_onTally s _)
  | adjustAccount a v => exact answer_eventEnd_held hs fun _ => hs.calm (sameButTally_post _ _ _ _ s).labelCalm
  | closePeriod =>
    exact answer_eventEnd_held hs fun _ => hs.calm ((labelCalm_onTally s _).trans (sameBut_releaseWhere _ _).labelCalm)
  | readCounters k => exact answer_read_held hs

theorem answerRequest_labelsSafe (r : Request) (s : State) (hs : LabelsSafe s) : LabelsSafe (answerRequest r s).1 :=
  ⟨answerRequest_held r s hs, (answerRequest_steps r s).keeps Move.rollsHeld (fun o _ => OwnMove.rollsHeld o) hs.rolls⟩

/-! ## Every command -/

theorem powerOnEvent_held (strap1 strap0 tray gate : Bool) (s : State) : LabelsHeld (powerOnEvent strap1 strap0 tray gate s) :=
  labelsHeld_of reset_rollsSound reset_labelsSound

/-- Every command keeps the label unit sound. -/
theorem exec_labelsHeld {c : Instr} {s t : State} (hsafe : LabelsSafe s) (h : exec c s = .next t) : LabelsHeld t := by
  have hs := hsafe.toLabelsHeld
  have hlink : ∀ (s : State) f, LabelsSafe s → LabelsSafe (s.onLink f) := fun s f hs =>
    ⟨hs.toLabelsHeld.calm (labelCalm_onLink s f), hs.rolls.of_backs (fun c => by cases c <;> rfl) rfl⟩
  have hreq := answerRequest_labelsSafe
  cases hr : c.request with
  | some r =>
    rw [exec_of_request hr] at h
    cases h
    exact (arrive_keeps hlink hreq hsafe).toLabelsHeld
  | none =>
    cases c with
    | powerOn _ _ _ _ => cases h; exact powerOnEvent_held _ _ _ _ s
    | frameEnd _ _ _ => cases h; exact (frameEnds_keeps hlink hsafe (testFrame_keeps hlink hreq hsafe)).toLabelsHeld
    | badLengthByte => cases h; exact (frameEnds_keeps hlink hsafe (rejectFrame_keeps hlink hsafe)).toLabelsHeld
    | gapTimeout _ => cases h; exact (frameEnds_keeps hlink hsafe (rejectFrame_keeps hlink hsafe)).toLabelsHeld
    | heldRequestTaken => cases h; exact (heldTakenEvent_keeps hlink hreq hsafe).toLabelsHeld
    | overrunFrameEnd => cases h; exact (overrunEndEvent_keeps hlink hsafe).toLabelsHeld
    | linkBreak => cases h; exact (hlink _ _ hsafe).toLabelsHeld
    | lineFreeSend => cases h; exact (sendNext_keeps hlink (finishSending_keeps hlink hreq hsafe)).toLabelsHeld
    | syncReceived => cases h; exact (hlink _ _ hsafe).toLabelsHeld
    | feederOpStart => cases h; exact hs.eventEnd (labelCalm_startWaitingJob s) _ _
    | feedHomeDone => cases h; exact hs.calm (labelCalm_homeSenseEvent s)
    | homeComplete => cases h; exact hs.calm (labelCalm_homeSenseEvent s)
    | feedComplete => cases h; exact hs.eventEnd (labelCalm_gateLoadedEvent s) _ _
    | returnComplete => cases h; exact hs.eventEnd (labelCalm_gateClearedEvent s) _ _
    | feederTimeout => cases h; exact hs.eventEnd (labelCalm_feederTimeoutEvent s) _ _
    | trayOut => cases h; exact hs.eventEnd (labelCalm_trayOutEvent s) _ _
    | trayIn => cases h; exact hs.eventEnd (labelCalm_onFeeder s _) _ _
    | gateLoaded => cases h; exact hs.eventEnd (labelCalm_gateLoadedEvent s) _ _
    | gateCleared => cases h; exact hs.eventEnd (labelCalm_gateClearedEvent s) _ _
    | warmUpEnd _ => cases h; exact hs.eventEnd (labelCalm_warmUpEvent _ s) _ _
    | lampFailure => cases h; exact hs.eventEnd (labelCalm_lampFailureEvent s) _ _
    | idleTimerExpiry => cases h; exact hs.eventEnd (labelCalm_idleExpiryEvent s) _ _
    | meterComplete _ _ _ _ _ => cases h; exact hs.calm (labelCalm_meterEvent _ s)
    | meterTimeout => cases h; exact hs.eventEnd (labelCalm_meterTimeoutEvent s) _ _
    | ndSetStart => cases h; exact hs.calm (labelCalm_startWaitingNd s)
    | ndSetComplete => cases h; exact hs.calm (labelCalm_ndCompleteEvent s)
    | ndTimeout => cases h; exact hs.eventEnd (labelCalm_ndTimeoutEvent s) _ _
    | advanceStart _ => cases h; exact hs.calm (labelCalm_startWaitingAdvance _ s)
    | advanceComplete _ => cases h; exact hs.eventEnd (labelCalm_advanceCompleteEvent _ s) _ _
    | advanceTimeout _ => cases h; exact hs.eventEnd (labelCalm_advanceTimeoutEvent _ s) _ _
    | filmEnd _ => cases h; exact hs.eventEnd (labelCalm_filmEndEvent _ s) _ _
    | swapStart => cases h; exact hs.calm (labelCalm_startWaitingSwap s)
    | swapComplete => cases h; exact hs.calm (labelCalm_swapCompleteEvent s)
    | swapTimeout => cases h; exact hs.eventEnd (labelCalm_swapTimeoutEvent s) _ _
    | rewindComplete _ => cases h; exact hs.calm (labelCalm_rewindCompleteEvent _ s)
    | rewindTimeout _ => cases h; exact hs.calm (labelCalm_rewindTimeoutEvent _ s)
    | exposeStart => cases h; exact hs.calm (labelCalm_exposeStartEvent s)
    | shutterTicksEnd => cases h; exact hs.calm (labelCalm_onStand s _)
    | exposeComplete => cases h; exact hs.eventEnd (labelCalm_shutterClosedEvent s) _ _
    | exposeTimeout => cases h; exact hs.eventEnd (labelCalm_exposeTimeoutEvent s) _ _
    | shutterEarlyClose => cases h; exact hs.eventEnd (labelCalm_shutterClosedEvent s) _ _
    | printedToken => cases h; exact printerByteEvent_held hs _
    | jammedToken => cases h; exact printerByteEvent_held hs _
    | outOfLabelsToken => cases h; exact printerByteEvent_held hs _
    | formatErrorToken => cases h; exact printerByteEvent_held hs _
    | tokenTimeout => cases h; exact tokenTimeoutEvent_held hs
    | unknownPrinterByte _ => cases h; exact printerByteEvent_held hs _
    | labelFrameSent => cases h; exact hs.calm (labelCalm_labelSentEvent s)
    | _ => cases hr

/-- Settles O60: each command keeps the label unit sound, and the queue of commands is not read. -/
theorem labelQueueKept : Obligations.LabelQueueKept := by
  intro s t ⟨hrolls, hs⟩ h
  rcases step_cases h with rfl | ⟨c, rest, hexec⟩
  · exact hs
  · have hqueue : LabelsHeld (s.withPending rest) := (labelsHeld_of hrolls hs).calm (.of_film rfl rfl rfl)
    have hplaces : RollsHeld (s.withPending rest) := (rollsSound_iff.1 hrolls).of_backs (fun c => by cases c <;> rfl) rfl
    exact (exec_labelsHeld ⟨hqueue, hplaces⟩ hexec).labelsSound

end Sys2Proof.Machine
end

section
/-! SUPPORT. The requests of the printer line: the run and the line PRINT LABELS leaves, a pause by the line state, and the tests of
RESUME PRINTER and RELABEL (R155, R161 to R165). -/

namespace Sys2Proof.Machine

/-! ## The line resumed, paused, and given a run -/

theorem resumeLine_of_headless {s : State} (h : s.labels.head = none) :
    resumeLine s = s.onLabels fun u => { u with line := .idle } := by
  simp only [resumeLine, h]

theorem resumeLine_of_head {s : State} {k : LabelKey} (h : s.labels.head = some k) : resumeLine s = transmit k s := by
  simp only [resumeLine, h]

/-- The state with the run of a PRINT LABELS given and no pause pending (R161). -/
def runGiven (count : Nat) (s : State) : State := s.onLabels fun u => { u with run := runOf count, pausePending := false }

/-- PRINT LABELS gives the run; a PAUSED line is resumed with it (R161). -/
theorem printEffect_eq (count : Nat) (s : State) :
    printEffect count s = if s.labels.line = .paused then resumeLine (runGiven count s) else runGiven count s := rfl

theorem printEffect_of_headless {count : Nat} {s : State} (h : s.labels.line = .paused) (hhead : s.labels.head = none) :
    printEffect count s = (runGiven count s).onLabels fun u => { u with line := .idle } := by
  rw [printEffect_eq, if_pos h, resumeLine_of_headless]
  exact hhead

theorem printEffect_of_head {count : Nat} {s : State} {k : LabelKey} (h : s.labels.line = .paused) (hhead : s.labels.head = some k) :
    printEffect count s = transmit k (runGiven count s) := by
  rw [printEffect_eq, if_pos h, resumeLine_of_head]
  exact hhead

theorem printEffect_of_going {count : Nat} {s : State} (h : s.labels.line ≠ .paused) :
    printEffect count s = runGiven count s := if_neg h

/-- A pause by the line state: at once, at the token, or nothing on a PAUSED line (R162). -/
theorem pauseEffect_eq {line : LineState → LabelUnit → LabelUnit} (hset : ∀ l u, line l u = { u with line := l }) (s : State) :
    pauseEffect s = { s with labels :=
      match s.labels.line with
      | .idle => line .paused s.labels
      | .awaiting => { s.labels with pausePending := true }
      | .paused => s.labels
      | .stopped _ => line .paused s.labels } := by
  unfold pauseEffect State.onLabels
  cases h : s.labels.line <;> simp only [h, hset]

/-! ## The tests -/

theorem canResume_iff {s : State} :
    canResume s = true ↔ (∃ r, s.labels.line = .stopped r) ∨ (s.labels.line = .paused ∧ s.labels.run ≠ .off) := by
  unfold canResume
  cases s.labels.line <;> simp

/-- RELABEL's frame is a KEPT frame of a live roll (R164). -/
theorem keptFrameOf_iff {s : State} {roll frame : Nat} :
    keptFrameOf s roll frame = true ↔ ∃ r, s.roll? roll = some r ∧ ∃ f ∈ r.frames, f.number = frame ∧ f.selection = .kept := by
  unfold keptFrameOf
  cases s.roll? roll <;> simp

theorem relabelRange_iff {roll frame : Nat} :
    (okRoll roll && inNat 1 72 frame) = true ↔ (1 ≤ roll ∧ roll ≤ 999999) ∧ 1 ≤ frame ∧ frame ≤ 72 := by
  rw [Bool.and_eq_true, okRoll, inNat_iff, inNat_iff]

theorem relabelRefusal_range {roll frame : Nat} {s : State} (h : ¬((1 ≤ roll ∧ roll ≤ 999999) ∧ 1 ≤ frame ∧ frame ≤ 72)) :
    relabelRefusal roll frame s = some .range := by
  rw [relabelRefusal, firstFailing_cons, if_neg (mt relabelRange_iff.1 h)]

theorem relabelRefusal_unknown {roll frame : Nat} {s : State} (h : (1 ≤ roll ∧ roll ≤ 999999) ∧ 1 ≤ frame ∧ frame ≤ 72)
    (hkept : ¬keptFrameOf s roll frame = true) : relabelRefusal roll frame s = some .unknown := by
  rw [relabelRefusal, firstFailing_cons, if_pos (relabelRange_iff.2 h), firstFailing_cons, if_neg hkept]

/-- With a KEPT frame named, RELABEL asks for a FAILED label (R164). -/
theorem relabelRefusal_of_kept {roll frame : Nat} {s : State} (h : (1 ≤ roll ∧ roll ≤ 999999) ∧ 1 ≤ frame ∧ frame ≤ 72)
    (hkept : keptFrameOf s roll frame = true) :
    relabelRefusal roll frame s
      = if labelStateOf s { roll := roll, frame := frame } = some .failed then none else some .state := by
  rw [relabelRefusal, firstFailing_cons, if_pos (relabelRange_iff.2 h), firstFailing_cons, if_pos hkept, firstFailing_cons,
    firstFailing_nil]
  simp only [decide_eq_true_eq]

/-! ## The requests -/

/-- PRINT LABELS accepted answers with the fields of the line it leaves (R161). -/
theorem exec_printLabels_accepted {s : State} {count : Nat} (hf : LinkFree s) (hc : count ≤ 255) {started : State → State}
    {page : State → List Field} (hstarted : ∀ t, printEffect count t = started t) (hpage : ∀ u, page u = lineFields u) :
    exec (.printLabels count) s = .next
      (replied (acceptedMsg 0x30 false (page (sendIfIdle (started (hunting s))))) (fun s => printEnd s (started s)) s) := by
  refine exec_replied rfl hf ((answer_accepted (by simp [hc])).trans ?_)
  simp only [hstarted, hpage]

theorem yesNo_decide (p : Prop) [Decidable p] : yesNo (decide p) = .u 1 (if p then 1 else 0) := by
  simp only [yesNo, decide_eq_true_eq]

/-- PAUSE PRINTER answers whether the pause is at the token (R162). -/
theorem exec_pausePrinter {s : State} (hf : LinkFree s) {paused : State → State} (hpaused : ∀ t, pauseEffect t = paused t) :
    exec .pausePrinter s = .next
      (replied (acceptedMsg 0x31 false [.u 1 (if s.labels.line = .awaiting then 1 else 0)]) (fun s => printEnd s (paused s)) s) := by
  refine exec_replied rfl hf ((answer_accepted (refusal := none) (s := hunting s) rfl).trans ?_)
  rw [hpaused, yesNo_decide]
  rfl

/-- RESUME PRINTER accepted resumes the line (R163). -/
theorem exec_resumePrinter_accepted {s : State} (hf : LinkFree s) (h : canResume s = true) {resumed : State → State}
    (hresumed : resumeLine (hunting s) = resumed (hunting s)) :
    exec .resumePrinter s = .next (replied (acceptedMsg 0x32 false []) (fun s => printEnd s (resumed s)) s) := by
  have hyes : canResume (hunting s) = true := h
  refine exec_replied rfl hf ((answer_accepted (by rw [firstFailing_cons, if_pos hyes, firstFailing_nil])).trans ?_)
  rw [hresumed]

/-- Settles O42: the requests of the printer line, each with its tests and its effect on the line, the run, a label or the date. -/
theorem printerRequests : Obligations.PrinterRequests := by
  refine fun s hf => ⟨fun count h => ?_, fun u => ⟨fun k ks => sendIfIdle_of_idle, sendIfIdle_of_busy⟩,
    fun count started page hc hpage hstarted => ?_, fun line hline => ?_, fun resumable hresumable => ⟨fun h => ?_, fun h hhead => ?_,
      fun k h hhead => ?_⟩, fun roll frame inRange hrange => ⟨fun h => ?_, fun h hno => ?_, fun r h hr hkept => ?_⟩,
    fun date => ⟨fun h => ?_, fun h => ?_⟩⟩
  · exact exec_refused rfl hf (answer_refused (by simp [Nat.not_le.2 h]))
  · refine exec_printLabels_accepted hf hc (fun t => ?_) (fun u => by simp [hpage, lineFields])
    obtain ⟨hheadless, hhead, hother⟩ := hstarted t _ rfl
    by_cases hp : t.labels.line = .paused
    · cases hh : t.labels.head with
      | none => exact (printEffect_of_headless hp hh).trans (hheadless hp hh).symm
      | some k => exact (printEffect_of_head hp hh).trans (hhead k hp hh).symm
    · exact (printEffect_of_going hp).trans (hother hp).symm
  · exact exec_pausePrinter hf (pauseEffect_eq hline)
  · have hno : ¬canResume (hunting s) = true := mt (canResume_iff.trans hresumable.symm).1 h
    exact exec_refused rfl hf (answer_refused (by rw [firstFailing_cons, if_neg hno]))
  · exact exec_resumePrinter_accepted hf (canResume_iff.2 (hresumable.1 h)) (resumeLine_of_headless (s := hunting s) hhead)
  · exact exec_resumePrinter_accepted hf (canResume_iff.2 (hresumable.1 h)) (resumeLine_of_head (s := hunting s) hhead)
  · exact exec_refused rfl hf (answer_refused (relabelRefusal_range (mt hrange.2 h)))
  · have hnone : ¬keptFrameOf (hunting s) roll frame = true := fun hk => by
      obtain ⟨r, hr, f, hmem, hnumber, hsel⟩ := keptFrameOf_iff.1 hk
      exact hno r hr f hmem hnumber hsel
    exact exec_refused rfl hf (answer_refused (relabelRefusal_unknown (hrange.1 h) hnone))
  · have hrefusal := relabelRefusal_of_kept (hrange.1 h) (keptFrameOf_iff.2 ⟨r, show (hunting s).roll? roll = _ from hr, hkept⟩)
    exact ⟨fun hstate => exec_refused rfl hf (answer_refused (hrefusal.trans (if_neg hstate))),
      fun hstate => exec_replied rfl hf (answer_accepted (hrefusal.trans (if_pos hstate)))⟩
  · exact exec_refused rfl hf (answer_refused (by simp [Nat.not_le.2 h]))
  · exact exec_replied rfl hf (answer_accepted (by simp [h]))

end Sys2Proof.Machine
end

section
/-! SUPPORT. Postings and the ceiling check: what a posting makes of one counter, its notices and its release, ADJUST ACCOUNT, the lowest
counter that fails, and the credits of frames (R171 to R178, R181). -/

namespace Sys2Proof.Machine

/-! ## One counter and a posting -/

/-- The matching of a posting, read as a proposition (R174). -/
theorem takes_iff {c : Counter} {kind : PostKind} {account : Nat} {stock : Option Nat} :
    c.takes kind account stock = true ↔
      c.enabled = true ∧ c.kinds.getLsbD kind.number = true ∧ BitVec.ofNat 16 account &&& c.acctMask = c.acctMatch
        ∧ ∀ x ∈ stock, c.stocks.getLsbD x = true := by
  cases stock <;> simp [Counter.takes, PostKind.number, and_assoc]

/-- The total after an amount is added, between 0 and 4,294,967,295 (R175). -/
theorem addHeld_eq (total : Nat) (amount : Int) : (addHeld total amount : Int) = max 0 (min 4294967295 (total + amount)) := by
  rw [addHeld, clampInt_eq_max_min (by decide), Config.maxTotal]
  omega

theorem postCounter_of_not_takes {kind : PostKind} {account : Nat} {stock : Option Nat} {amount : Int} {c : Counter}
    (h : ¬c.takes kind account stock = true) : postCounter kind account stock amount c = c := if_neg h

theorem postCounter_of_takes {kind : PostKind} {account : Nat} {stock : Option Nat} {amount : Int} {c : Counter} {total : Nat}
    (h : c.takes kind account stock = true) (htotal : (total : Int) = max 0 (min 4294967295 (c.total + amount))) :
    postCounter kind account stock amount c = { c with total := total, crossed := crossedAfter c total } := by
  obtain rfl : total = addHeld c.total amount := Int.ofNat_inj.1 (htotal.trans (addHeld_eq c.total amount).symm)
  exact if_pos h

/-! ## The level-crossed mark -/

theorem crossedAfter_of_no_level {c : Counter} (h : c.level = none) (total : Nat) : crossedAfter c total = c.crossed := by
  simp only [crossedAfter, h]

/-- A level reached from below sets the mark (R176). -/
theorem crossedAfter_of_reached {c : Counter} {l total : Nat} (h : c.level = some l) (hbelow : c.total < l) (hreached : l ≤ total) :
    crossedAfter c total = true := by
  simp only [crossedAfter, h, hbelow, hreached, and_self, if_true]

/-- A total below the level clears the mark (R176). -/
theorem crossedAfter_of_below {c : Counter} {l total : Nat} (h : c.level = some l) (hbelow : total < l) :
    crossedAfter c total = false := by
  simp only [crossedAfter, h, hbelow, Nat.not_le.2 hbelow, and_false, if_false, if_true]

theorem crossedAfter_of_stays {c : Counter} {l total : Nat} (h : c.level = some l) (hold : l ≤ c.total) (hnew : l ≤ total) :
    crossedAfter c total = c.crossed := by
  simp only [crossedAfter, h, Nat.not_lt.2 hold, Nat.not_lt.2 hnew, false_and, if_false]

/-! ## The posting -/

/-- The COUNTER LEVEL notices of a posting, the counters in rising number (R176). -/
def levelNotices (kind : PostKind) (account : Nat) (before after : Vector Counter 16) : List Notice :=
  (List.range 16).filterMap fun k => levelNotice kind account k (counterAt before k) (counterAt after k)

/-- The counters of a part after a posting (R175). -/
def posted (kind : PostKind) (account : Nat) (stock : Option Nat) (amount : Int) (s : State) : Vector Counter 16 :=
  mapVec (postCounter kind account stock amount) s.tally.counters

theorem post_eq (kind : PostKind) (account : Nat) (stock : Option Nat) (amount : Int) (s : State) :
    post kind account stock amount s =
      if (List.range 16).any fun k =>
          decide ((counterAt (posted kind account stock amount s) k).total < (counterAt s.tally.counters k).total) then
        releaseCeiling (queueNotices (levelNotices kind account s.tally.counters (posted kind account stock amount s))
          { s with tally := { s.tally with counters := posted kind account stock amount s } })
      else
        queueNotices (levelNotices kind account s.tally.counters (posted kind account stock amount s))
          { s with tally := { s.tally with counters := posted kind account stock amount s } } := rfl

theorem any_lowered_iff {v w : Vector Counter 16} :
    ((List.range 16).any fun k => decide ((counterAt w k).total < (counterAt v k).total)) = true
      ↔ ∃ k < 16, (counterAt w k).total < (counterAt v k).total := by
  simp only [List.any_eq_true, List.mem_range, decide_eq_true_eq]

/-! ## ADJUST ACCOUNT -/

theorem adjustRange_iff {account : Nat} {amount : Int} :
    (okAccount account && inInt (-99999) 99999 amount) = true ↔
      (1 ≤ account ∧ account ≤ 0xFFFE) ∧ -99999 ≤ amount ∧ amount ≤ 99999 := by
  rw [Bool.and_eq_true, okAccount, inNat_iff, inInt_iff]

/-- An ADJUST posting, which has no stock, matches by kind and account (R174, R181). -/
theorem takes_adjust (c : Counter) (account : Nat) :
    c.takes .adjust account none
      = (c.enabled && c.kinds.getLsbD 3 && decide (BitVec.ofNat 16 account &&& c.acctMask = c.acctMatch)) := Bool.and_true _

/-! ## The ceiling check -/

/-- A counter that takes part in the ceiling check and fails it, spelled out (R177, R178). -/
theorem failsCeiling_iff {account stock needed : Nat} {c : Counter} :
    failsCeiling account stock needed c = true ↔
      ∃ limit, c.enabled = true ∧ c.kinds.getLsbD 0 = true ∧ BitVec.ofNat 16 account &&& c.acctMask = c.acctMatch
        ∧ c.stocks.getLsbD stock = true ∧ c.ceiling = some limit ∧ limit < c.total + needed := by
  rw [failsCeiling, Bool.and_eq_true, takes_iff]
  cases c.ceiling <;> simp [PostKind.number, PostKind.bit, and_assoc]

theorem ceilingCheck_eq_some_iff {s : State} {account stock cls n k : Nat} {fails : Nat → Prop}
    (h : ∀ j, fails j ↔ j < 16 ∧ failsCeiling account stock (n * frameAmount s stock cls) (counterAt s.tally.counters j) = true) :
    ceilingCheck s account stock cls n = some k ↔ fails k ∧ ∀ j < k, ¬fails j := by
  rw [ceilingCheck, List.find?_range_eq_some]
  simp only [h, List.mem_range, Bool.not_eq_true', ← Bool.not_eq_true]
  constructor
  · rintro ⟨hk, hlt, hmin⟩
    exact ⟨⟨hlt, hk⟩, fun j hj hfails => hmin j hj hfails.2⟩
  · rintro ⟨⟨hlt, hk⟩, hmin⟩
    exact ⟨hk, hlt, fun j hj hfails => hmin j hj ⟨hj.trans hlt, hfails⟩⟩

theorem ceilingCheck_eq_none_iff {s : State} {account stock cls n : Nat} {fails : Nat → Prop}
    (h : ∀ j, fails j ↔ j < 16 ∧ failsCeiling account stock (n * frameAmount s stock cls) (counterAt s.tally.counters j) = true) :
    ceilingCheck s account stock cls n = none ↔ ∀ j, ¬fails j := by
  simp only [ceilingCheck, List.find?_eq_none, List.mem_range, h, not_and]

/-! ## The credits of frames -/

/-- One CREDIT posting for each EXPOSURE frame not yet credited, in the order of the frames (R125, R142, R172). -/
theorem creditFrames_eq_foldl (stock : Nat) (frames : List Frame) (s : State) :
    creditFrames stock frames s
      = (frames.filter fun f => decide (f.kind = .exposure) && !f.credited).foldl
          (fun s f => post .credit (f.account.getD 0) (some stock) (-(f.amount.getD 0 : Int)) s) s := by
  induction frames generalizing s with
  | nil => rfl
  | cons f fs ih =>
    have htest : (decide (f.kind = .exposure) && !f.credited) = true ↔ f.kind = .exposure ∧ f.credited = false := by simp
    rw [creditFrames]
    by_cases h : f.kind = .exposure ∧ f.credited = false
    · rw [if_pos h, List.filter_cons, if_pos (htest.2 h), List.foldl_cons, ih]
    · rw [if_neg h, List.filter_cons, if_neg (mt htest.1 h), ih]

/-! ## Postings, adjustments, ceilings and credits -/

/-- Settles O44: a posting counter by counter with its notices and its release, ADJUST ACCOUNT, the ceiling check and the credits. -/
theorem postingsAndCeilings : Obligations.PostingsAndCeilings := by
  refine ⟨fun kind account stock amount s => ⟨posted kind account stock amount s,
    levelNotices kind account s.tally.counters (posted kind account stock amount s), fun k hk c takes hc htakes => ?_, ?_,
    fun h => ?_, fun h => ?_⟩, fun account amount s inRange hf hrange => ⟨fun h => ?_, fun h => ?_⟩,
    fun s account stock cls n k fails hfails => ?_, creditFrames_eq_foldl⟩
  · have hposted : counterAt (posted kind account stock amount s) k = postCounter kind account stock amount c := by
      rw [hc, posted, counterAt_mapVec _ _ hk]
    have htakes := htakes.trans takes_iff.symm
    refine ⟨fun h => hposted.trans (postCounter_of_not_takes (mt htakes.2 h)), fun h total htotal => ?_⟩
    rw [hposted, postCounter_of_takes (htakes.1 h) htotal]
    refine ⟨fun hlevel => ?_, fun l hlevel => ⟨fun hbelow hreached => ?_, fun hbelow => ?_, fun hold hnew => ?_⟩⟩
    · rw [crossedAfter_of_no_level hlevel]
    · rw [crossedAfter_of_reached hlevel hbelow hreached]
    · rw [crossedAfter_of_below hlevel hbelow]
    · rw [crossedAfter_of_stays hlevel hold hnew]
  · refine List.filterMap_congr fun k _ => ?_
    unfold levelNotice
    cases (counterAt s.tally.counters k).level <;> rfl
  · rw [post_eq, if_pos (any_lowered_iff.2 h)]
  · refine (post_eq kind account stock amount s).trans (if_neg (mt any_lowered_iff.1 ?_))
    rintro ⟨k, hk, hlowered⟩
    exact h k hk hlowered
  · have hr : ¬(okAccount account && inInt (-99999) 99999 amount) = true := mt (hrange.trans adjustRange_iff.symm).2 h
    exact exec_refused rfl hf (answer_refused (by rw [firstFailing_cons, if_neg hr]))
  · have hr : (okAccount account && inInt (-99999) 99999 amount) = true := (hrange.trans adjustRange_iff.symm).1 h
    refine exec_replied rfl hf ((answer_accepted (by rw [firstFailing_cons, if_pos hr, firstFailing_nil])).trans ?_)
    simp only [adjustedFields, takes_adjust, hunting_tally]
  · have hfails : ∀ j, fails j ↔
        j < 16 ∧ failsCeiling account stock (n * frameAmount s stock cls) (counterAt s.tally.counters j) = true := fun j => by
      rw [hfails, failsCeiling_iff]
      simp [frameAmount]
    exact ⟨ceilingCheck_eq_some_iff hfails, ceilingCheck_eq_none_iff hfails⟩

end Sys2Proof.Machine
end

section
/-! SUPPORT. Two rolls of the register with one unload sequence: the order of the WAITING labels then goes by slot, the register order of
the labels by frame number, and the two part (R87, R130, R151). -/

namespace Sys2Proof.Machine

/-! ## Two rolls with one unload sequence -/

/-- A kept frame whose label is WAITING. -/
def waitingFrame (number : Nat) : Frame :=
  { number := number, kind := .exposure, group := number, step := 0, code := 84, nd := 0, ticks := 1280, dense := false,
    shortClamp := false, longClamp := false, amount := some 0, account := some 1, credited := false, selection := .kept,
    label := some .waiting }

/-- An unloaded roll with unload sequence 0 and one frame, its label WAITING. -/
def waitingRoll (id number : Nat) : Roll :=
  { id := id, stock := 0, declared := 12, next := 3, loadSeq := 0, unloadSeq := some 0, unloadKind := some .rewound, endMark := none,
    groups := [], frames := [waitingFrame number] }

/-- Slot 0 holds roll 1 with frame 2 WAITING, slot 1 holds roll 2 with frame 1 WAITING, and both have unload sequence 0. The
soundness of the rolls, which keeps their ids apart, does not keep their unload sequences apart: the counter wraps (R87). -/
def tiedRolls : State :=
  { State.reset with
    register :=
      (State.reset.register.setIfInBounds 0 (some (waitingRoll 1 2))).setIfInBounds 1 (some (waitingRoll 2 1)) }

theorem tiedRolls_sound : RollsSound tiedRolls := by decide

/-- The labels are listed by the slots of their rolls, as the stable order of equal unload sequences leaves them. -/
theorem tiedRolls_waiting :
    labelsWith .waiting tiedRolls = [{ roll := 1, frame := 2 }, { roll := 2, frame := 1 }] := by decide

/-- By frame number the first label listed does not stand before the second. -/
theorem tiedRolls_not_before :
    ¬labelBefore tiedRolls { roll := 1, frame := 2 } { roll := 2, frame := 1 } = true := by decide

/-- Refutes O51: its fill says that the first WAITING label stands in the register order before every other of a state with sound
rolls, and on two rolls with one unload sequence it does not. -/
theorem not_printerLineEvents : ¬Obligations.PrinterLineEvents := by
  rintro ⟨-, -, -, -, -, hfill, -⟩
  obtain ⟨-, -, -, -, htake⟩ := hfill tiedRolls
  have hroom : tiedRolls.labels.queue.length < 32 := by decide
  obtain ⟨hfirst, -⟩ := htake 0 _ _ hroom tiedRolls_waiting
  exact tiedRolls_not_before (hfirst tiedRolls_sound _ List.mem_cons_self)

end Sys2Proof.Machine
end

section
/-! The CRC-8 of R188: its register after one more byte, and why no single changed byte keeps it; the frames that carry it (O11). -/

namespace Sys2Proof

/-! ## The register -/

theorem crc8_append (xs ys : List Byte) : crc8 (xs ++ ys) = ys.foldl crcByte (crc8 xs) := List.foldl_append

/-- One bit of the register, by its most significant bit. -/
theorem crcShift_eq (r : Byte) : crcShift r = if r.getLsbD 7 then (r <<< 1) ^^^ 0x07#8 else r <<< 1 := by
  rw [crcShift, BitVec.msb_eq_getLsbD_last]

/-- A byte comes into the register as a difference, followed by eight bits of shifting. -/
theorem crcByte_eq (r b : Byte) : crcByte r b = crcShift^[8] (r ^^^ b) := rfl

/-- The CRC-8 of the digits 1 to 9 is the check value of its polynomial. -/
theorem crc8_digits :
    crc8 [0x31#8, 0x32#8, 0x33#8, 0x34#8, 0x35#8, 0x36#8, 0x37#8, 0x38#8, 0x39#8] = 0xF4#8 := by decide +kernel

/-- One bit of the register taken back: the low bit tells whether 07h came in, since the shift leaves it clear. -/
def crcUnshift (r : Byte) : Byte := if r.getLsbD 0 then ((r ^^^ 0x07#8) >>> 1) ||| 0x80#8 else r >>> 1

theorem crcUnshift_crcShift : Function.LeftInverse crcUnshift crcShift := by
  unfold Function.LeftInverse
  decide

theorem crcShift_injective : Function.Injective crcShift := crcUnshift_crcShift.injective

/-- A register and a byte make the same register again only by the same difference. -/
theorem crcByte_eq_iff {r q a b : Byte} : crcByte r a = crcByte q b ↔ r ^^^ a = q ^^^ b := by
  rw [crcByte_eq, crcByte_eq]
  exact (crcShift_injective.iterate 8).eq_iff

theorem crcByte_byte_injective (r : Byte) : Function.Injective (crcByte r) := fun _ _ h =>
  (BitVec.xor_right_inj r).1 (crcByte_eq_iff.1 h)

theorem crcByte_register_injective (b : Byte) : Function.Injective fun r => crcByte r b := fun _ _ h =>
  (BitVec.xor_left_inj b).1 (crcByte_eq_iff.1 h)

/-- Two registers that differ still differ after the same bytes. -/
theorem foldl_crcByte_injective (bytes : List Byte) : Function.Injective fun r => bytes.foldl crcByte r := by
  induction bytes with
  | nil => exact Function.injective_id
  | cons b bytes ih => exact ih.comp (crcByte_register_injective b)

/-- Settles O11: the changed byte makes two registers, and the bytes after it keep them apart. -/
theorem singleByteErrorsDetected : Obligations.SingleByteErrorsDetected := by
  intro before after a b hab h
  rw [crc8_append, crc8_append] at h
  exact hab (crcByte_byte_injective _ (foldl_crcByte_injective after h))

/-! ## Frames -/

/-- One byte is the value itself. -/
theorem natBytes_one (v : Nat) : natBytes 1 v = [BitVec.ofNat 8 v] := by simp [natBytes]

/-- A label frame carries the CRC-8 of its LENGTH and fields (R153, R188). -/
theorem labelFrame_crc (r : Machine.LabelRecord) :
    ∃ bytes : List Byte, Machine.labelFrame r
      = 0x3C#8 :: BitVec.ofNat 8 bytes.length :: bytes ++ [crc8 (BitVec.ofNat 8 bytes.length :: bytes)] := by
  refine ⟨(Machine.labelCore r).tail, ?_⟩
  have hcore : Machine.labelCore r
      = BitVec.ofNat 8 (Machine.labelCore r).tail.length :: (Machine.labelCore r).tail := by
    rw [Machine.labelCore, natBytes_one]
    rfl
  rw [Machine.labelFrame, ← hcore]
  rfl

end Sys2Proof
end

section
/-! The desk link's receiver and the requests it takes: a frame offered, rejected and tested, the arrival of a request, and the two ways
a request is answered (O1, O2, O3, O6, O7, O8). -/

namespace Sys2Proof.Machine

/-! ## A step -/

/-- Settles O1: both cases of the queue. -/
theorem stepTakesFront : Obligations.StepTakesFront :=
  ⟨fun _ _ _ => rfl, fun s h => by rw [step, h]⟩

/-! ## Rejected frames and offered requests -/

/-- A rejection fills the slot, or is counted into it (R190). -/
theorem rejectFrame_eq (reason : RejectReason) (kind : Byte) (s : State) : rejectFrame reason kind s = rejectedWith reason kind s := by
  cases h : s.link.slot with
  | none => simp only [rejectFrame, rejectedWith, State.onLink, Link.reject, h, Option.map_none, Option.getD_none]
  | some r => simp only [rejectFrame, rejectedWith, State.onLink, Link.reject, h, Option.map_some, Option.getD_some, Rejection.oneMore]

/-- A request offered with the reply buffer empty is taken (R191). -/
theorem offerRequest_taken {s : State} (h : s.link.reply = none) (inc : Incoming) :
    offerRequest inc s = takeRequest inc (hunting s) := by
  simp only [offerRequest, h, Option.isNone_none, if_true]
  rfl

/-- A request offered with a reply waiting is HELD (R191). -/
theorem offerRequest_held {s : State} (h : s.link.reply.isSome = true) (inc : Incoming) :
    offerRequest inc s = { s with link := { s.link with rx := .hunting, held := some inc } } := by
  have hreply : ¬s.link.reply.isNone = true := by simp [Option.isNone_iff_eq_none, Option.isSome_iff_ne_none.1 h]
  rw [offerRequest, if_neg hreply]
  rfl

/-- A request that arrives with none HELD and no frame counted through is offered (R191). -/
theorem arrive_offered {s : State} (hheld : s.link.held = none) (hrx : s.link.rx ≠ .counting) (r : Request) :
    arrive r s = offerRequest (.read r) s := by
  rw [arrive, if_neg (by simp [hheld, hrx])]

theorem arrive_overrun {s : State} (h : s.link.held.isSome = true ∨ s.link.rx = .counting) (r : Request) :
    arrive r s = rejectedWith .overrun 0#8 s := by
  rw [arrive, if_pos h, rejectFrame_eq]

/-- Settles O2: the arrival of a request, by what the receiver and the reply buffer hold. -/
theorem requestsTakenHeldOrOverrun : Obligations.RequestsTakenHeldOrOverrun := by
  intro c r s hc
  rw [exec_of_request hc]
  refine ⟨fun hf => ?_, fun hheld hrx hreply => ?_, fun h => ?_⟩
  · rw [arrive_of_linkFree hf]
  · rw [arrive_offered hheld hrx, offerRequest_held hreply]
  · rw [arrive_overrun h]

/-! ## The two ways of an answer -/

/-- A request of a kind is answered in one of two ways: refused with the whole state as it was, or accepted (R192). -/
def AnswersOneWay (kind : Nat) (s : State) (a : State × Msg) : Prop :=
  (∃ code, a = (s, refusedMsg kind code)) ∨ ∃ truncated fields, a.2 = acceptedMsg kind truncated fields

theorem answer_oneWay (kind : Nat) (refusal : Option Code) (s : State) (truncated : Bool) (fields : List Field) (after : State) :
    AnswersOneWay kind s (answer kind refusal s truncated fields after) := by
  cases refusal with
  | some code => exact .inl ⟨code, rfl⟩
  | none => exact .inr ⟨truncated, fields, rfl⟩

theorem onNamedBack_oneWay {kind back : Nat} {s : State} {f : BackId → State × Msg} (h : ∀ b, AnswersOneWay kind s (f b)) :
    AnswersOneWay kind s (onNamedBack kind back s f) := by
  unfold onNamedBack
  split
  · exact answer_oneWay ..
  · exact h _

theorem answerUnload_oneWay (kind back : Nat) (b : BackId) (how : UnloadKind) (refusal : Option Code) (s : State) :
    AnswersOneWay kind s (answerUnload kind back b how refusal s) := by
  unfold answerUnload
  split <;> exact answer_oneWay ..

theorem answerReadOrder_oneWay (number first : Nat) (s : State) : AnswersOneWay 0x16 s (answerReadOrder number first s) := by
  unfold answerReadOrder
  split
  · exact answer_oneWay ..
  · split <;> exact answer_oneWay ..

theorem answerSetProfile_oneWay (cat mode : Nat) (p : Int) (fixed : Option Nat) (s : State) :
    AnswersOneWay 0x19 s (answerSetProfile cat mode p fixed s) := by
  unfold answerSetProfile
  split <;> exact answer_oneWay ..

theorem answerReadRoll_oneWay (roll first : Nat) (s : State) : AnswersOneWay 0x2E s (answerReadRoll roll first s) := by
  unfold answerReadRoll
  split
  · exact answer_oneWay ..
  · split
    · exact answer_oneWay ..
    · split <;> exact answer_oneWay ..

theorem answerReadFrames_oneWay (roll first : Nat) (s : State) : AnswersOneWay 0x2F s (answerReadFrames roll first s) := by
  unfold answerReadFrames
  split
  · exact answer_oneWay ..
  · split <;> exact answer_oneWay ..

theorem answerReadLabelsRecord_oneWay (roll frame : Nat) (s : State) :
    AnswersOneWay 0x35 s (answerReadLabelsRecord roll frame s) := by
  unfold answerReadLabelsRecord
  split
  · exact answer_oneWay ..
  · split <;> exact answer_oneWay ..

/-- Every block answers its requests with `answer`, under the request's own kind. -/
theorem answerRequest_oneWay (r : Request) (s : State) : AnswersOneWay r.kind s (answerRequest r s) := by
  cases r with
  | loadRoll | rewindBack => exact onNamedBack_oneWay fun _ => answer_oneWay ..
  | unloadBack | clearBack => exact onNamedBack_oneWay fun _ => answerUnload_oneWay ..
  | readOrder n i => exact answerReadOrder_oneWay n i s
  | setProfile c m p f => exact answerSetProfile_oneWay c m p f s
  | readRoll r i => exact answerReadRoll_oneWay r i s
  | readFrames r i => exact answerReadFrames_oneWay r i s
  | readLabelsRecord r f => exact answerReadLabelsRecord_oneWay r f s
  | readStock | readHead | readBack | resetStand | readStand | pausePrinter | closePeriod => exact answer_oneWay (refusal := none) ..
  | _ => exact answer_oneWay ..

/-- Settles O3: a refusal and an acceptance as their messages spell them. -/
theorem acceptedOrRefused : Obligations.AcceptedOrRefused := by
  intro r s
  rcases answerRequest_oneWay r s with h | ⟨truncated, fields, h⟩
  · exact .inl h
  · exact .inr ⟨if truncated then 1 else 0, fields, by cases truncated <;> decide, h⟩

/-! ## Frames received -/

/-- What ends a frame that is being received is what becomes of it. -/
theorem frameEnds_receiving {s : State} (h : s.link.rx = .receiving) (received : State → State) : frameEnds received s = received s := by
  rw [frameEnds, h]

/-- What ends a frame counted through rejects it OVERRUN (R191). -/
theorem frameEnds_counting {s : State} (h : s.link.rx = .counting) (received : State → State) :
    frameEnds received s = rejectedWith .overrun 0#8 s := by
  rw [frameEnds, h, ← rejectFrame_eq]

theorem exec_frameEnd {kind check : Byte} {body : List Byte} {s : State} (h : s.link.rx = .receiving) :
    exec (.frameEnd kind body check) s = .next (testFrame kind body check s) :=
  congrArg Host.Outcome.next (frameEnds_receiving h _)

theorem testFrame_check {kind check : Byte} {body : List Byte} (h : crc8 (frameCore kind body) ≠ check) (s : State) :
    testFrame kind body check s = rejectedWith .check 0#8 s := by
  rw [testFrame, if_pos h, rejectFrame_eq]

theorem testFrame_kind {kind check : Byte} {body : List Byte} (h : crc8 (frameCore kind body) = check)
    (hkind : bodySize kind.toNat = none) (s : State) : testFrame kind body check s = rejectedWith .kind kind s := by
  rw [testFrame, if_neg (not_not_intro h), hkind, ← rejectFrame_eq]

theorem testFrame_length {kind check : Byte} {body : List Byte} {least : Nat × Bool} (h : crc8 (frameCore kind body) = check)
    (hkind : bodySize kind.toNat = some least) (hsize : sizeOk least body.length = false) (s : State) :
    testFrame kind body check s = rejectedWith .length kind s := by
  rw [testFrame, if_neg (not_not_intro h), hkind, ← rejectFrame_eq]
  exact if_neg (by simp [hsize])

/-- A frame that passes the three tests is offered. -/
theorem testFrame_offered {kind check : Byte} {body : List Byte} {least : Nat × Bool} (h : crc8 (frameCore kind body) = check)
    (hkind : bodySize kind.toNat = some least) (hsize : sizeOk least body.length = true) (s : State) :
    testFrame kind body check s = offerRequest (readIncoming kind.toNat body) s := by
  rw [testFrame, if_neg (not_not_intro h), hkind]
  exact if_pos hsize

/-- The kinds of requests are the numbers of one byte. -/
theorem kind_toNat (r : Request) : (BitVec.ofNat 8 r.kind).toNat = r.kind := by cases r <;> rfl

/-- Settles O6: the frame passes its tests, its body reads back, and both ways offer the same request. -/
theorem frameRunsItsRequest : Obligations.FrameRunsItsRequest := by
  intro c r least s hc hwf hkind hsize hrx hheld
  obtain ⟨hfit, -⟩ := Bool.and_eq_true_iff.1 hwf
  have hcounting : s.link.rx ≠ .counting := by simp [hrx]
  rw [exec_frameEnd hrx, testFrame_offered rfl (by rw [kind_toNat]; exact hkind) hsize, kind_toNat, readIncoming_body r hfit,
    exec_of_request hc, arrive_offered hheld hcounting]

/-- No kind past 3Bh is assigned. -/
theorem bodySize_above (n : Nat) : bodySize (n + 0x3C) = none := rfl

/-- The assigned kinds are 10h to 3Bh: each of those has a size, and past them and below them there is none. -/
theorem bodySize_isSome_iff (kind : Nat) : (bodySize kind).isSome = true ↔ 0x10 ≤ kind ∧ kind ≤ 0x3B := by
  by_cases h : kind < 0x3C
  · have hall : ∀ k < 0x3C, (bodySize k).isSome = true ↔ 0x10 ≤ k ∧ k ≤ 0x3B := by decide
    exact hall kind h
  · obtain ⟨above, rfl⟩ := Nat.exists_eq_add_of_le' (Nat.le_of_not_lt h)
    exact iff_of_false (by rw [bodySize_above]; decide) (by omega)

theorem sizeOk_iff (least size : Nat) (fixed : Bool) :
    sizeOk (least, fixed) size = true ↔ if fixed then size = least else least ≤ size := by
  cases fixed <;> simp [sizeOk]

/-- Settles O7: one lemma for each outcome of the tests, and the table of sizes. -/
theorem frameTestsInOrder : Obligations.FrameTestsInOrder := by
  refine ⟨fun kind check body s hrx => ?_, bodySize_isSome_iff, rfl, fun least size fixed => sizeOk_iff least size fixed⟩
  rw [exec_frameEnd hrx]
  refine ⟨fun h => by rw [testFrame_check h], fun h hkind => by rw [testFrame_kind h hkind],
    fun least h hkind => ⟨fun hsize => ?_, fun hsize hreply => ?_, fun hsize hreply => ?_⟩⟩
  · rw [testFrame_length h hkind hsize]
  · rw [testFrame_offered h hkind hsize, offerRequest_taken hreply]
  · rw [testFrame_offered h hkind hsize, offerRequest_held hreply]

/-! ## The receiver -/

/-- SYNC in HUNTING starts a frame, counted through while a request is HELD (R187, R191). -/
theorem syncEvent_hunting {s : State} (h : s.link.rx = .hunting) :
    syncEvent s = { s with link := { s.link with rx := if s.link.held.isSome then .counting else .receiving } } := by
  rw [syncEvent, State.onLink]
  simp only [h]

/-- SYNC inside a frame is data (R187). -/
theorem syncEvent_inFrame {s : State} (h : s.link.rx ≠ .hunting) : syncEvent s = s := by
  rw [syncEvent, State.onLink]
  cases hrx : s.link.rx with
  | hunting => exact absurd hrx h
  | receiving => rfl
  | counting => rfl

theorem overrunEndEvent_counting {s : State} (h : s.link.rx = .counting) : overrunEndEvent s = rejectedWith .overrun 0#8 s := by
  rw [overrunEndEvent, h, ← rejectFrame_eq]

/-- Settles O8: each event by what the receiver is doing. -/
theorem receiverEvents : Obligations.ReceiverEvents := by
  refine fun s => ⟨fun h hheld => ?_, fun h hheld => ?_, fun h => ?_, fun h => ?_, fun kind h => ?_, fun h => ?_, rfl⟩
  · change Host.Outcome.next (syncEvent s) = _
    rw [syncEvent_hunting h, hheld]
    rfl
  · change Host.Outcome.next (syncEvent s) = _
    rw [syncEvent_hunting h, if_pos hheld]
  · exact congrArg Host.Outcome.next (syncEvent_inFrame h)
  · rw [← rejectFrame_eq]
    exact congrArg Host.Outcome.next (frameEnds_receiving h _)
  · rw [← rejectFrame_eq]
    exact congrArg Host.Outcome.next (frameEnds_receiving h _)
  · exact ⟨congrArg Host.Outcome.next (overrunEndEvent_counting h), congrArg Host.Outcome.next (frameEnds_counting h _),
      fun _ => congrArg Host.Outcome.next (frameEnds_counting h _),
      fun _ _ _ => congrArg Host.Outcome.next (frameEnds_counting h _)⟩

end Sys2Proof.Machine
end

section
/-! The outgoing line: a message that has been sent, the HELD request then taken, and the message a free line sends next; the check byte
of every frame sent (O9, O10). -/

namespace Sys2Proof.Machine

/-! ## What is being sent through a request -/

/-- The part by itself changes nothing of the message being sent: of the desk link it queues notices alone. -/
theorem Move.sending_same (a b : State) (h : Move a b) : b.link.sending = a.link.sending := by
  cases h with
  | notice n =>
    rw [queueNotice, onLink_link]
    split <;> rfl
  | _ => rfl

/-- Beside the desk link's own changes and power-on nothing changes the message being sent. -/
theorem OwnMove.sending_same {o : Own} (hlink : o ≠ .link) (hpower : o ≠ .power) (a b : State) (h : OwnMove o a b) :
    b.link.sending = a.link.sending := by
  cases h with
  | link => exact absurd rfl hlink
  | power => exact absurd rfl hpower
  | _ => rfl

theorem ne_link_power_of_mem_requestOwns {r : Request} {o : Own} (h : o ∈ requestOwns r) : o ≠ .link ∧ o ≠ .power := by
  cases r <;> simp only [requestOwns, List.mem_cons, List.not_mem_nil, or_false] at h
  all_goals rcases h with rfl | rfl <;> decide

/-- The answer to a request leaves the message being sent. -/
theorem answerRequest_sending (r : Request) (s : State) : (answerRequest r s).1.link.sending = s.link.sending := by
  refine (answerRequest_steps r s).keeps (P := fun t => t.link.sending = s.link.sending)
    (fun a b h ha => (Move.sending_same a b h).trans ha) (fun o ho a b h ha => ?_) rfl
  obtain ⟨hlink, hpower⟩ := ne_link_power_of_mem_requestOwns ho
  exact (OwnMove.sending_same hlink hpower a b h).trans ha

theorem takeRequest_sending (inc : Incoming) (s : State) : (takeRequest inc s).link.sending = s.link.sending := by
  cases inc with
  | read r => exact answerRequest_sending r s
  | refuse kind code => rfl

/-! ## The end of a message -/

theorem finishSending_none {s : State} (h : s.link.sending = none) : finishSending s = s := by rw [finishSending, h]

/-- A rejection or a notice that has been sent frees the line. -/
theorem finishSending_other {s : State} {m : Sending} (h : s.link.sending = some m) (hm : m.source ≠ .reply) :
    finishSending s = { s with link := { s.link with sending := none } } := by
  rw [finishSending, h]
  cases hsource : m.source with
  | reply => exact absurd hsource hm
  | rejection => simp only [hsource, State.onLink]
  | notice => simp only [hsource, State.onLink]

/-- A reply that has been sent empties its buffer (R191). -/
theorem finishSending_reply {s : State} {m : Sending} (h : s.link.sending = some m) (hm : m.source = .reply) :
    finishSending s = takeHeld { s with link := { s.link with sending := none, reply := none } } := by
  rw [finishSending, h]
  simp only [hm]
  rfl

/-- The HELD request is taken out of the receiver and answered (R191). -/
theorem takeHeld_some {s : State} {inc : Incoming} (h : s.link.held = some inc) :
    takeHeld s = takeRequest inc { s with link := { s.link with held := none } } := by
  rw [takeHeld, h]
  rfl

theorem takeHeld_none {s : State} (h : s.link.held = none) : takeHeld s = s := by rw [takeHeld, h]

theorem takeHeld_sending (s : State) : (takeHeld s).link.sending = s.link.sending := by
  cases h : s.link.held with
  | none => rw [takeHeld_none h]
  | some inc => rw [takeHeld_some h, takeRequest_sending]

/-- Once a message has been sent, and the HELD request taken where one waits, nothing is being sent. -/
theorem finishSending_sending (s : State) : (finishSending s).link.sending = none := by
  cases h : s.link.sending with
  | none => rw [finishSending_none h, h]
  | some m =>
    by_cases hm : m.source = .reply
    · rw [finishSending_reply h hm, takeHeld_sending]
    · rw [finishSending_other h hm]

/-! ## The next message -/

theorem exec_lineFreeSend (s : State) : exec .lineFreeSend s = .next (sendNext (finishSending s)) := rfl

/-- A line that is free sends the next message. -/
theorem exec_lineFreeSend_free {s : State} (h : s.link.sending = none) : exec .lineFreeSend s = .next (sendNext s) := by
  rw [exec_lineFreeSend, finishSending_none h]

/-- LINE FREE SEND does with a line that is sending what it does with the line once it is free. -/
theorem exec_lineFreeSend_finished {s t : State} (h : finishSending s = t) : exec .lineFreeSend s = exec .lineFreeSend t := by
  have hfree : t.link.sending = none := h ▸ finishSending_sending s
  rw [exec_lineFreeSend_free hfree, exec_lineFreeSend, h]

theorem sendNext_reply {s : State} {m : Msg} (h : s.link.reply = some m) :
    sendNext s = { s with link := { s.link with sending := some { source := .reply, bytes := m.frame } } } := by
  simp only [sendNext, State.onLink, h]

theorem sendNext_rejection {s : State} {r : Rejection} (hreply : s.link.reply = none) (h : s.link.slot = some r) :
    sendNext s = { s with link := { s.link with slot := none, sending := some { source := .rejection, bytes := r.msg.frame } } } := by
  simp only [sendNext, State.onLink, hreply, h]

theorem sendNext_notice {s : State} {n : Notice} {ns : List Notice} (hreply : s.link.reply = none) (hslot : s.link.slot = none)
    (h : s.link.notices = n :: ns) :
    sendNext s = { s with link := { s.link with
      notices := ns, overrun := false, sending := some { source := .notice, bytes := (n.msg s.link.overrun).frame } } } := by
  simp only [sendNext, State.onLink, hreply, hslot, h]

/-- With no message ready nothing is sent. -/
theorem sendNext_idle {s : State} (hreply : s.link.reply = none) (hslot : s.link.slot = none) (h : s.link.notices = []) :
    sendNext s = s := by
  simp only [sendNext, State.onLink, hreply, hslot, h]

/-! ## The frames sent -/

/-- The frame of FRAME REJECTED: its reason, the kind received and the count (R190). -/
theorem rejection_frame (r : Rejection) :
    r.msg.frame = frameBytes 0xE1#8 [BitVec.ofNat 8 r.reason.number, r.kind, BitVec.ofNat 8 r.count] := by
  simp [Msg.frame, Rejection.msg, natBytes_one]

/-- The frame of a notice: its status byte with the overrun mark, and its fields (R198). -/
theorem notice_frame (n : Notice) (overrun : Bool) :
    (n.msg overrun).frame = frameBytes (BitVec.ofNat 8 n.kind) ((if overrun then 1#8 else 0#8) :: bodyBytes n.fields) := by
  cases overrun <;> simp [Msg.frame, Notice.msg, natBytes_one]

/-- Whatever a free line comes to send is a frame with its CHECK byte (R187, R188). -/
theorem sendNext_sending {s : State} {m : Sending} (hfree : s.link.sending = none) (h : (sendNext s).link.sending = some m) :
    ∃ msg : Msg, m.bytes = msg.frame := by
  cases hreply : s.link.reply with
  | some msg =>
    rw [sendNext_reply hreply] at h
    cases h
    exact ⟨msg, rfl⟩
  | none =>
    cases hslot : s.link.slot with
    | some r =>
      rw [sendNext_rejection hreply hslot] at h
      cases h
      exact ⟨r.msg, rfl⟩
    | none =>
      cases hnotices : s.link.notices with
      | cons n ns =>
        rw [sendNext_notice hreply hslot hnotices] at h
        cases h
        exact ⟨n.msg s.link.overrun, rfl⟩
      | nil =>
        rw [sendNext_idle hreply hslot hnotices, hfree] at h
        cases h

theorem lineFreeSend_sends_frame {s t : State} {m : Sending} (h : exec .lineFreeSend s = .next t) (hm : t.link.sending = some m) :
    ∃ (kind : Byte) (body : List Byte), m.bytes = frameBytes kind body := by
  rw [exec_lineFreeSend] at h
  cases h
  obtain ⟨msg, hbytes⟩ := sendNext_sending (finishSending_sending s) hm
  exact ⟨BitVec.ofNat 8 msg.kind, bodyBytes msg.body, hbytes⟩

/-- Settles O10: the register byte by byte, and the frames that carry it. -/
theorem checkByteComputation : Obligations.CheckByteComputation := by
  refine ⟨rfl, fun bytes b => ?_, crc8_digits, fun _ _ => rfl, fun _ _ _ => lineFreeSend_sends_frame, labelFrame_crc,
    fun kind check body s hrx h => ?_⟩
  · rw [crc8_append, ← funext crcShift_eq]
    exact crcByte_eq _ b
  · rw [exec_frameEnd hrx, testFrame_check h]

/-! ## The notice queue -/

/-- A notice joins a queue with room for it (R198). -/
theorem queueNotice_room {s : State} (h : s.link.notices.length < 16) (n : Notice) :
    queueNotice n s = { s with link := { s.link with notices := s.link.notices ++ [n] } } := by
  have hroom : s.link.notices.length < Config.maxNotices := h
  simp only [queueNotice, State.onLink, hroom, if_true]

/-- A notice that finds 16 is dropped, with the overrun mark set (R198). -/
theorem queueNotice_full {s : State} (h : 16 ≤ s.link.notices.length) (n : Notice) :
    queueNotice n s = { s with link := { s.link with overrun := true } } := by
  have hroom : ¬s.link.notices.length < Config.maxNotices := Nat.not_lt.2 h
  simp only [queueNotice, State.onLink, hroom, if_false]

/-- Settles O9: the order of the messages, the ends of each kind of message, and the notice queue. -/
theorem outgoingLine : Obligations.OutgoingLine := by
  refine ⟨fun s hfree => ?_, fun s m hm hsource => exec_lineFreeSend_finished (finishSending_other hm hsource),
    fun s m hm hsource hheld => ?_, fun s m inc hm hsource hheld => ?_,
    fun n s => ⟨fun h => queueNotice_room h n, fun h => queueNotice_full h n⟩⟩
  · rw [exec_lineFreeSend_free hfree]
    refine ⟨fun m hreply => ?_, fun r hreply hslot => ?_, fun n ns hreply hslot hnotices => ?_, fun hreply hslot hnotices => ?_⟩
    · rw [sendNext_reply hreply]
    · rw [sendNext_rejection hreply hslot, rejection_frame]
    · rw [sendNext_notice hreply hslot hnotices, notice_frame]
    · rw [sendNext_idle hreply hslot hnotices]
  · exact exec_lineFreeSend_finished ((finishSending_reply hm hsource).trans (takeHeld_none hheld))
  · have hfinished := (finishSending_reply hm hsource).trans (takeHeld_some hheld)
    refine ⟨?_, exec_lineFreeSend_finished hfinished⟩
    change Host.Outcome.next (heldTakenEvent s) = _
    simp only [heldTakenEvent, hheld, hm, hsource, if_true, hfinished]

end Sys2Proof.Machine
end
